-- ==== Sys2Proof/Word.lean ====
section
/-! DEFINITION. The two word types of the part: a byte of a frame and a 32-bit Time Base value. -/

namespace Sys2Proof

/-- One byte of a frame body (12.1). -/
abbrev Byte := BitVec 8

/-- A Time Base value or a deadline: a 32-bit count that wraps (R69, R70). -/
abbrev Word := BitVec 32

end Sys2Proof
end

