-- ==== Sys2Proof/Config.lean ====
section
/-! DEFINITION. The part's fixed capacities and limits, and the values the spec leaves open. -/

namespace Sys2Proof

/-- A count of 32 bits wraps from its largest value to 0 (R18, R145, R166). -/
abbrev Config.wrap32 : Nat := 4294967296

/-- Lane queue places (R10). -/
abbrev Config.laneQueueMax : Nat := 16

/-- Office queue places (R16) and bank frame queue places (R17). -/
abbrev Config.frameQueueMax : Nat := 8

/-- Consecutive framing errors that take a lane DOWN (R7). -/
abbrev Config.downAt : Nat := 16

/-- Binding entries of one lane (2.6). -/
abbrev Config.bindingsPerLane : Nat := 128

/-- Shops (R110). -/
abbrev Config.shops : Nat := 512

/-- Slots of the hold table (4.2). -/
abbrev Config.holdSlots : Nat := 2048

/-- Entries of the accrual queue (R113). -/
abbrev Config.accrualMax : Nat := 16

/-- Serials the fault list holds (R53). -/
abbrev Config.faultMax : Nat := 16

/-- Records of the capture window (R93). -/
abbrev Config.windowMax : Nat := 16384

/-- Entries of the journal ring, and the limit of whole-ring reservations (R178, R180). -/
abbrev Config.ringMax : Nat := 16384

/-- The general limit of reservations (R180). -/
abbrev Config.generalLimit : Nat := 16336

/-- The unacknowledged count at which JOURNAL_HIGH is raised (R181). -/
abbrev Config.highMark : Nat := 12288

/-- Slots of the payout window (R162). -/
abbrev Config.payoutSlots : Nat := 16

/-- Largest lane amount, ADJUST amount and debt limit, in cents (R51, R67, R37). -/
abbrev Config.amountMax : Nat := 10000000

/-- Largest card balance (3.1, R67, R103). -/
abbrev Config.balanceMax : Nat := 2147483647

/-- Largest value of a bank accumulator and of a carry's magnitude (R117, R124). -/
abbrev Config.bankMax : Nat := 140737488355327

/-- Largest value of an unsigned house field or ledger total, and of a signed 64-bit one (R60, R111). -/
abbrev Config.long : Nat := 9223372036854775807

/-- Last period (R129, R130). -/
abbrev Config.lastPeriod : Nat := 65535

/-- FREE VALUE (log 21). What a ledger total holds after a change that would carry it outside 0 to 2^63 − 1, as a
function of the exact sum. The spec states no result there (R60). Nothing constrains it. -/
opaque Config.unstatedTotal : Int → Nat

/-- FREE VALUE (log 22). The 4-byte field that carries a journal pointer of 2^32 or more, once the numbering is spent
(R179). The spec states no value there (12.1). Nothing constrains it. -/
opaque Config.unstatedPointer : Nat → Nat

/-- FREE VALUE (log 23). The byte of an answer that names the granted slot, while none is granted (R160). Nothing
constrains it. -/
opaque Config.noSlot : Nat

/-- FREE VALUE (log 23). The byte of an answer that names the source in service, while none is (R193 to R195). Nothing
constrains it. -/
opaque Config.noSource : Nat

/-- FREE VALUE (log 23). The field of an answer that carries a closing bank's tag, while it has none (R139, R190). Nothing
constrains it. -/
opaque Config.noTag : Nat

/-- FREE VALUE (log 24). The time left to a deadline that passed that many milliseconds ago, at least one (R166). Nothing
constrains it. -/
opaque Config.overdueTimeLeft : Word → Nat

/-- FREE VALUE (log 42). Whether the n-th power-fail warning falls after the write of the roll in the Settlement Unit's work in
hand and before the write that would follow it (R128). Nothing constrains it. -/
opaque Config.warningAfterRoll : Nat → Bool

end Sys2Proof
end

