-- ==== Sys2Proof/Syntax.lean ====
section
/-! DEFINITION. The commands of the part: one constructor per row of spec/opcode_table.json. -/

namespace Sys2Proof

/-- One asynchronous character as received: its data byte and whether its stop bit was high (R1, R2). -/
structure RxChar where
  data : Byte
  stopOk : Bool
  deriving DecidableEq, Repr

/-- The card capacity that the CAPSEL pins select at power-on reset (00_scope). -/
inductive Capacity where
  | c65536
  | c131072
  | c262144
  deriving DecidableEq, Repr

/-- The number of cards of a capacity. -/
def Capacity.cards : Capacity → Nat
  | .c65536 => 65536
  | .c131072 => 131072
  | .c262144 => 262144

/-- The steps of the part. An operand is what the event brings from outside; a step without operands finds
everything it needs in the state. Links are numbered 0 to 3 for the lanes, 4 office, 5 payout (R1). -/
inductive Instr where
  | powerOnReset (capacity : Capacity)
  | pfwAssert
  | pfwRelease
  | restartPerformed
  | idleGap (link : Nat)
  | truncatedFrame (link : Nat)
  | laneFrameReceived (lane : Nat) (chars : List RxChar)
  | officeFrameReceived (chars : List RxChar)
  | bankFrameReceived (chars : List RxChar)
  | laneAnswerSent (lane : Nat)
  | officeFrameSent
  | paySend
  | payFrameSent
  | laneBadRequest
  | activate
  | load
  | balance
  | redeem
  | cashout
  | authorize
  | capture
  | void
  | refund
  | holdDeadlineReached
  | expiry
  | accrualApply
  | closeEntry
  | rollSweep
  | slotGrant
  | channelVisit
  | bankFrameTaken
  | pull
  | doneAnswer
  | backAnswer
  | payDeadlineReached (slot : Nat)
  | deadlineExpiry
  | streamMark
  | attnChoice
  | cardPassRecord
  | recoveryDoubt
  | accrualReplay
  | recoveryEnd
  | laneUp
  | laneStatus
  | readStatus
  | restart
  | readTable
  | writeTableProgram
  | writeTableAccept
  | writeTableHouse
  | writeTableBinding
  | writeTableSettings
  | format
  | openLedger
  | readCard
  | provision
  | suspend
  | resume
  | closeCard
  | adjust
  | rewriteCard
  | readTotals
  | closePeriod
  | setShop
  | readShop
  | snapShop
  | readSnap
  | readHouse
  | resolve
  | setChannel
  | armChannel
  | stepChannel
  | maskChannelMask
  | maskChannelUnmask
  | channelStatus
  | journalRead
  | journalAck
  | streamSet
  | attnMask
  | attnEnd
  | attnMode
  | officeBadRequest
  | formatComplete
  | transmitterBeginsFrame (link : Nat)
  deriving DecidableEq, Repr

end Sys2Proof
end

