-- ==== Sys2Proof/Machine/State.lean ====
section
/-! DEFINITION. Everything the spec gives the machine, as plain data; the values every reset gives the on-chip blocks;
FORMAT's contents of the ledger store; State.reset. -/

namespace Sys2Proof.Machine

/-! ### Faults and refusals -/

/-- Nothing in the spec stops the part, so there is no fault: no constructor. -/
inductive Fault where
  deriving DecidableEq, Repr

/-- Reasons to refuse a command. -/
inductive Refusal where
  /-- Raised by exec alone, for a command that has no meaning yet. Safe: it claims nothing. -/
  | notModelled (mnemonic : String)
  deriving DecidableEq, Repr

/-! ### Tables

A table of the store or of the chip is a list of (key, record) pairs in one canonical form (Machine/Table.lean): keys
strictly rising, no record equal to the one an unlisted key reads as. -/

/-- A sparse table with numbered entries. -/
abbrev Table (α : Type) := List (Nat × α)

/-! ### Names -/

/-- Lane results (12.3). -/
inductive LaneResult where
  | approved | part | busy | badRequest | unknownTerminal | notOpen | shopClosed | shopFrozen | shopBarred | noCard
  | recordFault | notAccepted | cardState | badCode | badAmount | holdUnknown | holdEnded | holdExpired | wrongShop
  | refundUnknown | refundTooOld | refundElsewhere | refundExceeds | holdsFull | limit | insufficient | journalFull
  deriving DecidableEq, Repr

/-- Office answer codes (12.3). -/
inductive OfficeCode where
  | done | busy | badRequest | badValue | wrongState | payoutOpen | rollBusy | periodLimit | holdsOpen | insufficient
  | journalFull | latchHeld | empty
  deriving DecidableEq, Repr

/-- Receiver states (1.3). -/
inductive RxState where
  | hunt | run | down
  deriving DecidableEq, Repr

/-- Card states (3.1). -/
inductive CardState where
  | blank | stock | active | suspended | closed
  deriving DecidableEq, Repr

/-- Suspend causes (3.1). -/
inductive SuspendCause where
  | office | lockout
  deriving DecidableEq, Repr

/-- Shop office states (2.8). -/
inductive OfficeState where
  | vacant | trading | frozen | departed
  deriving DecidableEq, Repr

/-- Closing states (6.5). -/
inductive ClosingState where
  | none | owed | emitted | settled | returned | inDoubt | carried | house
  deriving DecidableEq, Repr

/-- Ledger states (3.2). -/
inductive LedgerState where
  | recovering | config | opened
  deriving DecidableEq, Repr

/-- Reset causes (R196). -/
inductive ResetCause where
  | powerOn | restart | powerFail
  deriving DecidableEq, Repr

/-- Channel states (R146). -/
inductive ChannelState where
  | idle | waitClose | running | waitSlot | waitStep | waitPull | done
  deriving DecidableEq, Repr

/-- Channel directions (8.1). -/
inductive Direction where
  | ascending | descending
  deriving DecidableEq, Repr

/-- Channel modes (8.1). -/
inductive ChannelMode where
  | block | single | demand
  deriving DecidableEq, Repr

/-- Slot priorities (R152). -/
inductive SlotPriority where
  | fixed | rotating
  deriving DecidableEq, Repr

/-- Attention modes (R192). -/
inductive AttnModeName where
  | fixed | rotating | automaticEnd
  deriving DecidableEq, Repr

/-- Streaming units (R185). -/
inductive StreamUnit where
  | milliseconds | entries
  deriving DecidableEq, Repr

/-- Causes a hold ends by (R74). -/
inductive EndCause where
  | captured | voided | expired
  deriving DecidableEq, Repr

/-- Directions of ADJUST (R67). -/
inductive AdjustDirection where
  | credit | debit
  deriving DecidableEq, Repr

/-- Outcomes of RESOLVE (R173). -/
inductive ResolveOutcome where
  | settled | returned
  deriving DecidableEq, Repr

/-- Causes of a CARD_STATE entry (R177). -/
inductive CardStateCause where
  | codeFailure | suspend | resume | rewrite
  deriving DecidableEq, Repr

/-- Causes of a PAY_DOUBT entry (R141, R170). -/
inductive DoubtCause where
  | deadline | recovery
  deriving DecidableEq, Repr

/-- The eight attention sources (11.3), in the order of their numbers. -/
inductive Source where
  | recordFault | settleFault | payoutInDoubt | payoutReturned | journalFull | journalHigh | laneDown | channelTc
  deriving DecidableEq, Repr

/-! ### Records of the ledger store -/

/-- A card record (3.1). Fields that are absent are none. Whether the stored check value matches the other fields is one
flag (R41, log 6). -/
structure CardRecord where
  state : CardState
  suspend : Option SuspendCause
  program : Option Nat
  balance : Nat
  held : Nat
  holdCount : Nat
  code : Option Nat
  failures : Nat
  issuing : Option Nat
  activation : Option Nat
  lastUse : Option Nat
  seq : Nat
  checkOk : Bool
  deriving DecidableEq, Repr

/-- The record FORMAT writes (R41). -/
def CardRecord.blank : CardRecord :=
  { state := .blank, suspend := none, program := none, balance := 0, held := 0, holdCount := 0, code := none, failures := 0,
    issuing := none, activation := none, lastUse := none, seq := 0, checkOk := true }

/-- A program record (2.3). Rates in basis points, lifetime in seconds. -/
structure Program where
  boundary : Nat
  enabled : Bool
  loadLimit : Nat
  activationMin : Nat
  rate : Nat
  lifetime : Nat
  maxHolds : Nat
  refundWindow : Nat
  ceiling : Nat
  deriving DecidableEq, Repr

/-- The program record FORMAT writes (R21). -/
def Program.initial : Program :=
  { boundary := 0, enabled := false, loadLimit := 100, activationMin := 0, rate := 0, lifetime := 10, maxHolds := 1,
    refundWindow := 0, ceiling := 0 }

/-- The acceptance flags of one segment: bit p of each is the flag for program p (2.4). -/
structure AcceptRow where
  re : BitVec 8
  le : BitVec 8
  xe : BitVec 8
  deriving DecidableEq, Repr

/-- All flags clear (R21). -/
def AcceptRow.initial : AcceptRow := { re := 0, le := 0, xe := 0 }

/-- The house range; the stop shop is exclusive (R32). -/
structure HouseRange where
  start : Nat
  stop : Nat
  deriving DecidableEq, Repr

/-- A binding entry (2.6). -/
structure Binding where
  address : Nat
  shop : Nat
  enabled : Bool
  deriving DecidableEq, Repr

/-- The binding entry FORMAT writes (R21). -/
def Binding.initial : Binding := { address := 0, shop := 0, enabled := false }

/-- The settlement settings (2.7). -/
structure Settings where
  payoutMin : Nat
  answerTimeout : Nat
  priority : SlotPriority
  deriving DecidableEq, Repr

/-- A stored channel setup (8.1). -/
structure ChannelSetup where
  baseShop : Nat
  baseCount : Nat
  dir : Direction
  mode : ChannelMode
  auto : Bool
  deriving DecidableEq, Repr

/-- The setup FORMAT writes (R144). -/
def ChannelSetup.initial : ChannelSetup :=
  { baseShop := 0, baseCount := 511, dir := .ascending, mode := .block, auto := false }

/-- The open bank of a shop (6.1). Q is in residue units. -/
structure OpenBank where
  period : Nat
  g : Nat
  f : Nat
  s : Nat
  x : Nat
  q : Int
  deriving DecidableEq, Repr

/-- The closing bank of a shop (6.1). -/
structure ClosingBank where
  period : Nat
  net : Int
  commission : Int
  state : ClosingState
  amount : Nat
  tag : Option Nat
  deriving DecidableEq, Repr

/-- A shop record (6.1). -/
structure ShopRecord where
  office : OfficeState
  debtLimit : Nat
  debtBar : Bool
  sat : Bool
  bank : OpenBank
  remainder : Nat
  carry : Int
  missed : Nat
  closing : ClosingBank
  deriving DecidableEq, Repr

/-- The shop record FORMAT writes (R110). -/
def ShopRecord.initial : ShopRecord :=
  { office := .vacant, debtLimit := 0, debtBar := false, sat := false,
    bank := { period := 1, g := 0, f := 0, s := 0, x := 0, q := 0 },
    remainder := 0, carry := 0, missed := 0,
    closing := { period := 0, net := 0, commission := 0, state := .none, amount := 0, tag := none } }

/-- The house record (R111). -/
structure HouseRecord where
  net : Int
  unclaimed : Nat
  commission : Int
  settled : Nat
  mark : Nat
  sat : Bool
  deriving DecidableEq, Repr

/-- The house record FORMAT writes (R111). -/
def HouseRecord.initial : HouseRecord :=
  { net := 0, unclaimed := 0, commission := 0, settled := 0, mark := 0, sat := false }

/-- The eight ledger totals (R60). -/
structure Totals where
  loaded : Nat
  refunded : Nat
  adjustedCredit : Nat
  adjustedDebit : Nat
  captured : Nat
  cashedOut : Nat
  unclaimed : Nat
  float : Nat
  deriving DecidableEq, Repr

/-- All totals 0 (R60). -/
def Totals.zero : Totals :=
  { loaded := 0, refunded := 0, adjustedCredit := 0, adjustedDebit := 0, captured := 0, cashedOut := 0, unclaimed := 0,
    float := 0 }

/-- A capture record (5.1). -/
structure CaptureRecord where
  ref : Nat
  card : Nat
  shop : Nat
  program : Nat
  rate : Nat
  captured : Nat
  refunded : Nat
  period : Nat
  deriving DecidableEq, Repr

/-- The fields of a ROLL entry (R125). -/
structure RollFields where
  shop : Nat
  period : Nat
  g : Nat
  f : Nat
  s : Nat
  x : Nat
  q : Int
  q0 : Nat
  q1 : Nat
  carryBefore : Int
  folded : Nat
  commission : Int
  net : Int
  state : ClosingState
  amount : Nat
  carryAfter : Int
  clamped : Int
  office : OfficeState
  debtLimit : Nat
  debtBar : Bool
  sat : Bool
  missed : Nat
  deriving DecidableEq, Repr

/-- The fields of each entry kind beyond the common four (R177). -/
inductive EntryBody where
  | activate (card seq lane terminal shop amount balance : Nat)
  | load (card seq lane terminal shop amount balance : Nat)
  | authorize (card seq ref shop lane terminal amount rate : Nat) (deadline : Word)
  | capture (card seq ref shop program held amount rate : Nat)
  | void (card seq ref shop amount : Nat)
  | expire (card ref shop lane terminal rate amount : Nat) (newSeq : Option Nat)
  | redeem (card seq shop lane terminal program rate amount : Nat)
  | refund (card seq capture shop lane terminal original amount rate period refunded : Nat)
  | cashout (card seq shop lane terminal amount : Nat)
  | adjust (card seq : Nat) (direction : AdjustDirection) (amount : Nat)
  | provision (card seq program : Nat)
  | cardState (card seq : Nat) (cause : CardStateCause) (state : CardState) (suspend : Option SuspendCause)
      (failures : Nat) (rewrite : Option (CardRecord × Int))
  | closeCard (card seq amount : Nat)
  | period (closed new : Nat)
  | roll (fields : RollFields)
  | payEmit (tag shop period amount channel : Nat)
  | payDone (tag shop period amount : Nat) (late : Bool)
  | payBack (tag shop period amount reason : Nat) (late : Bool)
  | payDoubt (tag shop period amount : Nat) (cause : DoubtCause)
  | resolve (shop period tag amount : Nat) (outcome : ResolveOutcome)
  | restart (cause : ResetCause) (rewritten released doubted replayed : Nat)
  deriving DecidableEq, Repr

/-- A journal entry: the common fields and those of its kind (R177). -/
structure JournalEntry where
  seq : Nat
  time : Word
  period : Nat
  body : EntryBody
  deriving DecidableEq, Repr

/-- The ledger store (00_scope, R21, R41, R43, R93, R110, R144, R163, R178). The ring lists the entries still in their
positions, newest first. -/
structure Store where
  signature : Bool
  openFlag : Bool
  periodWord : Nat
  cards : Table CardRecord
  programs : Table Program
  accept : Table AcceptRow
  house : HouseRange
  bindings : Table Binding
  settings : Settings
  setups : Table ChannelSetup
  nextTag : Nat
  shops : Table ShopRecord
  houseRec : HouseRecord
  totals : Totals
  window : List CaptureRecord
  ring : List JournalEntry
  nextToWrite : Nat
  oldestUnack : Nat
  deriving DecidableEq, Repr

/-- The contents FORMAT writes (R21, R44, R110, R111, R144, R163, R178). -/
def Store.formatted : Store :=
  { signature := true, openFlag := false, periodWord := 0, cards := [], programs := [], accept := [],
    house := { start := 0, stop := 0 }, bindings := [],
    settings := { payoutMin := 1000, answerTimeout := 60, priority := .fixed },
    setups := [], nextTag := 1, shops := [], houseRec := HouseRecord.initial, totals := Totals.zero, window := [],
    ring := [], nextToWrite := 1, oldestUnack := 1 }

/-- A store never formatted: no signature. What its tables read as is FORMAT's contents (log 8). -/
def Store.blank : Store := { Store.formatted with signature := false }

/-! ### Links -/

/-- A lane answer (kind 20, 12.2). -/
structure LaneAnswer where
  terminal : Nat
  tag : Nat
  kind : Byte
  result : LaneResult
  approved : Option Nat
  available : Option Nat
  holdRef : Option Nat
  captureRef : Option Nat
  deriving DecidableEq, Repr

/-- The stages of a lane queue entry (1.4). -/
inductive Stage where
  | waiting
  | taken
  | answered (answer : LaneAnswer)
  deriving DecidableEq, Repr

/-- A lane queue entry: the request frame's kind and body as received, and its stage (R10). -/
structure LaneEntry where
  kind : Byte
  body : List Byte
  stage : Stage
  deriving DecidableEq, Repr

/-- The two producers of a lane's answers (R13). -/
inductive LaneReady where
  | answer
  | busy
  deriving DecidableEq, Repr

/-- A frame a lane transmitter is sending. -/
structure LaneSending where
  source : LaneReady
  bytes : List Byte
  deriving DecidableEq, Repr

/-- One lane link: receiver, counters, queue, BUSY place, order of readiness, transmitter (1.3 to 1.5, R18). -/
structure Lane where
  rx : RxState
  consecutive : Nat
  taken : Nat
  framing : Nat
  busyCount : Nat
  overflows : Nat
  queue : List LaneEntry
  busyPlace : Option LaneAnswer
  ready : List LaneReady
  sending : Option LaneSending
  deriving DecidableEq, Repr

/-- A lane after every reset (R20). -/
def Lane.initial : Lane :=
  { rx := .hunt, consecutive := 0, taken := 0, framing := 0, busyCount := 0, overflows := 0, queue := [],
    busyPlace := none, ready := [], sending := none }

/-- A received office or bank frame: kind and body. -/
structure Frame where
  kind : Byte
  body : List Byte
  deriving DecidableEq, Repr

/-- An office answer (kind 80, 12.2): office tag, request kind echoed, code, data. -/
structure OfficeAnswer where
  tag : Nat
  kind : Byte
  code : OfficeCode
  data : List Byte
  deriving DecidableEq, Repr

/-- The producers of the office transmitter's frames (R14). -/
inductive OfficeSource where
  | answer
  | busy
  | attn
  | stream
  deriving DecidableEq, Repr

/-- A frame the office transmitter is sending. -/
structure OfficeSending where
  source : OfficeSource
  bytes : List Byte
  deriving DecidableEq, Repr

/-- The office link (R14, R16, R18). `ready` is the order in which the two office answers became ready. -/
structure OfficeLink where
  rx : RxState
  taken : Nat
  framing : Nat
  busyCount : Nat
  overflows : Nat
  queue : List Frame
  answerPlace : Option OfficeAnswer
  busyPlace : Option OfficeAnswer
  ready : List LaneReady
  attnPlace : Option Nat
  streamPlace : Option (List JournalEntry)
  sending : Option OfficeSending
  deriving DecidableEq, Repr

/-- The office link after every reset (R20). -/
def OfficeLink.initial : OfficeLink :=
  { rx := .hunt, taken := 0, framing := 0, busyCount := 0, overflows := 0, queue := [], answerPlace := none,
    busyPlace := none, ready := [], attnPlace := none, streamPlace := none, sending := none }

/-- A PAY frame's fields (12.2). -/
structure PayFrame where
  tag : Nat
  shop : Nat
  period : Nat
  amount : Nat
  deriving DecidableEq, Repr

/-- The payout link (R15, R17, R18). -/
structure PayLink where
  rx : RxState
  taken : Nat
  framing : Nat
  unknown : Nat
  overruns : Nat
  queue : List Frame
  place : Option PayFrame
  sending : Option (List Byte)
  deriving DecidableEq, Repr

/-- The payout link after every reset (R20). -/
def PayLink.initial : PayLink :=
  { rx := .hunt, taken := 0, framing := 0, unknown := 0, overruns := 0, queue := [], place := none, sending := none }

/-! ### Card Ledger, holds, recovery -/

/-- The Card Ledger's on-chip registers (R43, R48, R53, R44, R130). `top` is the requester standing highest in the
rotation: 0 to 3 the lanes, 4 the office card queue. -/
structure Ledger where
  mode : LedgerState
  period : Nat
  top : Nat
  faults : List Nat
  faultOverflow : Bool
  formatting : Bool
  closeOutstanding : Bool
  deriving DecidableEq, Repr

/-- An open hold (4.2). -/
structure Hold where
  card : Nat
  shop : Nat
  lane : Nat
  terminal : Nat
  amount : Nat
  rate : Nat
  deadline : Word
  deriving DecidableEq, Repr

/-- A slot of the hold table: open when it holds a hold, else free with its end memory (R71, R72, R74). -/
structure HoldSlot where
  gen : Nat
  hold : Option Hold
  memory : Option (Nat × EndCause)
  deriving DecidableEq, Repr

/-- A slot after every reset (R71). -/
def HoldSlot.initial : HoldSlot := { gen := 0, hold := none, memory := none }

/-- A hold in the expiry queue or, posted, in the list of waiting expiry requests (R76, R77). -/
structure ExpiryItem where
  slot : Nat
  gen : Nat
  deadline : Word
  deriving DecidableEq, Repr

/-- The progress of the two recovery passes and the counts RESTART carries (R46, R141, R142, R182). -/
structure Recovery where
  cardCursor : Nat
  rewritten : Nat
  released : Nat
  counted : Bool
  doubted : Nat
  replayed : Nat
  deriving DecidableEq, Repr

/-- Recovery at its beginning. -/
def Recovery.initial : Recovery :=
  { cardCursor := 0, rewritten := 0, released := 0, counted := false, doubted := 0, replayed := 0 }

/-! ### Settlement Unit -/

/-- The money effect of one committed card change (R113). -/
inductive Effect where
  | sold (shop amount : Nat)
  | redeemed (shop amount rate : Nat)
  | refunded (shop amount rate : Nat)
  | cashed (shop amount : Nat)
  | unclaimed (amount : Nat)
  deriving DecidableEq, Repr

/-- An entry of the accrual queue: an effect with its commit period and source sequence, or CLOSE with the requested
period (R113). -/
inductive Accrual where
  | money (effect : Effect) (period source : Nat)
  | close (requested : Nat)
  deriving DecidableEq, Repr

/-- Class 2 work of the Settlement Unit (R137, R165, R170). -/
inductive Answer where
  | done (tag shop period : Nat)
  | back (tag shop period reason : Nat)
  | deadline (slot tag : Nat)
  deriving DecidableEq, Repr

/-- A channel visit (R153). -/
structure Visit where
  channel : Nat
  shop : Nat
  slot : Nat
  deriving DecidableEq, Repr

/-- The Settlement Unit's on-chip state (R113, R129, R134 to R138). -/
structure Settle where
  period : Nat
  accruals : List Accrual
  answers : List Answer
  visits : List Visit
  visitsHigher : Bool
  unrolled : Nat
  openPayouts : Nat
  cursor : Nat
  wait : Nat
  deriving DecidableEq, Repr

/-- The Settlement Unit after every reset, but for its copy of the current period (R137, R141). -/
def Settle.initial : Settle :=
  { period := 0, accruals := [], answers := [], visits := [], visitsHigher := true, unrolled := 0, openPayouts := 0,
    cursor := 0, wait := 0 }

/-! ### Payout Controller and Payout Link Unit -/

/-- The run state of a channel (R145). -/
structure Channel where
  st : ChannelState
  mask : Bool
  maskPending : Bool
  cur : Nat
  remaining : Nat
  dir : Direction
  mode : ChannelMode
  auto : Bool
  tc : Bool
  passPending : Bool
  credit : Nat
  visits : Nat
  emitted : Nat
  slot : Option Nat
  deriving DecidableEq, Repr

/-- A channel after every reset over the setup of R144's FORMAT values (R145). -/
def Channel.initial : Channel :=
  { st := .idle, mask := true, maskPending := false, cur := 0, remaining := 511, dir := .ascending, mode := .block,
    auto := false, tc := false, passPending := false, credit := 0, visits := 0, emitted := 0, slot := none }

/-- What a FILLED slot holds (R162): the payout, whether its PAY has been handed to the transmitter, and whether its
deadline expiry has been handed over (R170). -/
structure Payout where
  tag : Nat
  shop : Nat
  period : Nat
  amount : Nat
  deadline : Word
  sent : Bool
  expired : Bool
  deriving DecidableEq, Repr

/-- A slot of the payout window (R162). -/
inductive Slot where
  | free
  | granted (channel : Nat)
  | filled (payout : Payout)
  deriving DecidableEq, Repr

/-- The Payout Link Unit's on-chip state (R152, R162, R164, R166). -/
structure PayoutUnit where
  slots : Table Slot
  payList : List Nat
  lastGranted : Nat
  late : Nat
  stray : Nat
  deriving DecidableEq, Repr

/-- The Payout Link Unit after every reset (R152, R162, R166). -/
def PayoutUnit.initial : PayoutUnit := { slots := [], payList := [], lastGranted := 3, late := 0, stray := 0 }

/-! ### Journal Unit, Office Unit, attention unit -/

/-- The Journal Unit's on-chip state (R178, R181, R185, R186). -/
structure JournalChip where
  nextStream : Nat
  reserved : Nat
  highHeld : Bool
  fullHeld : Bool
  streamOn : Bool
  unit : StreamUnit
  interval : Nat
  streamCount : Nat
  deriving DecidableEq, Repr

/-- The Journal Unit after every reset, but for next to stream (R178, R185; log 33 for the two held flags). -/
def JournalChip.initial : JournalChip :=
  { nextStream := 1, reserved := 0, highHeld := false, fullHeld := false, streamOn := false, unit := .milliseconds,
    interval := 1000, streamCount := 0 }

/-- The request in flight at the Office Unit, and its answer once it is formed (R16). -/
structure InFlight where
  frame : Frame
  answer : Option OfficeAnswer
  deriving DecidableEq, Repr

/-- A copy in the snapshot latch (R189). -/
structure Snapshot where
  shop : Nat
  record : ShopRecord
  period : Nat
  time : Word
  deriving DecidableEq, Repr

/-- The Office Unit (R16, R189, R196, R197). -/
structure OfficeUnit where
  inFlight : Option InFlight
  restartTaken : Bool
  latch : Option Snapshot
  resetCause : ResetCause
  deriving DecidableEq, Repr

/-- The attention unit (R191 to R194). Bit n of `pending` and `mask` belongs to source n. -/
structure Attention where
  pending : BitVec 8
  mask : BitVec 8
  inService : Option Nat
  mode : AttnModeName
  lowest : Nat
  deriving DecidableEq, Repr

/-- The attention unit after every reset (R191). -/
def Attention.initial : Attention := { pending := 0, mask := 0, inService := none, mode := .fixed, lowest := 7 }

/-! ### The whole machine -/

/-- The state of the part, and two fields of the model's own: the queue of commands that wait, and how many warnings have been
asserted, which numbers their free values (log 42). -/
structure State where
  pfw : Bool
  cap : Nat
  time : Word
  lanes : Table Lane
  officeLink : OfficeLink
  payLink : PayLink
  ledger : Ledger
  holds : Table HoldSlot
  expiryQ : List ExpiryItem
  waiting : List ExpiryItem
  recovery : Recovery
  settle : Settle
  channels : Table Channel
  plu : PayoutUnit
  journal : JournalChip
  office : OfficeUnit
  attn : Attention
  store : Store
  pending : List Instr
  warnings : Nat
  deriving DecidableEq, Repr

/-- Right after power-on reset of a part whose store was never formatted and whose CAPSEL pins select 65,536 cards
(R20, R46, R69, R92, R141, R145, R162, R178, R189, R191, R196; log 8 and log 9 for the store and the capacity). -/
def State.reset : State :=
  { pfw := false, cap := 65536, time := 0, lanes := [], officeLink := OfficeLink.initial, payLink := PayLink.initial,
    ledger := { mode := .recovering, period := 0, top := 0, faults := [], faultOverflow := false, formatting := false,
                closeOutstanding := false },
    holds := [], expiryQ := [], waiting := [], recovery := Recovery.initial, settle := Settle.initial, channels := [],
    plu := PayoutUnit.initial, journal := JournalChip.initial,
    office := { inFlight := none, restartTaken := false, latch := none, resetCause := .powerOn },
    attn := Attention.initial, store := Store.blank, pending := [], warnings := 0 }

end Sys2Proof.Machine
end

