-- ==== Sys2Proof/Machine/Codes.lean ====
section
/-! DEFINITION. The codes of 12.3 and 12.5: enumerated fields are numbered from 0 in the order the manual lists them. -/

namespace Sys2Proof.Machine

/-- Lane result codes (12.3). -/
def LaneResult.code : LaneResult → Nat
  | .approved => 0x00
  | .part => 0x01
  | .busy => 0x02
  | .badRequest => 0x03
  | .unknownTerminal => 0x04
  | .notOpen => 0x05
  | .shopClosed => 0x06
  | .shopFrozen => 0x07
  | .shopBarred => 0x08
  | .noCard => 0x09
  | .recordFault => 0x0A
  | .notAccepted => 0x0B
  | .cardState => 0x10
  | .badCode => 0x11
  | .badAmount => 0x12
  | .holdUnknown => 0x13
  | .holdEnded => 0x14
  | .holdExpired => 0x15
  | .wrongShop => 0x16
  | .refundUnknown => 0x17
  | .refundTooOld => 0x18
  | .refundElsewhere => 0x19
  | .refundExceeds => 0x1A
  | .holdsFull => 0x1B
  | .limit => 0x1C
  | .insufficient => 0x1D
  | .journalFull => 0x1E

/-- Office answer codes (12.3). -/
def OfficeCode.code : OfficeCode → Nat
  | .done => 0x00
  | .busy => 0x01
  | .badRequest => 0x02
  | .badValue => 0x03
  | .wrongState => 0x04
  | .payoutOpen => 0x05
  | .rollBusy => 0x06
  | .periodLimit => 0x07
  | .holdsOpen => 0x08
  | .insufficient => 0x09
  | .journalFull => 0x0A
  | .latchHeld => 0x0B
  | .empty => 0x0C

/-- Receiver states HUNT, RUN, DOWN (12.3). -/
def RxState.code : RxState → Nat
  | .hunt => 0
  | .run => 1
  | .down => 2

/-- Card states BLANK to CLOSED (12.3). -/
def CardState.code : CardState → Nat
  | .blank => 0
  | .stock => 1
  | .active => 2
  | .suspended => 3
  | .closed => 4

/-- The card state a byte names, if any (12.3). -/
def CardState.ofCode : Nat → Option CardState
  | 0 => some .blank
  | 1 => some .stock
  | 2 => some .active
  | 3 => some .suspended
  | 4 => some .closed
  | _ => none

/-- Suspend cause: 0 absent, OFFICE 1, LOCKOUT 2 (12.3). -/
def suspendCode : Option SuspendCause → Nat
  | none => 0
  | some .office => 1
  | some .lockout => 2

/-- The suspend cause field a byte stands for, if any (12.3). -/
def suspendOfCode : Nat → Option (Option SuspendCause)
  | 0 => some none
  | 1 => some (some .office)
  | 2 => some (some .lockout)
  | _ => none

/-- Office states VACANT to DEPARTED (12.3). -/
def OfficeState.code : OfficeState → Nat
  | .vacant => 0
  | .trading => 1
  | .frozen => 2
  | .departed => 3

/-- The office state a byte names, if any (12.3). -/
def OfficeState.ofCode : Nat → Option OfficeState
  | 0 => some .vacant
  | 1 => some .trading
  | 2 => some .frozen
  | 3 => some .departed
  | _ => none

/-- Closing states NONE to HOUSE (12.3). -/
def ClosingState.code : ClosingState → Nat
  | .none => 0
  | .owed => 1
  | .emitted => 2
  | .settled => 3
  | .returned => 4
  | .inDoubt => 5
  | .carried => 6
  | .house => 7

/-- Ledger states RECOVERING, CONFIG, OPEN (12.3). -/
def LedgerState.code : LedgerState → Nat
  | .recovering => 0
  | .config => 1
  | .opened => 2

/-- Reset causes POWER_ON, RESTART, POWER_FAIL (12.3). -/
def ResetCause.code : ResetCause → Nat
  | .powerOn => 0
  | .restart => 1
  | .powerFail => 2

/-- Channel states IDLE to DONE (12.3). -/
def ChannelState.code : ChannelState → Nat
  | .idle => 0
  | .waitClose => 1
  | .running => 2
  | .waitSlot => 3
  | .waitStep => 4
  | .waitPull => 5
  | .done => 6

/-- Directions ASCENDING, DESCENDING (12.3). -/
def Direction.code : Direction → Nat
  | .ascending => 0
  | .descending => 1

/-- The direction a byte names, if any (12.3). -/
def Direction.ofCode : Nat → Option Direction
  | 0 => some .ascending
  | 1 => some .descending
  | _ => none

/-- Modes BLOCK, SINGLE, DEMAND (12.3). -/
def ChannelMode.code : ChannelMode → Nat
  | .block => 0
  | .single => 1
  | .demand => 2

/-- The mode a byte names, if any (12.3). -/
def ChannelMode.ofCode : Nat → Option ChannelMode
  | 0 => some .block
  | 1 => some .single
  | 2 => some .demand
  | _ => none

/-- Slot priorities FIXED, ROTATING (12.3). -/
def SlotPriority.code : SlotPriority → Nat
  | .fixed => 0
  | .rotating => 1

/-- The slot priority a byte names, if any (12.3). -/
def SlotPriority.ofCode : Nat → Option SlotPriority
  | 0 => some .fixed
  | 1 => some .rotating
  | _ => none

/-- Attention modes FIXED, ROTATING, AUTOMATIC_END (12.3). -/
def AttnModeName.code : AttnModeName → Nat
  | .fixed => 0
  | .rotating => 1
  | .automaticEnd => 2

/-- The attention mode a byte names, if any (12.3). -/
def AttnModeName.ofCode : Nat → Option AttnModeName
  | 0 => some .fixed
  | 1 => some .rotating
  | 2 => some .automaticEnd
  | _ => none

/-- Stream units MILLISECONDS, ENTRIES (12.3). -/
def StreamUnit.code : StreamUnit → Nat
  | .milliseconds => 0
  | .entries => 1

/-- The stream unit a byte names, if any (12.3). -/
def StreamUnit.ofCode : Nat → Option StreamUnit
  | 0 => some .milliseconds
  | 1 => some .entries
  | _ => none

/-- ADJUST directions CREDIT, DEBIT (12.3). -/
def AdjustDirection.code : AdjustDirection → Nat
  | .credit => 0
  | .debit => 1

/-- The ADJUST direction a byte names, if any (12.3). -/
def AdjustDirection.ofCode : Nat → Option AdjustDirection
  | 0 => some .credit
  | 1 => some .debit
  | _ => none

/-- RESOLVE outcomes SETTLED, RETURNED (12.3). -/
def ResolveOutcome.code : ResolveOutcome → Nat
  | .settled => 0
  | .returned => 1

/-- The RESOLVE outcome a byte names, if any (12.3). -/
def ResolveOutcome.ofCode : Nat → Option ResolveOutcome
  | 0 => some .settled
  | 1 => some .returned
  | _ => none

/-- CARD_STATE causes CODE, SUSPEND, RESUME, REWRITE, in the order R177 lists them (12.3). -/
def CardStateCause.code : CardStateCause → Nat
  | .codeFailure => 0
  | .suspend => 1
  | .resume => 2
  | .rewrite => 3

/-- PAY_DOUBT causes DEADLINE, RECOVERY, in the order R177 lists them (12.3). -/
def DoubtCause.code : DoubtCause → Nat
  | .deadline => 0
  | .recovery => 1

/-- A flag field: 0 or 1, any other value is outside the encoding (12.1, 12.3, log 18). -/
def flagOfCode : Nat → Option Bool
  | 0 => some false
  | 1 => some true
  | _ => none

/-- Source numbers (11.3). -/
def Source.number : Source → Nat
  | .recordFault => 0
  | .settleFault => 1
  | .payoutInDoubt => 2
  | .payoutReturned => 3
  | .journalFull => 4
  | .journalHigh => 5
  | .laneDown => 6
  | .channelTc => 7

/-- Journal entry kind codes (12.5). -/
def EntryBody.code : EntryBody → Nat
  | .activate .. => 0x01
  | .load .. => 0x02
  | .authorize .. => 0x03
  | .capture .. => 0x04
  | .void .. => 0x05
  | .expire .. => 0x06
  | .redeem .. => 0x07
  | .refund .. => 0x08
  | .cashout .. => 0x09
  | .adjust .. => 0x0A
  | .provision .. => 0x0B
  | .cardState .. => 0x0C
  | .closeCard .. => 0x0D
  | .period .. => 0x0E
  | .roll .. => 0x0F
  | .payEmit .. => 0x10
  | .payDone .. => 0x11
  | .payBack .. => 0x12
  | .payDoubt .. => 0x13
  | .resolve .. => 0x14
  | .restart .. => 0x15

end Sys2Proof.Machine
end

