-- ==== Sys2Proof/Machine/Flags.lean ====
section
/-! DEFINITION. The flag computations: attention flags (R191), saturating sums (R111, R117, R124, R126), wrapping counts
(R18), the deadline comparisons (R70), the range of a ledger total (R60). -/

namespace Sys2Proof.Machine

/-- The flag of source n in an 8-bit set of flags (R191). -/
def sourceBit (n : Nat) : BitVec 8 := 1#8 <<< n

/-- A count of 32 bits rises by one and wraps (R18, R145, R166). -/
def bump32 (n : Nat) : Nat := (n + 1) % Config.wrap32

/-- A deadline has been reached at present time t when t − d modulo 2^32 is below 2^31 (R70). -/
def reached (t d : Word) : Bool := decide ((t - d).toNat < 2147483648)

/-- Deadline a is earlier than b when b − a modulo 2^32 is above 0 and below 2^31 (R70). -/
def earlier (a b : Word) : Bool := decide (0 < (b - a).toNat ∧ (b - a).toNat < 2147483648)

/-- A lifetime or timeout in seconds as milliseconds of the Time Base (R69). -/
def milliseconds (seconds : Nat) : Word := BitVec.ofNat 32 (seconds * 1000)

/-- A bank accumulator after an addition, and whether it saturated at 2^47 − 1 (R117). -/
def satBank (a amount : Nat) : Nat × Bool :=
  if Config.bankMax < a + amount then (Config.bankMax, true) else (a + amount, false)

/-- An unsigned house field after an addition, and whether it stopped at its end (R111). -/
def satHouseNat (a amount : Nat) : Nat × Bool :=
  if Config.long < a + amount then (Config.long, true) else (a + amount, false)

/-- A signed house field after an addition, and whether it stopped at an end of its range (R111). -/
def satHouseInt (a v : Int) : Int × Bool :=
  if (Config.long : Int) < a + v then (Config.long, true)
  else if a + v < -(Config.long : Int) - 1 then (-(Config.long : Int) - 1, true)
  else (a + v, false)

/-- A carry held within −(2^47 − 1) to 2^47 − 1, and whether it was clamped (R124). -/
def satCarry (c : Int) : Int × Bool :=
  if (Config.bankMax : Int) < c then (Config.bankMax, true)
  else if c < -(Config.bankMax : Int) then (-(Config.bankMax : Int), true)
  else (c, false)

/-- A ledger total after a change by `d`: the exact sum while it is within 0 to 2^63 − 1; outside, the spec states no
value: a free value within the range (R60, log 21). -/
def totalAfter (t : Nat) (d : Int) : Nat :=
  if 0 ≤ (t : Int) + d ∧ (t : Int) + d ≤ Config.long then ((t : Int) + d).toNat
  else Config.unstatedTotal ((t : Int) + d) % (Config.long + 1)

/-- A value clamped to the nearest end of a range (R23). -/
def clampTo (lo hi v : Nat) : Nat := min hi (max lo v)

end Sys2Proof.Machine
end

