-- ==== Sys2Proof/Machine/Bytes.lean ====
section
/-! DEFINITION. Byte order of multi-byte fields (12), the frame check (R3), the envelope (12.2). -/

namespace Sys2Proof.Machine

/-- An unsigned value in `w` bytes, most significant byte first (12). -/
def bytesOf : Nat → Nat → List Byte
  | 0, _ => []
  | w + 1, v => BitVec.ofNat 8 (v / 256 ^ w) :: bytesOf w v

/-- A signed value in `w` bytes of two's complement, most significant byte first (12). -/
def intBytes (w : Nat) (v : Int) : List Byte := bytesOf w ((v % ((256 ^ w : Nat) : Int)).toNat)

/-- The unsigned value of bytes sent most significant first (12). -/
def natOf (bs : List Byte) : Nat := bs.foldl (fun a b => a * 256 + b.toNat) 0

/-- A flag is 0 or 1 (12.1). -/
def flagByte (b : Bool) : List Byte := bytesOf 1 b.toNat

/-- The field of `w` bytes at an offset of a body. -/
def fieldAt (body : List Byte) (offset w : Nat) : Nat := natOf ((body.drop offset).take w)

/-- One bit through the check register of generator x^16 + x^12 + x^5 + 1, least significant bit first (R3). The
register is the usual one of this check: its low bit is the coefficient of x^15 (log 5). -/
def crcShift (c : BitVec 16) : BitVec 16 := if c.getLsbD 0 then (c >>> 1) ^^^ 0x8408#16 else c >>> 1

/-- One byte through the check register, least significant bit first (R3). -/
def crcByte (c : BitVec 16) (b : Byte) : BitVec 16 :=
  crcShift (crcShift (crcShift (crcShift (crcShift (crcShift (crcShift (crcShift (c ^^^ b.zeroExtend 16))))))))

/-- The check over bytes in sending order, from a register of all ones, without inversion (R3). -/
def crcOf (bs : List Byte) : BitVec 16 := bs.foldl crcByte 0xFFFF#16

/-- A frame as sent: marker A5, kind, length, body, check high byte first (12.2, R3). -/
def frameBytes (kind : Byte) (body : List Byte) : List Byte :=
  let covered := kind :: BitVec.ofNat 8 body.length :: body
  0xA5#8 :: covered ++ bytesOf 2 (crcOf covered).toNat

end Sys2Proof.Machine
end

