-- ==== Sys2Proof/Machine/Formats.lean ====
section
/-! DEFINITION. Byte layouts of what the part sends: answers, ATTN, STREAM, PAY, journal entries, record views (12.2, 12.4,
12.5). -/

namespace Sys2Proof.Machine

/-- A journal sequence number or pointer in its 4-byte field. A pointer of 2^32, at a spent numbering, fits no such
field and the spec states no value: a free value (log 22). -/
def pointerBytes (n : Nat) : List Byte :=
  bytesOf 4 (if n < Config.wrap32 then n else Config.unstatedPointer n)

/-- An optional field that is written as `absent` when it is absent (12.4, 12.5). -/
def optBytes (w absent : Nat) : Option Nat → List Byte
  | none => bytesOf w absent
  | some v => bytesOf w v

/-- The card record view from serial to card sequence, held and hold count included (12.4). -/
def cardFields (serial : Nat) (r : CardRecord) : List Byte :=
  bytesOf 3 serial ++ bytesOf 1 r.state.code ++ bytesOf 1 (suspendCode r.suspend) ++ optBytes 1 0xFF r.program
    ++ bytesOf 4 r.balance ++ bytesOf 4 r.held ++ bytesOf 1 r.holdCount ++ optBytes 2 0xFFFF r.code
    ++ bytesOf 1 r.failures ++ optBytes 2 0xFFFF r.issuing ++ optBytes 2 0 r.activation ++ optBytes 2 0 r.lastUse
    ++ bytesOf 3 r.seq

/-- The card record view with its two indications: check matched, on the fault list (12.4). -/
def cardView (serial : Nat) (r : CardRecord) (matched listed : Bool) : List Byte :=
  cardFields serial r ++ flagByte matched ++ flagByte listed

/-- The entry of table PROGRAM (12.2). -/
def programBytes (p : Program) : List Byte :=
  bytesOf 3 p.boundary ++ flagByte p.enabled ++ bytesOf 4 p.loadLimit ++ bytesOf 4 p.activationMin ++ bytesOf 2 p.rate
    ++ bytesOf 4 p.lifetime ++ bytesOf 1 p.maxHolds ++ bytesOf 1 p.refundWindow ++ bytesOf 4 p.ceiling

/-- The byte of one program in an entry of table ACCEPT: RE in bit 0, LE in bit 1, XE in bit 2 (12.2). -/
def acceptByte (a : AcceptRow) (p : Nat) : Byte :=
  BitVec.ofNat 8 ((a.re.getLsbD p).toNat + 2 * (a.le.getLsbD p).toNat + 4 * (a.xe.getLsbD p).toNat)

/-- The entry of table ACCEPT: one byte per program 0 to 7 (12.2). -/
def acceptBytes (a : AcceptRow) : List Byte := [0, 1, 2, 3, 4, 5, 6, 7].map (acceptByte a)

/-- The entry of table HOUSE (12.2). -/
def houseBytes (h : HouseRange) : List Byte := bytesOf 2 h.start ++ bytesOf 2 h.stop

/-- The entry of table BINDING (12.2). -/
def bindingBytes (b : Binding) : List Byte := bytesOf 1 b.address ++ bytesOf 2 b.shop ++ flagByte b.enabled

/-- The entry of table SETTINGS (12.2). -/
def settingsBytes (s : Settings) : List Byte :=
  bytesOf 4 s.payoutMin ++ bytesOf 2 s.answerTimeout ++ bytesOf 1 s.priority.code

/-- A channel setup as SET_CHANNEL carries it (12.2). -/
def setupBytes (c : ChannelSetup) : List Byte :=
  bytesOf 2 c.baseShop ++ bytesOf 2 c.baseCount ++ bytesOf 1 c.dir.code ++ bytesOf 1 c.mode.code ++ flagByte c.auto

/-- A shop record: every field of section 6.1 in its order; an absent tag is a free value (R139, log 23). -/
def shopBytes (r : ShopRecord) : List Byte :=
  bytesOf 1 r.office.code ++ bytesOf 4 r.debtLimit ++ flagByte r.debtBar ++ flagByte r.sat ++ bytesOf 2 r.bank.period
    ++ bytesOf 8 r.bank.g ++ bytesOf 8 r.bank.f ++ bytesOf 8 r.bank.s ++ bytesOf 8 r.bank.x ++ intBytes 8 r.bank.q
    ++ bytesOf 2 r.remainder ++ intBytes 8 r.carry ++ bytesOf 2 r.missed ++ bytesOf 2 r.closing.period
    ++ intBytes 8 r.closing.net ++ intBytes 8 r.closing.commission ++ bytesOf 1 r.closing.state.code
    ++ bytesOf 8 r.closing.amount ++ optBytes 2 Config.noTag r.closing.tag

/-- The house record in the order of R111. DESIGN CHOICE (log 23): the accrual mark, a house field of 12.1 and a journal sequence
number at once, is sent in the 4 bytes of a sequence number. -/
def houseRecBytes (h : HouseRecord) : List Byte :=
  intBytes 8 h.net ++ bytesOf 8 h.unclaimed ++ intBytes 8 h.commission ++ bytesOf 8 h.settled ++ pointerBytes h.mark
    ++ flagByte h.sat

/-- The eight ledger totals in the order of R60. -/
def totalsBytes (t : Totals) : List Byte :=
  bytesOf 8 t.loaded ++ bytesOf 8 t.refunded ++ bytesOf 8 t.adjustedCredit ++ bytesOf 8 t.adjustedDebit
    ++ bytesOf 8 t.captured ++ bytesOf 8 t.cashedOut ++ bytesOf 8 t.unclaimed ++ bytesOf 8 t.float

/-- The fields of a ROLL entry in the order of R125: 114 bytes, of which 12.5's total leaves 8 each to the
amounts folded and clamped away. -/
def rollBytes (r : RollFields) : List Byte :=
  bytesOf 2 r.shop ++ bytesOf 2 r.period ++ bytesOf 8 r.g ++ bytesOf 8 r.f ++ bytesOf 8 r.s ++ bytesOf 8 r.x
    ++ intBytes 8 r.q ++ bytesOf 2 r.q0 ++ bytesOf 2 r.q1 ++ intBytes 8 r.carryBefore ++ bytesOf 8 r.folded
    ++ intBytes 8 r.commission ++ intBytes 8 r.net ++ bytesOf 1 r.state.code ++ bytesOf 8 r.amount
    ++ intBytes 8 r.carryAfter ++ intBytes 8 r.clamped ++ bytesOf 1 r.office.code ++ bytesOf 4 r.debtLimit
    ++ flagByte r.debtBar ++ flagByte r.sat ++ bytesOf 2 r.missed

/-- The record written and the difference booked, which a CARD_STATE entry carries for REWRITE and writes as 0
otherwise (R177, 12.5; its layout: log 23). -/
def rewriteBytes (card : Nat) : Option (CardRecord × Int) → List Byte
  | none => List.replicate 35 0
  | some (r, d) => cardFields card r ++ intBytes 8 d

/-- The fields of each entry kind, in the order R177 lists them (12.5). DESIGN CHOICE (log 23): of RESTART's counts, whose widths
12.1 does not list, records rewritten and accruals replayed take 4 bytes each, held amounts released 8, shops made IN_DOUBT 2. -/
def entryFields : EntryBody → List Byte
  | .activate card seq lane term shop amount bal =>
    bytesOf 3 card ++ bytesOf 3 seq ++ bytesOf 1 lane ++ bytesOf 1 term ++ bytesOf 2 shop ++ bytesOf 4 amount
      ++ bytesOf 4 bal
  | .load card seq lane term shop amount bal =>
    bytesOf 3 card ++ bytesOf 3 seq ++ bytesOf 1 lane ++ bytesOf 1 term ++ bytesOf 2 shop ++ bytesOf 4 amount
      ++ bytesOf 4 bal
  | .authorize card seq ref shop lane term amount rate deadline =>
    bytesOf 3 card ++ bytesOf 3 seq ++ bytesOf 2 ref ++ bytesOf 2 shop ++ bytesOf 1 lane ++ bytesOf 1 term
      ++ bytesOf 4 amount ++ bytesOf 2 rate ++ bytesOf 4 deadline.toNat
  | .capture card seq ref shop program held amount rate =>
    bytesOf 3 card ++ bytesOf 3 seq ++ bytesOf 2 ref ++ bytesOf 2 shop ++ bytesOf 1 program ++ bytesOf 4 held
      ++ bytesOf 4 amount ++ bytesOf 2 rate
  | .void card seq ref shop amount =>
    bytesOf 3 card ++ bytesOf 3 seq ++ bytesOf 2 ref ++ bytesOf 2 shop ++ bytesOf 4 amount
  | .expire card ref shop lane term rate amount newSeq =>
    bytesOf 3 card ++ bytesOf 2 ref ++ bytesOf 2 shop ++ bytesOf 1 lane ++ bytesOf 1 term ++ bytesOf 2 rate
      ++ bytesOf 4 amount ++ flagByte newSeq.isSome ++ optBytes 3 0 newSeq
  | .redeem card seq shop lane term program rate amount =>
    bytesOf 3 card ++ bytesOf 3 seq ++ bytesOf 2 shop ++ bytesOf 1 lane ++ bytesOf 1 term ++ bytesOf 1 program
      ++ bytesOf 2 rate ++ bytesOf 4 amount
  | .refund card seq capture shop lane term original amount rate period refunded =>
    bytesOf 3 card ++ bytesOf 3 seq ++ bytesOf 4 capture ++ bytesOf 2 shop ++ bytesOf 1 lane ++ bytesOf 1 term
      ++ bytesOf 2 original ++ bytesOf 4 amount ++ bytesOf 2 rate ++ bytesOf 2 period ++ bytesOf 4 refunded
  | .cashout card seq shop lane term amount =>
    bytesOf 3 card ++ bytesOf 3 seq ++ bytesOf 2 shop ++ bytesOf 1 lane ++ bytesOf 1 term ++ bytesOf 4 amount
  | .adjust card seq direction amount =>
    bytesOf 3 card ++ bytesOf 3 seq ++ bytesOf 1 direction.code ++ bytesOf 4 amount
  | .provision card seq program => bytesOf 3 card ++ bytesOf 3 seq ++ bytesOf 1 program
  | .cardState card seq cause state suspend failures rewrite =>
    bytesOf 3 card ++ bytesOf 3 seq ++ bytesOf 1 cause.code ++ bytesOf 1 state.code ++ bytesOf 1 (suspendCode suspend)
      ++ bytesOf 1 failures ++ rewriteBytes card rewrite
  | .closeCard card seq amount => bytesOf 3 card ++ bytesOf 3 seq ++ bytesOf 4 amount
  | .period closed new => bytesOf 2 closed ++ bytesOf 2 new
  | .roll fields => rollBytes fields
  | .payEmit tag shop period amount channel =>
    bytesOf 2 tag ++ bytesOf 2 shop ++ bytesOf 2 period ++ bytesOf 8 amount ++ bytesOf 1 channel
  | .payDone tag shop period amount late =>
    bytesOf 2 tag ++ bytesOf 2 shop ++ bytesOf 2 period ++ bytesOf 8 amount ++ flagByte late
  | .payBack tag shop period amount reason late =>
    bytesOf 2 tag ++ bytesOf 2 shop ++ bytesOf 2 period ++ bytesOf 8 amount ++ bytesOf 1 reason ++ flagByte late
  | .payDoubt tag shop period amount cause =>
    bytesOf 2 tag ++ bytesOf 2 shop ++ bytesOf 2 period ++ bytesOf 8 amount ++ bytesOf 1 cause.code
  | .resolve shop period tag amount outcome =>
    bytesOf 2 shop ++ bytesOf 2 period ++ bytesOf 2 tag ++ bytesOf 8 amount ++ bytesOf 1 outcome.code
  | .restart cause rewritten released doubted replayed =>
    bytesOf 1 cause.code ++ bytesOf 4 rewritten ++ bytesOf 8 released ++ bytesOf 2 doubted ++ bytesOf 4 replayed

/-- A journal entry: the 12-byte header, then the kind's fields (12.5). -/
def entryBytes (e : JournalEntry) : List Byte :=
  let fields := entryFields e.body
  bytesOf 4 e.seq ++ bytesOf 1 e.body.code ++ bytesOf 4 e.time.toNat ++ bytesOf 2 e.period ++ bytesOf 1 fields.length
    ++ fields

/-- The presence byte of a lane answer (12.2). -/
def presence (a : LaneAnswer) : Nat :=
  a.approved.isSome.toNat + 2 * a.available.isSome.toNat + 4 * a.holdRef.isSome.toNat + 8 * a.captureRef.isSome.toNat

/-- A field of a lane answer, sent when it is present (12.2). -/
def presentBytes (w : Nat) : Option Nat → List Byte
  | none => []
  | some v => bytesOf w v

/-- The body of a lane answer, kind 20 (12.2). -/
def laneAnswerBody (a : LaneAnswer) : List Byte :=
  bytesOf 1 a.terminal ++ bytesOf 2 a.tag ++ [a.kind] ++ bytesOf 1 a.result.code ++ bytesOf 1 (presence a)
    ++ presentBytes 4 a.approved ++ presentBytes 4 a.available ++ presentBytes 2 a.holdRef ++ presentBytes 4 a.captureRef

/-- A lane answer as sent (12.2). -/
def laneAnswerFrame (a : LaneAnswer) : List Byte := frameBytes 0x20 (laneAnswerBody a)

/-- An office answer as sent, kind 80 (12.2). -/
def officeAnswerFrame (a : OfficeAnswer) : List Byte :=
  frameBytes 0x80 (bytesOf 2 a.tag ++ [a.kind] ++ bytesOf 1 a.code.code ++ a.data)

/-- An ATTN frame, kind 81 (12.2). -/
def attnFrame (source : Nat) : List Byte := frameBytes 0x81 (bytesOf 1 source)

/-- A STREAM frame, kind 82: entry count, then the entries (12.2). -/
def streamFrame (es : List JournalEntry) : List Byte :=
  frameBytes 0x82 (bytesOf 1 es.length ++ es.flatMap entryBytes)

/-- A PAY frame, kind 90 (12.2). -/
def payFrameBytes (p : PayFrame) : List Byte :=
  frameBytes 0x90 (bytesOf 2 p.tag ++ bytesOf 2 p.shop ++ bytesOf 2 p.period ++ bytesOf 8 p.amount)

end Sys2Proof.Machine
end

