-- ==== Sys2Proof/Machine/Frames.lean ====
section
/-! DEFINITION. Judging a received frame (R2, R3) and which kinds and lengths are well-formed on each link (R4, R199). -/

namespace Sys2Proof.Machine

/-- What the receiver finds in the characters handed to it. -/
inductive Judged where
  /-- The characters are not a complete frame: there is nothing to judge yet. -/
  | incomplete
  /-- A framing error (R2). -/
  | error
  /-- An envelope-valid frame (R2). -/
  | valid (kind : Byte) (body : List Byte)
  deriving DecidableEq, Repr

/-- A complete frame judged at the end of its last check byte (R2). `minBody` is the length of the leading fields the
link reads: 3 on a lane, 2 on the office link, 0 on the payout link. -/
def judgeFrame (minBody : Nat) (chars : List RxChar) : Judged :=
  match chars with
  | marker :: kind :: len :: rest =>
    let n := len.data.toNat
    if rest.length ≠ n + 2 then .incomplete
    else
      let body := (rest.take n).map RxChar.data
      let check := natOf ((rest.drop n).map RxChar.data)
      if chars.any (fun c => !c.stopOk) || marker.data != 0xA5#8 || decide (250 < n)
          || check != (crcOf (kind.data :: len.data :: body)).toNat || decide (body.length < minBody) then .error
      else .valid kind.data body
  | _ => .incomplete

/-- The body length of each lane request kind (R199). -/
def laneLength (kind : Byte) : Option Nat :=
  match kind.toNat with
  | 0x10 => some 12
  | 0x11 => some 12
  | 0x12 => some 8
  | 0x13 => some 13
  | 0x14 => some 9
  | 0x15 => some 5
  | 0x16 => some 13
  | 0x17 => some 11
  | 0x18 => some 8
  | _ => none

/-- A lane request is well-formed when its kind is listed and its length is that kind's (R4, R199). -/
def laneWellFormed (kind : Byte) (body : List Byte) : Bool := laneLength kind == some body.length

/-- The body lengths of each office request kind (R199). -/
def officeLengths (kind : Byte) : List Nat :=
  match kind.toNat with
  | 0x40 => [2]
  | 0x41 => [2]
  | 0x42 => [2]
  | 0x43 => [2]
  | 0x44 => [2]
  | 0x45 => [2]
  | 0x46 => [2]
  | 0x47 => [2]
  | 0x48 => [5]
  | 0x49 => [5]
  | 0x4A => [5]
  | 0x4B => [5]
  | 0x4C => [7]
  | 0x4D => [10]
  | 0x4E => [24]
  | 0x50 => [4]
  | 0x51 => [4]
  | 0x52 => [9]
  | 0x53 => [5]
  | 0x54 => [10]
  | 0x55 => [3]
  | 0x56 => [3]
  | 0x57 => [3]
  | 0x58 => [4]
  | 0x59 => [5]
  | 0x5A => [9, 12, 13, 29]
  | 0x5B => [6]
  | 0x5C => [6]
  | 0x5D => [6]
  | 0x5E => [3]
  | 0x5F => [3]
  | 0x60 => [3]
  | 0x61 => [3]
  | 0x62 => [4]
  | _ => []

/-- An office request is well-formed when its kind is listed and its length is one of that kind's (R4, R199). -/
def officeWellFormed (f : Frame) : Bool := (officeLengths f.kind).contains f.body.length

/-- DONE, BACK and PULL of the right length are well-formed whatever their fields (R199). -/
def bankWellFormed (f : Frame) : Bool :=
  match f.kind.toNat with
  | 0x91 => f.body.length == 6
  | 0x92 => f.body.length == 7
  | 0x93 => f.body.length == 2
  | _ => false

end Sys2Proof.Machine
end

