-- ==== Sys2Proof/Machine/Operands.lean ====
section
/-! DEFINITION. The fields of every request body (12.2), read at their places, and the checks of field encodings (R51, 12.3). -/

namespace Sys2Proof.Machine

/-! ### Lane requests: terminal address, terminal tag, then the kind's fields -/

/-- Terminal address of a lane request. -/
abbrev laneTerminal (b : List Byte) : Nat := fieldAt b 0 1
/-- Terminal tag of a lane request. -/
abbrev laneTag (b : List Byte) : Nat := fieldAt b 1 2
/-- Serial of ACTIVATE, LOAD, BALANCE, AUTHORIZE, REDEEM, CASHOUT. -/
abbrev laneSerial (b : List Byte) : Nat := fieldAt b 3 3
/-- Code of the same requests. -/
abbrev laneCode (b : List Byte) : Nat := fieldAt b 6 2
/-- Amount of ACTIVATE, LOAD, AUTHORIZE, REDEEM. -/
abbrev laneAmount (b : List Byte) : Nat := fieldAt b 8 4
/-- Partial flag byte of AUTHORIZE and REDEEM. -/
abbrev lanePartial (b : List Byte) : Nat := fieldAt b 12 1
/-- Hold reference of CAPTURE and VOID. -/
abbrev laneHoldRef (b : List Byte) : Nat := fieldAt b 3 2
/-- Amount of CAPTURE. -/
abbrev captureAmount (b : List Byte) : Nat := fieldAt b 5 4
/-- Capture reference of REFUND. -/
abbrev refundRef (b : List Byte) : Nat := fieldAt b 3 4
/-- Amount of REFUND. -/
abbrev refundAmount (b : List Byte) : Nat := fieldAt b 7 4

/-- A lane request as the Card Ledger takes it: the lane it came on, its kind and its body (R10, R34). -/
structure LaneReq where
  lane : Nat
  kind : Byte
  body : List Byte
  deriving DecidableEq, Repr

/-- Every field within its encoding: a code of at most 9999 and a partial flag of 0 or 1 (R51). -/
def laneFieldsOk (kind : Byte) (b : List Byte) : Bool :=
  match kind.toNat with
  | 0x10 => decide (laneCode b ≤ 9999)
  | 0x11 => decide (laneCode b ≤ 9999)
  | 0x12 => decide (laneCode b ≤ 9999)
  | 0x13 => decide (laneCode b ≤ 9999) && decide (lanePartial b ≤ 1)
  | 0x16 => decide (laneCode b ≤ 9999) && decide (lanePartial b ≤ 1)
  | 0x18 => decide (laneCode b ≤ 9999)
  | _ => true

/-! ### Office requests: the office tag, then the kind's fields -/

/-- Office tag. -/
abbrev officeTag (b : List Byte) : Nat := fieldAt b 0 2
/-- Serial of the office card requests. -/
abbrev officeSerial (b : List Byte) : Nat := fieldAt b 2 3
/-- Code of PROVISION. -/
abbrev provisionCode (b : List Byte) : Nat := fieldAt b 5 2
/-- Direction byte of ADJUST. -/
abbrev adjustDirectionByte (b : List Byte) : Nat := fieldAt b 5 1
/-- Amount of ADJUST. -/
abbrev adjustAmount (b : List Byte) : Nat := fieldAt b 6 4
/-- Shop of READ_SHOP, SNAP_SHOP, SET_SHOP, RESOLVE. -/
abbrev officeShop (b : List Byte) : Nat := fieldAt b 2 2
/-- Office state byte of SET_SHOP. -/
abbrev setShopState (b : List Byte) : Nat := fieldAt b 4 1
/-- Debt limit of SET_SHOP. -/
abbrev setShopLimit (b : List Byte) : Nat := fieldAt b 5 4
/-- Outcome byte of RESOLVE. -/
abbrev resolveOutcomeByte (b : List Byte) : Nat := fieldAt b 4 1
/-- The one-byte field after the tag: channel, link, attention mask, source, mode. -/
abbrev officeByte (b : List Byte) : Nat := fieldAt b 2 1
/-- Action byte of MASK_CHANNEL (MASK 0, UNMASK 1) and page of LANE_STATUS. -/
abbrev officeByte2 (b : List Byte) : Nat := fieldAt b 3 1
/-- Table index of READ_TABLE and WRITE_TABLE. -/
abbrev tableIndex (b : List Byte) : Nat := fieldAt b 3 2
/-- Sequence of JOURNAL_READ and JOURNAL_ACK. -/
abbrev officeSequence (b : List Byte) : Nat := fieldAt b 2 4

/-- The setup SET_CHANNEL carries, before clamping; none when a direction, mode or flag names no member (R144, 12.3). -/
def setupOfBody (b : List Byte) : Option ChannelSetup :=
  match Direction.ofCode (fieldAt b 7 1), ChannelMode.ofCode (fieldAt b 8 1), flagOfCode (fieldAt b 9 1) with
  | some dir, some mode, some auto =>
    some { baseShop := fieldAt b 3 2, baseCount := fieldAt b 5 2, dir := dir, mode := mode, auto := auto }
  | _, _, _ => none

/-- The program record WRITE_TABLE carries, before clamping; none when the enabled flag is no flag (12.2, log 18). -/
def programOfBody (b : List Byte) : Option Program :=
  (flagOfCode (fieldAt b 8 1)).map fun en =>
    { boundary := fieldAt b 5 3, enabled := en, loadLimit := fieldAt b 9 4, activationMin := fieldAt b 13 4,
      rate := fieldAt b 17 2, lifetime := fieldAt b 19 4, maxHolds := fieldAt b 23 1, refundWindow := fieldAt b 24 1,
      ceiling := fieldAt b 25 4 }

/-- Eight flags of one kind, gathered from bit `j` of the eight program bytes of an ACCEPT entry (12.2). -/
def acceptBits (b : List Byte) (j : Nat) : BitVec 8 :=
  BitVec.ofNat 8 ([0, 1, 2, 3, 4, 5, 6, 7].foldl
    (fun acc p => acc + (((b.drop (5 + p)).headD 0).getLsbD j).toNat * 2 ^ p) 0)

/-- The segment's flags WRITE_TABLE carries; bits above bit 2 are ignored (12.2, R30). -/
def acceptOfBody (b : List Byte) : AcceptRow := { re := acceptBits b 0, le := acceptBits b 1, xe := acceptBits b 2 }

/-- The house range WRITE_TABLE carries, before clamping. -/
def houseOfBody (b : List Byte) : HouseRange := { start := fieldAt b 5 2, stop := fieldAt b 7 2 }

/-- The binding entry WRITE_TABLE carries; none when the enabled flag is no flag (12.2, log 18). -/
def bindingOfBody (b : List Byte) : Option Binding :=
  (flagOfCode (fieldAt b 8 1)).map fun en => { address := fieldAt b 5 1, shop := fieldAt b 6 2, enabled := en }

/-- The settings WRITE_TABLE carries, before clamping; none for an unknown slot priority (R36). -/
def settingsOfBody (b : List Byte) : Option Settings :=
  (SlotPriority.ofCode (fieldAt b 11 1)).map fun p =>
    { payoutMin := fieldAt b 5 4, answerTimeout := fieldAt b 9 2, priority := p }

/-- An optional field written as `absent` when absent (12.4). -/
def optField (absent v : Nat) : Option Nat := if v = absent then none else some v

/-- The record REWRITE_CARD supplies (12.2, 12.4); none when the state or the suspend cause names no member (12.3). Held and
hold count are written as 0, the check value anew (R68). -/
def rewriteOfBody (b : List Byte) : Option CardRecord :=
  match CardState.ofCode (fieldAt b 5 1), suspendOfCode (fieldAt b 6 1) with
  | some st, some cause =>
    some { state := st, suspend := cause, program := optField 0xFF (fieldAt b 7 1), balance := fieldAt b 8 4, held := 0,
           holdCount := 0, code := optField 0xFFFF (fieldAt b 12 2), failures := fieldAt b 14 1,
           issuing := optField 0xFFFF (fieldAt b 15 2), activation := optField 0 (fieldAt b 17 2),
           lastUse := optField 0 (fieldAt b 19 2), seq := fieldAt b 21 3, checkOk := true }
  | _, _ => none

end Sys2Proof.Machine
end

