-- ==== Sys2Proof/Machine/Table.lean ====
section
/-! DEFINITION. Reading and writing a sparse table, and its canonical form. -/

namespace Sys2Proof.Machine

/-- The record at a key; `d` is what an unlisted key reads as. -/
def Table.read {α : Type} (d : α) : Table α → Nat → α
  | [], _ => d
  | (k', v) :: t, k => if k = k' then v else Table.read d t k

/-- The table without the entries of a key. -/
def Table.drop {α : Type} : Table α → Nat → Table α
  | [], _ => []
  | (k', v) :: t, k => if k = k' then Table.drop t k else (k', v) :: Table.drop t k

/-- The table with one more entry, in front of the first larger key. -/
def Table.insert {α : Type} : Table α → Nat → α → Table α
  | [], k, v => [(k, v)]
  | (k', v') :: t, k, v => if k < k' then (k, v) :: (k', v') :: t else (k', v') :: Table.insert t k v

/-- The table with the record at a key replaced; a record equal to `d` is not listed. -/
def Table.write {α : Type} [DecidableEq α] (d : α) (t : Table α) (k : Nat) (v : α) : Table α :=
  if v = d then Table.drop t k else Table.insert (Table.drop t k) k v

/-- Every key of the table is above a bound, and keys rise strictly. -/
def Table.rising {α : Type} : Option Nat → Table α → Bool
  | _, [] => true
  | none, (k, _) :: t => Table.rising (some k) t
  | some b, (k, _) :: t => decide (b < k) && Table.rising (some k) t

/-- The canonical form: keys strictly rising, no entry equal to what an unlisted key reads as. -/
def Table.wf {α : Type} [DecidableEq α] (d : α) (t : Table α) : Bool :=
  Table.rising none t && t.all (fun e => decide (e.2 ≠ d))

/-- The least number at or above `i`, among the next `n`, that `p` holds for. -/
def firstFrom (p : Nat → Bool) : Nat → Nat → Option Nat
  | 0, _ => none
  | n + 1, i => if p i then some i else firstFrom p n (i + 1)

/-- How many numbers below `n` the predicate holds for. -/
def countBelow (p : Nat → Bool) : Nat → Nat
  | 0 => 0
  | n + 1 => countBelow p n + (if p n then 1 else 0)

end Sys2Proof.Machine
end

