-- ==== Sys2Proof/Machine/Ops.lean ====
section
/-! DEFINITION. The named operations every block shares: reading and writing one entry of a table, raising attention, journal
reservations and appends, the answers of lanes and Office Unit. -/

namespace Sys2Proof.Machine

/-- The outcome of a step of this machine. -/
abbrev Out := Host.Outcome State Fault Refusal

/-! ### One entry of a table -/

/-- Lane link l (R1). -/
def State.lane (s : State) (l : Nat) : Lane := Table.read Lane.initial s.lanes l
/-- The state with lane link l replaced. -/
def State.setLane (s : State) (l : Nat) (v : Lane) : State := { s with lanes := Table.write Lane.initial s.lanes l v }

/-- Slot k of the hold table (4.2). -/
def State.holdSlot (s : State) (k : Nat) : HoldSlot := Table.read HoldSlot.initial s.holds k
/-- The state with slot k of the hold table replaced. -/
def State.setHoldSlot (s : State) (k : Nat) (v : HoldSlot) : State :=
  { s with holds := Table.write HoldSlot.initial s.holds k v }

/-- The run state of channel c (R145). -/
def State.channel (s : State) (c : Nat) : Channel := Table.read Channel.initial s.channels c
/-- The state with the run state of channel c replaced. -/
def State.setChannel (s : State) (c : Nat) (v : Channel) : State :=
  { s with channels := Table.write Channel.initial s.channels c v }

/-- Slot k of the payout window (R162). -/
def State.slot (s : State) (k : Nat) : Slot := Table.read Slot.free s.plu.slots k
/-- The state with slot k of the payout window replaced. -/
def State.setSlot (s : State) (k : Nat) (v : Slot) : State :=
  { s with plu.slots := Table.write Slot.free s.plu.slots k v }

/-- The card record of a serial (R41). DESIGN CHOICE (log 48): a record that no FORMAT has written, under a CAP larger than that of
the last FORMAT, reads as a sound BLANK record, which the spec does not state. -/
def State.card (s : State) (serial : Nat) : CardRecord := Table.read CardRecord.blank s.store.cards serial
/-- The state with the card record of a serial replaced. -/
def State.setCard (s : State) (serial : Nat) (v : CardRecord) : State :=
  { s with store.cards := Table.write CardRecord.blank s.store.cards serial v }

/-- The record of a shop (R110). -/
def State.shop (s : State) (k : Nat) : ShopRecord := Table.read ShopRecord.initial s.store.shops k
/-- The state with the record of a shop replaced. -/
def State.setShop (s : State) (k : Nat) (v : ShopRecord) : State :=
  { s with store.shops := Table.write ShopRecord.initial s.store.shops k v }

/-- Program record k (2.3). -/
def State.program (s : State) (k : Nat) : Program := Table.read Program.initial s.store.programs k
/-- The acceptance flags of segment g (2.4). -/
def State.acceptRow (s : State) (g : Nat) : AcceptRow := Table.read AcceptRow.initial s.store.accept g
/-- Binding entry k, numbered lane × 128 + entry (R33). -/
def State.binding (s : State) (k : Nat) : Binding := Table.read Binding.initial s.store.bindings k
/-- The stored setup of channel c; with a blank store, FORMAT's values (R144, R145). -/
def State.setup (s : State) (c : Nat) : ChannelSetup :=
  if s.store.signature then Table.read ChannelSetup.initial s.store.setups c else ChannelSetup.initial

/-! ### Attention -/

/-- A block raises an attention source: its pending flag is set (R191). -/
def State.raise (s : State) (src : Source) : State :=
  { s with attn.pending := s.attn.pending ||| sourceBit src.number }

/-- Raise a source when a condition holds. -/
def State.raiseIf (s : State) (b : Bool) (src : Source) : State := if b then s.raise src else s

/-! ### Journal (chapter 10) -/

/-- The two classes of reservation (R180). -/
inductive ResClass where
  | general
  | whole
  deriving DecidableEq, Repr

/-- The limit of a class (R180). -/
def ResClass.limit : ResClass → Nat
  | .general => Config.generalLimit
  | .whole => Config.ringMax

/-- Next to write, as the Journal Unit takes it: 1 with a blank store (R178). -/
def State.nextWrite (s : State) : Nat := if s.store.signature then s.store.nextToWrite else 1

/-- Oldest unacknowledged, as the Journal Unit takes it: 1 with a blank store (R178). -/
def State.oldest (s : State) : Nat := if s.store.signature then s.store.oldestUnack else 1

/-- The unacknowledged count (R178). -/
def State.unack (s : State) : Nat := s.nextWrite - s.oldest

/-- The numbering cannot give n more reservations (R179). -/
def State.numberingSpent (s : State) (n : Nat) : Bool := decide (Config.wrap32 < s.nextWrite + s.journal.reserved + n)

/-- Whether n reservations of a class could be granted now (R180): none with a blank store (R178), while PFW is asserted, or
past the numbering (R179). -/
def State.canReserve (s : State) (cls : ResClass) (n : Nat) : Bool :=
  !s.pfw && s.store.signature && decide (s.unack + s.journal.reserved + n ≤ cls.limit) && !s.numberingSpent n

/-- A grant of n takes unacknowledged plus reserved from below 16,336 to 16,336 or above while JOURNAL_FULL is not held
(R181). -/
def State.crossesFull (s : State) (n : Nat) : Bool :=
  decide (s.unack + s.journal.reserved < Config.generalLimit)
    && decide (Config.generalLimit ≤ s.unack + s.journal.reserved + n) && !s.journal.fullHeld

/-- A request for n reservations, granted all or none (R180); JOURNAL_FULL is raised and held where the grant crosses the
general limit (R181). -/
def State.reserve (s : State) (cls : ResClass) (n : Nat) : Option State :=
  if s.canReserve cls n then
    some (State.raiseIf
      { s with journal.reserved := s.journal.reserved + n, journal.fullHeld := s.journal.fullHeld || s.crossesFull n }
      (s.crossesFull n) .journalFull)
  else none

/-- n reservations given back unused (R180). -/
def State.giveBack (s : State) (n : Nat) : State := { s with journal.reserved := s.journal.reserved - n }

/-- One entry appended under a reservation: numbered next to write, put at its position of the ring over the entry 16,384
below it (R177, R178, R180); JOURNAL_HIGH when the unacknowledged count comes to 12,288 (R181); counted for a stream in
entries (R186). -/
def State.append (s : State) (period : Nat) (body : EntryBody) : State :=
  let entry : JournalEntry := { seq := s.store.nextToWrite, time := s.time, period := period, body := body }
  let high := s.unack + 1 == Config.highMark && !s.journal.highHeld
  { s with
    store.ring := (entry :: s.store.ring).take Config.ringMax,
    store.nextToWrite := s.store.nextToWrite + 1,
    journal.reserved := s.journal.reserved - 1,
    journal.highHeld := s.journal.highHeld || high,
    journal.streamCount :=
      if s.journal.streamOn && decide (s.journal.unit = StreamUnit.entries) then s.journal.streamCount + 1 else s.journal.streamCount
  }.raiseIf high .journalHigh

/-- The retained entry with a sequence number (R178). -/
def State.entry (s : State) (n : Nat) : Option JournalEntry := s.store.ring.find? (fun e => e.seq == n)

/-! ### Office Unit: the request in flight and its answer (R16, R187) -/

/-- The Office Unit hands a formed answer to its answer place when that place is empty; the request is then no longer in
flight (R16). -/
def State.officeHandOver (s : State) : State :=
  match s.office.inFlight, s.officeLink.answerPlace with
  | some { frame := _, answer := some a }, none =>
    { s with officeLink.answerPlace := some a, officeLink.ready := s.officeLink.ready ++ [LaneReady.answer],
             office.inFlight := none }
  | _, _ => s

/-- The Office Unit takes the oldest request when it has none in flight (R16); none after RESTART (R197) and none while PFW is
asserted (R198). -/
def State.officeTake (s : State) : State :=
  match s.office.inFlight, s.officeLink.queue with
  | none, f :: rest =>
    if s.office.restartTaken || s.pfw then s
    else { s with office.inFlight := some { frame := f, answer := none }, officeLink.queue := rest }
  | _, _ => s

/-- The Office Unit hands over an answer that can leave, then takes the next request (R16, log 12). -/
def State.officeSettle (s : State) : State := s.officeHandOver.officeTake

/-- The request in flight that still awaits its answer, while PFW is not asserted (R16, R198). -/
def State.officeRequest (s : State) : Option Frame :=
  match s.office.inFlight with
  | some { frame := f, answer := none } => if s.pfw then none else some f
  | _ => none

/-- The body of the request in flight when it is well-formed and of the named kind (R187). -/
def State.officeBody (s : State) (kind : Nat) : Option (List Byte) :=
  match s.officeRequest with
  | some f => if f.kind.toNat = kind ∧ officeWellFormed f then some f.body else none
  | none => none

/-- The owning block answers the request in flight: the answer echoes the office tag and the kind (R187, 12.2). -/
def State.answerOffice (s : State) (code : OfficeCode) (data : List Byte) : State :=
  match s.office.inFlight with
  | some r =>
    let a : OfficeAnswer := { tag := officeTag r.frame.body, kind := r.frame.kind, code := code, data := data }
    State.officeSettle { s with office.inFlight := some { frame := r.frame, answer := some a } }
  | none => s

/-- The answer DONE with its data (R200). -/
def State.done (s : State) (data : List Byte) : State := s.answerOffice .done data

/-- A refusal: no data (R200). -/
def State.refuse (s : State) (code : OfficeCode) : State := s.answerOffice code []

/-! ### Lane queues (R10, R11) -/

/-- The oldest WAITING entry of a queue (R11). -/
def firstWaiting : List LaneEntry → Option LaneEntry
  | [] => none
  | e :: es => if e.stage = .waiting then some e else firstWaiting es

/-- The queue with its oldest WAITING entry TAKEN (R11). -/
def takeFirst : List LaneEntry → List LaneEntry
  | [] => []
  | e :: es => if e.stage = .waiting then { e with stage := .taken } :: es else e :: takeFirst es

/-- The queue with its TAKEN entry ANSWERED (R11). -/
def answerTaken (a : LaneAnswer) : List LaneEntry → List LaneEntry
  | [] => []
  | e :: es => if e.stage = .taken then { e with stage := .answered a } :: es else e :: answerTaken a es

/-- The queue without its TAKEN entry (R7). -/
def dropTaken : List LaneEntry → List LaneEntry
  | [] => []
  | e :: es => if e.stage = .taken then es else e :: dropTaken es

/-- The oldest answer that waits in a queue or is being sent from it (R11). -/
def firstAnswer : List LaneEntry → Option LaneAnswer
  | [] => none
  | e :: es =>
    match e.stage with
    | .answered a => some a
    | _ => firstAnswer es

/-- The queue without its oldest ANSWERED entry: its answer has been sent (R11). -/
def dropAnswered : List LaneEntry → List LaneEntry
  | [] => []
  | e :: es =>
    match e.stage with
    | .answered _ => es
    | _ => e :: dropAnswered es

/-- The head a lane queue offers to the arbiter (R11). -/
def State.laneHead (s : State) (l : Nat) : Option LaneEntry := firstWaiting (s.lane l).queue

/-- The Card Ledger hands over the answer to the lane's TAKEN entry: it becomes ANSWERED and ready (R11, R13); in DOWN the
answer is discarded and the entry removed (R7). -/
def State.handOver (s : State) (l : Nat) (a : LaneAnswer) : State :=
  let v := s.lane l
  if v.rx = .down then s.setLane l { v with queue := dropTaken v.queue }
  else s.setLane l { v with queue := answerTaken a v.queue, ready := v.ready ++ [.answer] }

end Sys2Proof.Machine
end

