-- ==== Sys2Proof/Machine/Arbiter.lean ====
section
/-! DEFINITION. The ledger arbiter (R48) and the frame of a lane request or office card request at the Card Ledger (R11, R49,
R61). -/

namespace Sys2Proof.Machine

/-- Free entries on the accrual queue (R113). -/
def State.accrualFree (s : State) : Bool := decide (s.settle.accruals.length < Config.accrualMax)

/-- Lane request kinds that can post an accrual: ACTIVATE, LOAD, CAPTURE, REDEEM, REFUND, CASHOUT (R48). -/
def laneKindPosts (kind : Byte) : Bool := [0x10, 0x11, 0x14, 0x16, 0x17, 0x18].contains kind.toNat

/-- Office card request kinds: READ_TOTALS, CLOSE_PERIOD, OPEN_LEDGER, FORMAT, READ_CARD, SUSPEND, RESUME, CLOSE_CARD,
PROVISION, ADJUST, REWRITE_CARD (R61, 12.2). -/
def officeCardKind (kind : Byte) : Bool :=
  [0x40, 0x41, 0x42, 0x43, 0x48, 0x49, 0x4A, 0x4B, 0x4C, 0x4D, 0x4E].contains kind.toNat

/-- Office card request kinds that can post an accrual: CLOSE_CARD and CLOSE_PERIOD (R48). -/
def officeKindPosts (kind : Byte) : Bool := [0x41, 0x4B].contains kind.toNat

/-- The Card Ledger is free: no FORMAT runs (R44), no close is outstanding (R131), PFW is not asserted (R198). -/
def State.cardLedgerFree (s : State) : Bool := !s.pfw && !s.ledger.formatting && !s.ledger.closeOutstanding

/-- A lane head is eligible when it is present and, if its kind can post an accrual, the accrual queue has a free entry
(R48, log 15). -/
def State.laneEligible (s : State) (l : Nat) : Bool :=
  match s.laneHead l with
  | some e => !laneKindPosts e.kind || s.accrualFree
  | none => false

/-- The office card queue's request: the well-formed office card request in flight (R48, R187). -/
def State.officeCard (s : State) : Option Frame :=
  match s.officeRequest with
  | some f => if officeWellFormed f && officeCardKind f.kind then some f else none
  | none => none

/-- An office card request is eligible when present, with a free accrual entry if its kind can post one, and also while
the accrual queue is full and no general reservation could be granted (R48). -/
def State.officeEligible (s : State) : Bool :=
  match s.officeCard with
  | some f => !officeKindPosts f.kind || s.accrualFree || !s.canReserve .general 1
  | none => false

/-- What the arbiter takes. -/
inductive Pick where
  | expiry
  | lane (l : Nat)
  | office
  deriving DecidableEq, Repr

/-- The first eligible requester in rotation order, from requester i on, among n of them: 0 to 3 the lanes, 4 the office card
queue (R48). -/
def State.rotate (s : State) : Nat → Nat → Option Pick
  | 0, _ => none
  | n + 1, i =>
    if i % 5 = 4 then (if s.officeEligible then some .office else s.rotate n (i + 1))
    else if s.laneEligible (i % 5) then some (.lane (i % 5))
    else s.rotate n (i + 1)

/-- The arbiter's choice: a waiting expiry request if a reservation can be granted, otherwise the first eligible requester in
rotation order (R48). -/
def State.pick (s : State) : Option Pick :=
  if !s.cardLedgerFree then none
  else if !s.waiting.isEmpty && s.canReserve .general 1 then some .expiry
  else s.rotate 5 s.ledger.top

/-! ### Lane requests -/

/-- What a lane answer carries beyond the echoes (R50, R84, R105). -/
structure Reply where
  result : LaneResult
  approved : Option Nat
  available : Option Nat
  holdRef : Option Nat
  captureRef : Option Nat
  deriving DecidableEq, Repr

/-- A decline without further fields. -/
def Reply.decline (r : LaneResult) : Reply :=
  { result := r, approved := none, available := none, holdRef := none, captureRef := none }

/-- A decline that carries the available balance: LIMIT and INSUFFICIENT (R50, R84, R105). -/
def Reply.declineWith (r : LaneResult) (available : Nat) : Reply := { Reply.decline r with available := some available }

/-- The lane answer: address, tag and kind echoed (R50, 12.2). -/
def laneAnswerOf (e : LaneEntry) (r : Reply) : LaneAnswer :=
  { terminal := laneTerminal e.body, tag := laneTag e.body, kind := e.kind, result := r.result, approved := r.approved,
    available := r.available, holdRef := r.holdRef, captureRef := r.captureRef }

/-- The lane request the arbiter picks, when it is well-formed and of the named kind (R48, R199). -/
def State.laneWork (s : State) (kind : Nat) : Option (Nat × LaneEntry) :=
  match s.pick with
  | some (.lane l) =>
    match s.laneHead l with
    | some e => if e.kind.toNat = kind ∧ laneWellFormed e.kind e.body then some (l, e) else none
    | none => none
  | _ => none

/-- The Card Ledger takes lane l's head: the entry becomes TAKEN and the requester after l stands highest (R11, R48). -/
def State.takeLane (s : State) (l : Nat) : State :=
  let v := s.lane l
  { s.setLane l { v with queue := takeFirst v.queue } with ledger.top := (l + 1) % 5 }

/-- One lane request: taken, decided, and its answer handed over (R11, R49). -/
def laneStep (kind : Nat) (decision : LaneReq → State → State × Reply) (s : State) : State :=
  match s.laneWork kind with
  | some (l, e) =>
    let d := decision { lane := l, kind := e.kind, body := e.body } (s.takeLane l)
    d.1.handOver l (laneAnswerOf e d.2)
  | none => s

/-- The lane entry the arbiter picks, when it is not well-formed (R4). -/
def State.badLaneWork (s : State) : Option (Nat × LaneEntry) :=
  match s.pick with
  | some (.lane l) =>
    match s.laneHead l with
    | some e => if laneWellFormed e.kind e.body then none else some (l, e)
    | none => none
  | _ => none

/-- LANE_BAD_REQUEST: an entry that is not well-formed is declined BAD_REQUEST without other effect (R4, R51). -/
def execLaneBadRequest (s : State) : Out :=
  match s.badLaneWork with
  | some (l, e) => .next ((s.takeLane l).handOver l (laneAnswerOf e (Reply.decline .badRequest)))
  | none => .next s

/-! ### Office card requests -/

/-- The body of the office card request the arbiter picks, when it is of the named kind (R48, R61). -/
def State.cardWork (s : State) (kind : Nat) : Option (List Byte) :=
  match s.pick with
  | some .office => s.officeBody kind
  | _ => none

/-- The office card queue has been served: lane 0 stands highest (R48). -/
def State.takeOffice (s : State) : State := { s with ledger.top := 0 }

/-- One office card request at the Card Ledger (R48, R61). -/
def cardStep (kind : Nat) (serve : List Byte → State → State) (s : State) : State :=
  match s.cardWork kind with
  | some b => serve b s.takeOffice
  | none => s

/-- One office request served by its block as soon as it is in flight (R187). -/
def officeStep (kind : Nat) (serve : List Byte → State → State) (s : State) : State :=
  match s.officeBody kind with
  | some b => serve b s
  | none => s

end Sys2Proof.Machine
end

