-- ==== Sys2Proof/Machine/Admission.lean ====
section
/-! DEFINITION. Admission at the Card Ledger: binding lookup, shop admission, program lookup, record faults, acceptance, codes
(R24, R29, R31, R34, R38, R51 to R54), and the parts every commit shares (R41, R49, R60, R113). -/

namespace Sys2Proof.Machine

/-! ### Lookups in the reference tables -/

/-- The shop of the first enabled binding entry of the lane with the request's address; addresses 0 and 255 find none
(R34). With a blank store the tables hold nothing (R21), so no entry is found (log 8). -/
def State.boundShop (s : State) (lane address : Nat) : Option Nat :=
  if address = 0 ∨ address = 255 ∨ s.store.signature = false then none
  else
    (firstFrom (fun i => (s.binding (lane * Config.bindingsPerLane + i)).enabled
        && decide ((s.binding (lane * Config.bindingsPerLane + i)).address = address)) Config.bindingsPerLane 0).map
      fun i => (s.binding (lane * Config.bindingsPerLane + i)).shop

/-- The lowest program whose boundary is above the serial, enabled or not: the program whose range holds it (R24, R29). -/
def State.rangeProgram (s : State) (serial : Nat) : Option Nat :=
  firstFrom (fun k => decide (serial < (s.program k).boundary)) 8 0

/-- The program lookup (R24, R29). -/
def State.lookup (s : State) (serial : Nat) : Option Nat :=
  if s.cap ≤ serial then none
  else
    match s.rangeProgram serial with
    | some k => if (s.program k).enabled then some k else none
    | none => none

/-- The segment of a shop (2.4). -/
def segment (shop : Nat) : Nat := shop / 16

/-- RE of a cell (2.4). -/
def AcceptRow.hasRe (a : AcceptRow) (p : Nat) : Bool := a.re.getLsbD p
/-- LE of a cell (2.4). -/
def AcceptRow.hasLe (a : AcceptRow) (p : Nat) : Bool := a.le.getLsbD p
/-- Effective XE of a cell: XE and RE both set (R30). -/
def AcceptRow.effectiveXe (a : AcceptRow) (p : Nat) : Bool := a.xe.getLsbD p && a.re.getLsbD p

/-- The columns of R38's table. -/
inductive ShopClass where
  /-- ACTIVATE, LOAD. -/
  | sale
  /-- BALANCE. -/
  | inquiry
  /-- AUTHORIZE, REDEEM, CAPTURE, CASHOUT. -/
  | spend
  /-- VOID, REFUND. -/
  | giveBack
  deriving DecidableEq, Repr

/-- The decline of the shop admission check, if any (R38). -/
def shopDecline (cls : ShopClass) (office : OfficeState) (debtBar : Bool) : Option LaneResult :=
  match office, cls with
  | .vacant, _ => some .shopClosed
  | .frozen, _ => some .shopFrozen
  | .trading, .sale => if debtBar then some .shopBarred else none
  | .trading, _ => none
  | .departed, .sale => some .shopClosed
  | .departed, .spend => some .shopClosed
  | .departed, .inquiry => none
  | .departed, .giveBack => none

/-- The checks every lane request meets first: field encodings, binding lookup, ledger OPEN, shop admission (R51, R81, R97).
The requesting shop, or the decline. -/
def State.admitShop (s : State) (cls : ShopClass) (req : LaneReq) : Except LaneResult Nat :=
  if !laneFieldsOk req.kind req.body then .error .badRequest
  else
    match s.boundShop req.lane (laneTerminal req.body) with
    | none => .error .unknownTerminal
    | some shop =>
      if s.ledger.mode ≠ .opened then .error .notOpen
      else
        match shopDecline cls (s.shop shop).office (s.shop shop).debtBar with
        | some d => .error d
        | none => .ok shop

/-! ### Card records -/

/-- A record faults when its check value does not match, or when it is not BLANK and its program is not the expected one
(R29, R52). -/
def faulty (r : CardRecord) (expected : Option Nat) : Bool :=
  !r.checkOk || (decide (r.state ≠ .blank) && (expected.isNone || decide (r.program ≠ expected)))

/-- A record fault on a serial: entered in the fault list unless listed or the list is full, when the overflow flag is set;
RECORD_FAULT is raised unless the serial was listed (R52, R53). -/
def State.noteFault (s : State) (serial : Nat) : State :=
  if serial ∈ s.ledger.faults then s
  else if s.ledger.faults.length < Config.faultMax then
    { s with ledger.faults := s.ledger.faults ++ [serial] }.raise .recordFault
  else { s with ledger.faultOverflow := true }.raise .recordFault

/-- The Card Ledger's read of a record: none for a serial on the fault list, which is not read, and for a record that faults,
which is noted (R52). -/
def State.readRecord (s : State) (serial : Nat) (expected : Option Nat) : State × Option CardRecord :=
  if serial ∈ s.ledger.faults then (s, none)
  else if faulty (s.card serial) expected then (s.noteFault serial, none)
  else (s, some (s.card serial))

/-- Available is balance minus held (R50). -/
def CardRecord.available (r : CardRecord) : Nat := r.balance - r.held

/-- The card sequence after a commit (R41). -/
def nextCardSeq (n : Nat) : Nat := (n + 1) % 16777216

/-! ### Commits -/

/-- The record written whole, with a matching check value (R41). -/
def State.writeCard (s : State) (serial : Nat) (r : CardRecord) : State := s.setCard serial { r with checkOk := true }

/-- The state with the ledger totals replaced (R60). -/
def State.setTotals (s : State) (t : Totals) : State := { s with store.totals := t }

/-- The float moves with a change of a card balance (R60). -/
def Totals.moveFloat (t : Totals) (d : Int) : Totals := { t with float := totalAfter t.float d }

/-- A journal entry of the Card Ledger, and the accrual its commit pushes: it carries the current period as commit period and
the entry's sequence number (R49, R113). -/
def State.post (s : State) (body : EntryBody) (effect : Option Effect) : State :=
  let s1 := s.append s.ledger.period body
  match effect with
  | some e => { s1 with settle.accruals := s1.settle.accruals ++ [.money e s.ledger.period s.store.nextToWrite] }
  | none => s1

/-- A capture record joins the window at its newest end; the oldest is evicted from a full window (R94, R95). -/
def addCapture (w : List CaptureRecord) (r : CaptureRecord) : List CaptureRecord :=
  if Config.windowMax ≤ w.length then w.tail ++ [r] else w ++ [r]

/-- The state with a capture record added. -/
def State.addWindow (s : State) (r : CaptureRecord) : State := { s with store.window := addCapture s.store.window r }

/-- The record after a code mismatch: on the third failure an ACTIVE card is SUSPENDED with cause LOCKOUT (R54). DESIGN CHOICE
(log 43): an ACTIVE card whose count stands at 3 already, as REWRITE_CARD may leave it (R68), is locked by its next mismatch too and
counts 4, which 3.1 does not foresee. -/
def failedCard (r : CardRecord) : CardRecord :=
  let lock := decide (3 ≤ r.failures + 1) && decide (r.state = .active)
  { r with failures := r.failures + 1, seq := nextCardSeq r.seq,
           state := if lock then .suspended else r.state,
           suspend := if lock then some .lockout else r.suspend }

/-- A code mismatch is committed with one CARD_STATE entry; without a reservation it is declined JOURNAL_FULL and the count
does not move (R54). -/
def State.codeFailure (s : State) (serial : Nat) (r : CardRecord) : State × LaneResult :=
  match s.reserve .general 1 with
  | none => (s, .journalFull)
  | some s1 =>
    let r1 := failedCard r
    ((s1.writeCard serial r1).post
      (.cardState serial r1.seq .codeFailure r1.state r1.suspend r1.failures none) none, .badCode)

/-! ### Admission of the requests that name a serial (R51, R81) -/

/-- What differs among those requests: the shop class, the acceptance flag, the card states, and whether an amount is checked. -/
structure CardRule where
  cls : ShopClass
  accepts : AcceptRow → Nat → Bool
  stateOk : CardRecord → Bool
  amount : Bool

/-- The end of the admission checks: a decline with what it committed, or the requesting shop, the program and the record. -/
inductive Admission where
  | stop (s : State) (r : LaneResult)
  | pass (shop program : Nat) (card : CardRecord)
  deriving DecidableEq, Repr

/-- The checks of R51 and R81 for a request that names a serial, in order, up to the amount. -/
def State.admitCard (s : State) (rule : CardRule) (req : LaneReq) : Admission :=
  match s.admitShop rule.cls req with
  | .error d => .stop s d
  | .ok shop =>
    match s.lookup (laneSerial req.body) with
    | none => .stop s .noCard
    | some prog =>
      match s.readRecord (laneSerial req.body) (some prog) with
      | (s1, none) => .stop s1 .recordFault
      | (_, some card) =>
        if !rule.accepts (s.acceptRow (segment shop)) prog then .stop s .notAccepted
        else if !rule.stateOk card then .stop s .cardState
        else if card.code ≠ some (laneCode req.body) then
          let f := s.codeFailure (laneSerial req.body) card
          .stop f.1 f.2
        else if rule.amount && (decide (laneAmount req.body = 0) || decide (Config.amountMax < laneAmount req.body)) then
          .stop s .badAmount
        else .pass shop prog card

end Sys2Proof.Machine
end

