-- ==== Sys2Proof/Machine/Cards.lean ====
section
/-! DEFINITION. The lane requests on a card by serial: ACTIVATE, LOAD, BALANCE, REDEEM, CASHOUT (R55 to R59). -/

namespace Sys2Proof.Machine

/-- ACTIVATE needs LE and a STOCK card with fewer than 3 code failures (R51). -/
def activateRule : CardRule :=
  { cls := .sale, accepts := AcceptRow.hasLe,
    stateOk := fun c => decide (c.state = .stock) && decide (c.failures < 3), amount := true }

/-- LOAD needs LE and an ACTIVE card (R51). -/
def loadRule : CardRule :=
  { cls := .sale, accepts := AcceptRow.hasLe, stateOk := fun c => decide (c.state = .active), amount := true }

/-- BALANCE needs RE or LE and an ACTIVE card (R31, R51). -/
def balanceRule : CardRule :=
  { cls := .inquiry, accepts := fun a p => a.hasRe p || a.hasLe p, stateOk := fun c => decide (c.state = .active),
    amount := false }

/-- REDEEM needs RE and an ACTIVE card (R51). -/
def redeemRule : CardRule :=
  { cls := .spend, accepts := AcceptRow.hasRe, stateOk := fun c => decide (c.state = .active), amount := true }

/-- CASHOUT needs RE and an ACTIVE card (R51). -/
def cashoutRule : CardRule := { redeemRule with amount := false }

/-- An approval with amount and available balance (R50). -/
def Reply.approve (result : LaneResult) (amount available : Nat) : Reply :=
  { result := result, approved := some amount, available := some available, holdRef := none, captureRef := none }

/-- The card after an approved ACTIVATE (R55). -/
def activatedCard (c : CardRecord) (shop amount period : Nat) : CardRecord :=
  { c with state := .active, balance := amount, issuing := some shop, activation := some period, lastUse := some period,
           failures := 0, seq := nextCardSeq c.seq }

/-- Totals after a sale or load (R55, R56, R60). -/
def Totals.load (t : Totals) (amount : Nat) : Totals :=
  { t with loaded := totalAfter t.loaded amount }.moveFloat amount

/-- ACTIVATE decided (R51, R55). -/
def decideActivate (req : LaneReq) (s : State) : State × Reply :=
  match s.admitCard activateRule req with
  | .stop s1 d => (s1, Reply.decline d)
  | .pass shop prog card =>
    let p := s.program prog
    let amount := laneAmount req.body
    let serial := laneSerial req.body
    if amount < p.activationMin ∨ p.loadLimit < amount then (s, Reply.declineWith .limit card.available)
    else
      match s.reserve .general 1 with
      | none => (s, Reply.decline .journalFull)
      | some s1 =>
        let c := activatedCard card shop amount s.ledger.period
        (((s1.writeCard serial c).setTotals (s.store.totals.load amount)).post
          (.activate serial c.seq req.lane (laneTerminal req.body) shop amount c.balance) (some (.sold shop amount)),
         Reply.approve .approved amount c.available)

/-- ACTIVATE taken by the Card Ledger. -/
def execActivate (s : State) : Out := .next (laneStep 0x10 decideActivate s)

/-- The card after an approved LOAD (R56). -/
def loadedCard (c : CardRecord) (amount period : Nat) : CardRecord :=
  { c with balance := c.balance + amount, failures := 0, lastUse := some period, seq := nextCardSeq c.seq }

/-- LOAD decided (R51, R56). -/
def decideLoad (req : LaneReq) (s : State) : State × Reply :=
  match s.admitCard loadRule req with
  | .stop s1 d => (s1, Reply.decline d)
  | .pass shop prog card =>
    let amount := laneAmount req.body
    let serial := laneSerial req.body
    if (s.program prog).loadLimit < card.balance + amount then (s, Reply.declineWith .limit card.available)
    else
      match s.reserve .general 1 with
      | none => (s, Reply.decline .journalFull)
      | some s1 =>
        let c := loadedCard card amount s.ledger.period
        (((s1.writeCard serial c).setTotals (s.store.totals.load amount)).post
          (.load serial c.seq req.lane (laneTerminal req.body) shop amount c.balance) (some (.sold shop amount)),
         Reply.approve .approved amount c.available)

/-- LOAD taken by the Card Ledger. -/
def execLoad (s : State) : Out := .next (laneStep 0x11 decideLoad s)

/-- BALANCE decided: the available balance, no commit (R57). -/
def decideBalance (req : LaneReq) (s : State) : State × Reply :=
  match s.admitCard balanceRule req with
  | .stop s1 d => (s1, Reply.decline d)
  | .pass _ _ card =>
    (s, { result := .approved, approved := none, available := some card.available, holdRef := none, captureRef := none })

/-- BALANCE taken by the Card Ledger. -/
def execBalance (s : State) : Out := .next (laneStep 0x12 decideBalance s)

/-- The amount approved out of what is available, and the result: the amount if it is covered, all of available if partial
approval is allowed and something is available (R58, R82). -/
def approvedAmount (amount available : Nat) (allowPart : Bool) : Option (Nat × LaneResult) :=
  if amount ≤ available then some (amount, .approved)
  else if allowPart && decide (0 < available) then some (available, .part)
  else none

/-- The card after an approved REDEEM (R58). -/
def redeemedCard (c : CardRecord) (amount period : Nat) : CardRecord :=
  { c with balance := c.balance - amount, failures := 0, lastUse := some period, seq := nextCardSeq c.seq }

/-- Totals after a redemption or capture (R58, R60, R86). -/
def Totals.capture (t : Totals) (amount : Nat) : Totals :=
  { t with captured := totalAfter t.captured amount }.moveFloat (-(amount : Int))

/-- REDEEM decided (R51, R58, R94). -/
def decideRedeem (req : LaneReq) (s : State) : State × Reply :=
  match s.admitCard redeemRule req with
  | .stop s1 d => (s1, Reply.decline d)
  | .pass shop prog card =>
    let serial := laneSerial req.body
    match approvedAmount (laneAmount req.body) card.available (lanePartial req.body == 1) with
    | none => (s, Reply.declineWith .insufficient card.available)
    | some (amount, result) =>
      match s.reserve .general 1 with
      | none => (s, Reply.decline .journalFull)
      | some s1 =>
        let rate := (s.program prog).rate
        let c := redeemedCard card amount s.ledger.period
        let record : CaptureRecord :=
          { ref := s.store.nextToWrite, card := serial, shop := shop, program := prog, rate := rate, captured := amount,
            refunded := 0, period := s.ledger.period }
        ((((s1.writeCard serial c).setTotals (s.store.totals.capture amount)).addWindow record).post
          (.redeem serial c.seq shop req.lane (laneTerminal req.body) prog rate amount)
          (some (.redeemed shop amount rate)),
         { Reply.approve result amount c.available with captureRef := some s.store.nextToWrite })

/-- REDEEM taken by the Card Ledger. -/
def execRedeem (s : State) : Out := .next (laneStep 0x16 decideRedeem s)

/-- The card after an approved CASHOUT (R54, R59). -/
def cashedCard (c : CardRecord) (period : Nat) : CardRecord :=
  { c with balance := 0, state := .closed, failures := 0, lastUse := some period, seq := nextCardSeq c.seq }

/-- Totals after a cash-out (R59, R60). -/
def Totals.cash (t : Totals) (amount : Nat) : Totals :=
  { t with cashedOut := totalAfter t.cashedOut amount }.moveFloat (-(amount : Int))

/-- CASHOUT decided (R51, R59). -/
def decideCashout (req : LaneReq) (s : State) : State × Reply :=
  match s.admitCard cashoutRule req with
  | .stop s1 d => (s1, Reply.decline d)
  | .pass shop prog card =>
    let serial := laneSerial req.body
    if 0 < card.holdCount then (s, Reply.decline .holdsFull)
    else if card.balance = 0 ∨ (s.program prog).ceiling < card.balance then
      (s, Reply.declineWith .limit card.available)
    else
      match s.reserve .general 1 with
      | none => (s, Reply.decline .journalFull)
      | some s1 =>
        let c := cashedCard card s.ledger.period
        (((s1.writeCard serial c).setTotals (s.store.totals.cash card.balance)).post
          (.cashout serial c.seq shop req.lane (laneTerminal req.body) card.balance)
          (some (.cashed shop card.balance)),
         Reply.approve .approved card.balance 0)

/-- CASHOUT taken by the Card Ledger. -/
def execCashout (s : State) : Out := .next (laneStep 0x18 decideCashout s)

end Sys2Proof.Machine
end

