-- ==== Sys2Proof/Machine/CardOffice.lean ====
section
/-! DEFINITION. The office card requests (R44, R45, R60 to R68, R130). -/

namespace Sys2Proof.Machine

/-! ### Admission (R43, R47, R61) -/

/-- READ_CARD and READ_TOTALS are answered in OPEN, and in CONFIG when the store has a signature; every other committing card
request only in OPEN (R43, R47, R60). -/
def State.cardReadable (s : State) : Bool :=
  decide (s.ledger.mode = .opened) || (decide (s.ledger.mode = .config) && s.store.signature)

/-- The end of the checks of an office card request that names a serial. -/
inductive OfficeAdmission where
  | stop (s : State) (code : OfficeCode)
  | pass (program : Nat) (card : CardRecord)

/-- The checks of R61 for a request that acts on a sound record: ledger OPEN, program lookup, fault list and record. -/
def State.admitOffice (s : State) (serial : Nat) : OfficeAdmission :=
  if s.ledger.mode ≠ .opened then .stop s .wrongState
  else
    match s.lookup serial with
    | none => .stop s .badValue
    | some prog =>
      match s.readRecord serial (some prog) with
      | (s1, none) => .stop s1 .wrongState
      | (_, some card) => .pass prog card

/-- A commit of an office card request: the reservation, the record written whole, one entry, at most one accrual, the answer
DONE; without a reservation JOURNAL_FULL and no change (R49). -/
def State.commitOffice (s : State) (serial : Nat) (r : CardRecord) (t : Totals) (body : EntryBody) (effect : Option Effect) :
    State :=
  match s.reserve .general 1 with
  | none => s.refuse .journalFull
  | some s1 => (((s1.writeCard serial r).setTotals t).post body effect).done []

/-! ### READ_CARD, READ_TOTALS -/

/-- READ_CARD: the record as stored with its two indications; a faulty read enters the fault list (R62). A record whose program
number is not that of its range is a check-value mismatch (R29) and is shown as one. -/
def serveReadCard (b : List Byte) (s : State) : State :=
  let serial := officeSerial b
  if !s.cardReadable then s.refuse .wrongState
  else
    match s.lookup serial with
    | none => s.refuse .badValue
    | some prog =>
      let fault := faulty (s.card serial) (some prog)
      let s1 := if fault then s.noteFault serial else s
      s1.done (cardView serial (s.card serial) (!fault) (decide (serial ∈ s1.ledger.faults)))

/-- READ_CARD taken by the Card Ledger. -/
def execReadCard (s : State) : Out := .next (cardStep 0x48 serveReadCard s)

/-- READ_TOTALS: the eight totals and the current period (R60). -/
def serveReadTotals (_ : List Byte) (s : State) : State :=
  if !s.cardReadable then s.refuse .wrongState
  else s.done (totalsBytes s.store.totals ++ bytesOf 2 s.ledger.period)

/-- READ_TOTALS taken by the Card Ledger. -/
def execReadTotals (s : State) : Out := .next (cardStep 0x40 serveReadTotals s)

/-! ### PROVISION, SUSPEND, RESUME, CLOSE_CARD, ADJUST -/

/-- The card after PROVISION (R63). -/
def provisionedCard (c : CardRecord) (prog code : Nat) : CardRecord :=
  { c with state := .stock, program := some prog, code := some code, failures := 0, balance := 0, held := 0,
           holdCount := 0, seq := nextCardSeq c.seq }

/-- PROVISION (R63). -/
def serveProvision (b : List Byte) (s : State) : State :=
  let serial := officeSerial b
  match s.admitOffice serial with
  | .stop s1 code => s1.refuse code
  | .pass prog card =>
    if 9999 < provisionCode b then s.refuse .badValue
    else if card.state ≠ .blank then s.refuse .wrongState
    else
      let c := provisionedCard card prog (provisionCode b)
      s.commitOffice serial c s.store.totals (.provision serial c.seq prog) none

/-- PROVISION taken by the Card Ledger. -/
def execProvision (s : State) : Out := .next (cardStep 0x4C serveProvision s)

/-- A CARD_STATE entry of an office request (R177). -/
def cardStateEntry (serial : Nat) (c : CardRecord) (cause : CardStateCause) : EntryBody :=
  .cardState serial c.seq cause c.state c.suspend c.failures none

/-- The card after SUSPEND (R64). -/
def suspendedCard (c : CardRecord) : CardRecord :=
  { c with state := .suspended, suspend := some .office, seq := nextCardSeq c.seq }

/-- SUSPEND (R64). -/
def serveSuspend (b : List Byte) (s : State) : State :=
  let serial := officeSerial b
  match s.admitOffice serial with
  | .stop s1 code => s1.refuse code
  | .pass _ card =>
    if card.state = .suspended ∧ card.suspend = some .office then s.done []
    else if card.state = .active ∨ card.state = .suspended then
      let c := suspendedCard card
      s.commitOffice serial c s.store.totals (cardStateEntry serial c .suspend) none
    else s.refuse .wrongState

/-- SUSPEND taken by the Card Ledger. -/
def execSuspend (s : State) : Out := .next (cardStep 0x49 serveSuspend s)

/-- The card after RESUME: a SUSPENDED card ACTIVE, a STOCK card STOCK, code failures 0 (R65). -/
def resumedCard (c : CardRecord) : CardRecord :=
  { c with state := if c.state = .suspended then .active else c.state,
           suspend := if c.state = .suspended then none else c.suspend, failures := 0, seq := nextCardSeq c.seq }

/-- RESUME (R65). -/
def serveResume (b : List Byte) (s : State) : State :=
  let serial := officeSerial b
  match s.admitOffice serial with
  | .stop s1 code => s1.refuse code
  | .pass _ card =>
    if card.state = .suspended ∨ (card.state = .stock ∧ card.failures = 3) then
      let c := resumedCard card
      s.commitOffice serial c s.store.totals (cardStateEntry serial c .resume) none
    else s.refuse .wrongState

/-- RESUME taken by the Card Ledger. -/
def execResume (s : State) : Out := .next (cardStep 0x4A serveResume s)

/-- The card after CLOSE_CARD (R66). -/
def closedCard (c : CardRecord) : CardRecord :=
  { c with balance := 0, state := .closed, suspend := none, seq := nextCardSeq c.seq }

/-- Totals after a card is closed by the office (R60, R66). -/
def Totals.close (t : Totals) (amount : Nat) : Totals :=
  { t with unclaimed := totalAfter t.unclaimed amount }.moveFloat (-(amount : Int))

/-- CLOSE_CARD (R66); taken while the accrual queue is full, it is refused JOURNAL_FULL at once (R48). -/
def serveCloseCard (b : List Byte) (s : State) : State :=
  let serial := officeSerial b
  if !s.accrualFree then s.refuse .journalFull
  else
    match s.admitOffice serial with
    | .stop s1 code => s1.refuse code
    | .pass _ card =>
      if card.state = .blank ∨ card.state = .closed then s.refuse .wrongState
      else if 0 < card.holdCount then s.refuse .holdsOpen
      else
        let c := closedCard card
        s.commitOffice serial c (if card.balance = 0 then s.store.totals else s.store.totals.close card.balance)
          (.closeCard serial c.seq card.balance) (if card.balance = 0 then none else some (.unclaimed card.balance))

/-- CLOSE_CARD taken by the Card Ledger. -/
def execCloseCard (s : State) : Out := .next (cardStep 0x4B serveCloseCard s)

/-- The card after ADJUST (R67). -/
def adjustedCard (c : CardRecord) (d : AdjustDirection) (amount : Nat) : CardRecord :=
  { c with balance := if d = .credit then c.balance + amount else c.balance - amount, seq := nextCardSeq c.seq }

/-- Totals after an adjustment by a signed difference: credit if positive, debit if negative (R60, R67, R68). -/
def Totals.adjust (t : Totals) (d : Int) : Totals :=
  if 0 < d then { t with adjustedCredit := totalAfter t.adjustedCredit d }.moveFloat d
  else if d < 0 then { t with adjustedDebit := totalAfter t.adjustedDebit (-d) }.moveFloat d
  else t

/-- The signed change of an adjustment. -/
def adjustChange (d : AdjustDirection) (amount : Nat) : Int := if d = .credit then amount else -(amount : Int)

/-- ADJUST (R67). -/
def serveAdjust (b : List Byte) (s : State) : State :=
  let serial := officeSerial b
  let amount := adjustAmount b
  match s.admitOffice serial with
  | .stop s1 code => s1.refuse code
  | .pass _ card =>
    match AdjustDirection.ofCode (adjustDirectionByte b) with
    | none => s.refuse .badValue
    | some d =>
      if amount = 0 ∨ Config.amountMax < amount then s.refuse .badValue
      else if card.state ≠ .active ∧ card.state ≠ .suspended then s.refuse .wrongState
      else if d = .credit ∧ Config.balanceMax < card.balance + amount then s.refuse .badValue
      else if d = .debit ∧ card.available < amount then s.refuse .insufficient
      else
        let c := adjustedCard card d amount
        s.commitOffice serial c (s.store.totals.adjust (adjustChange d amount)) (.adjust serial c.seq d amount) none

/-- ADJUST taken by the Card Ledger. -/
def execAdjust (s : State) : Out := .next (cardStep 0x4D serveAdjust s)

/-! ### REWRITE_CARD -/

/-- The hold table holds an open hold of the serial (R68, R75). -/
def State.hasOpenHold (s : State) (serial : Nat) : Bool :=
  s.holds.any fun e => decide (e.2.hold.map Hold.card = some serial)

/-- The supplied record breaks one of R68's conditions (log 20). -/
def rewriteBad (r : CardRecord) (prog : Nat) : Bool :=
  if r.state = .blank then
    r.program.isSome || r.code.isSome || r.issuing.isSome || r.activation.isSome || r.lastUse.isSome
      || decide (r.balance ≠ 0) || decide (3 < r.failures) || r.suspend.isSome
  else
    decide (r.program ≠ some prog)
      || (decide (r.state = .stock ∨ r.state = .closed) && decide (r.balance ≠ 0))
      || decide (Config.balanceMax < r.balance) || decide (9999 < r.code.getD 0xFFFF) || decide (3 < r.failures)
      || (decide (r.state = .suspended) != r.suspend.isSome)

/-- REWRITE_CARD (R68): taken for a serial on the fault list or a record that faults when read. A record that reads CLOSED is
not written out of CLOSED (R42). DEDUCED and DESIGN CHOICE (log 46): that request is refused WRONG_STATE, after the checks of R68
and before the reservation. -/
def serveRewriteCard (b : List Byte) (s : State) : State :=
  let serial := officeSerial b
  if s.ledger.mode ≠ .opened then s.refuse .wrongState
  else
    match s.lookup serial with
    | none => s.refuse .badValue
    | some prog =>
      match s.readRecord serial (some prog) with
      | (_, some _) => s.refuse .wrongState
      | (s1, none) =>
        if s1.hasOpenHold serial then s1.refuse .holdsOpen
        else
          match rewriteOfBody b with
          | none => s1.refuse .badValue
          | some r =>
            if rewriteBad r prog then s1.refuse .badValue
            else if (s.card serial).state = .closed ∧ r.state ≠ .closed then s1.refuse .wrongState
            else
              match s1.reserve .general 1 with
              | none => s1.refuse .journalFull
              | some s2 =>
                let c := { r with seq := nextCardSeq r.seq }
                let diff : Int := (c.balance : Int) - ((s.card serial).balance : Int)
                let s3 := ((s2.writeCard serial c).setTotals (s.store.totals.adjust diff)).post
                  (.cardState serial c.seq .rewrite c.state c.suspend c.failures (some (c, diff))) none
                State.done { s3 with ledger.faults := s3.ledger.faults.filter (fun x => decide (x ≠ serial)) } []

/-- REWRITE_CARD taken by the Card Ledger. -/
def execRewriteCard (s : State) : Out := .next (cardStep 0x4E serveRewriteCard s)

/-! ### FORMAT, OPEN_LEDGER, CLOSE_PERIOD -/

/-- FORMAT: taken in CONFIG; the signature is destroyed and the store writes begin (R44). -/
def serveFormat (_ : List Byte) (s : State) : State :=
  if s.ledger.mode ≠ .config then s.refuse .wrongState
  else { s with store.signature := false, ledger.formatting := true }

/-- FORMAT taken by the Card Ledger. -/
def execFormat (s : State) : Out := .next (cardStep 0x43 serveFormat s)

/-- The store as FORMAT leaves it: every table at its starting contents, the signature written last. The records of serials
0 to CAP − 1 are BLANK; those of CAP and above are not written (R21, R41, R44, R46), and one that was never written reads as a sound
BLANK record under a larger CAP (DESIGN CHOICE, log 48). -/
def Store.format (st : Store) (cap : Nat) : Store :=
  { Store.formatted with cards := st.cards.filter (fun e => decide (cap ≤ e.1)) }

/-- FORMAT_COMPLETE: the tables written, the signature last, the fault list emptied, the journal's pointers at 1 and its
attention re-armed, the answer DONE (R44, R178). Both copies of the period and both counts follow the store (log 29). -/
def execFormatComplete (s : State) : Out :=
  if s.ledger.formatting && !s.pfw then
    .next (State.done
      { s with
        store := s.store.format s.cap,
        ledger := { s.ledger with period := 0, faults := [], faultOverflow := false, formatting := false },
        settle.period := 0, settle.unrolled := 0, settle.openPayouts := 0,
        journal.nextStream := 1, journal.highHeld := false, journal.fullHeld := false } [])
  else .next s

/-- OPEN_LEDGER (R45). -/
def serveOpenLedger (_ : List Byte) (s : State) : State :=
  if s.ledger.mode ≠ .config ∨ s.store.signature = false ∨ s.store.periodWord ≠ 0 then s.refuse .wrongState
  else
    match s.reserve .general 1 with
    | none => s.refuse .journalFull
    | some s1 =>
      State.done
        ({ s1 with
           store.openFlag := true, store.periodWord := 1, ledger.period := 1, ledger.mode := .opened,
           settle.period := 1 }.append 1 (.period 0 1)) []

/-- OPEN_LEDGER taken by the Card Ledger. -/
def execOpenLedger (s : State) : Out := .next (cardStep 0x42 serveOpenLedger s)

/-- CLOSE_PERIOD: its four checks; then a CLOSE entry is pushed and the close is outstanding under its reservation (R130, R131).
Taken while the accrual queue is full, it is refused JOURNAL_FULL at once (R48). -/
def serveClosePeriod (_ : List Byte) (s : State) : State :=
  if !s.accrualFree then s.refuse .journalFull
  else if s.ledger.mode ≠ .opened then s.refuse .wrongState
  else if s.ledger.period = Config.lastPeriod then s.refuse .periodLimit
  else if 0 < s.settle.unrolled then s.refuse .rollBusy
  else
    match s.reserve .general 1 with
    | none => s.refuse .journalFull
    | some s1 =>
      { s1 with settle.accruals := s1.settle.accruals ++ [.close s.ledger.period], ledger.closeOutstanding := true }

/-- CLOSE_PERIOD taken by the Card Ledger. -/
def execClosePeriod (s : State) : Out := .next (cardStep 0x41 serveClosePeriod s)

end Sys2Proof.Machine
end

