-- ==== Sys2Proof/Machine/Holds.lean ====
section
/-! DEFINITION. Holds: AUTHORIZE, CAPTURE, VOID, the deadline compare and expiry (chapter 4). -/

namespace Sys2Proof.Machine

/-! ### The hold table and the expiry queue -/

/-- A hold reference: slot × 32 + generation (R72). -/
def holdRefOf (slot gen : Nat) : Nat := slot * 32 + gen

/-- How a hold reference resolves (R72). -/
inductive Resolved where
  | active (slot gen : Nat) (hold : Hold)
  | ended (cause : EndCause)
  | unknown
  deriving DecidableEq, Repr

/-- A reference resolved against the hold table (R72). -/
def State.resolveHold (s : State) (ref : Nat) : Resolved :=
  let slot := ref / 32
  let gen := ref % 32
  let h := s.holdSlot slot
  match h.hold, h.memory with
  | some hold, _ => if h.gen = gen then .active slot gen hold else .unknown
  | none, some (g, cause) => if g = gen then .ended cause else .unknown
  | none, none => .unknown

/-- The lowest-numbered free slot (R73). -/
def State.freeHoldSlot (s : State) : Option Nat :=
  firstFrom (fun k => (s.holdSlot k).hold.isNone) Config.holdSlots 0

/-- A hold joins the expiry queue in deadline order, behind equal deadlines (R76). -/
def insertExpiry (it : ExpiryItem) : List ExpiryItem → List ExpiryItem
  | [] => [it]
  | x :: xs => if earlier it.deadline x.deadline then it :: x :: xs else x :: insertExpiry it xs

/-- A slot opens with a hold under its next generation; the end memory is discarded and the hold joins the expiry queue
(R73, R76). -/
def State.openHold (s : State) (slot : Nat) (hold : Hold) : State :=
  let gen := (s.holdSlot slot).gen
  { s.setHoldSlot slot { gen := gen, hold := some hold, memory := none } with
    expiryQ := insertExpiry { slot := slot, gen := gen, deadline := hold.deadline } s.expiryQ }

/-- A hold ends: its slot is free with end memory and the generation after it, and it leaves the expiry queue or the list of
waiting expiry requests (R74). -/
def State.endHold (s : State) (slot gen : Nat) (cause : EndCause) : State :=
  { s.setHoldSlot slot { gen := (gen + 1) % 32, hold := none, memory := some (gen, cause) } with
    expiryQ := s.expiryQ.filter (fun it => decide (it.slot ≠ slot)),
    waiting := s.waiting.filter (fun it => decide (it.slot ≠ slot)) }

/-- The card record with an ended hold's amount and count taken off (R74). -/
def releasedCard (c : CardRecord) (amount : Nat) : CardRecord :=
  { c with held := c.held - amount, holdCount := c.holdCount - 1, seq := nextCardSeq c.seq }

/-! ### AUTHORIZE -/

/-- The card after an approved AUTHORIZE (R83). -/
def authorizedCard (c : CardRecord) (amount period : Nat) : CardRecord :=
  { c with held := c.held + amount, holdCount := c.holdCount + 1, failures := 0, lastUse := some period,
           seq := nextCardSeq c.seq }

/-- AUTHORIZE decided (R81, R82, R83). It is admitted as REDEEM is: RE, an ACTIVE card, an amount. -/
def decideAuthorize (req : LaneReq) (s : State) : State × Reply :=
  match s.admitCard redeemRule req with
  | .stop s1 d => (s1, Reply.decline d)
  | .pass shop prog card =>
    let p := s.program prog
    let serial := laneSerial req.body
    if p.maxHolds ≤ card.holdCount then (s, Reply.decline .holdsFull)
    else
      match s.freeHoldSlot with
      | none => (s, Reply.decline .holdsFull)
      | some slot =>
        match approvedAmount (laneAmount req.body) card.available (lanePartial req.body == 1) with
        | none => (s, Reply.declineWith .insufficient card.available)
        | some (amount, result) =>
          match s.reserve .general 1 with
          | none => (s, Reply.decline .journalFull)
          | some s1 =>
            let c := authorizedCard card amount s.ledger.period
            let deadline := s.time + milliseconds p.lifetime
            let ref := holdRefOf slot (s.holdSlot slot).gen
            let hold : Hold :=
              { card := serial, shop := shop, lane := req.lane, terminal := laneTerminal req.body, amount := amount,
                rate := p.rate, deadline := deadline }
            (((s1.openHold slot hold).writeCard serial c).post
              (.authorize serial c.seq ref shop req.lane (laneTerminal req.body) amount p.rate deadline) none,
             { Reply.approve result amount c.available with holdRef := some ref })

/-- AUTHORIZE taken by the Card Ledger. -/
def execAuthorize (s : State) : Out := .next (laneStep 0x13 decideAuthorize s)

/-! ### CAPTURE and VOID -/

/-- The decline of a reference that has ended (R85, R88). -/
def endedDecline : EndCause → LaneResult
  | .expired => .holdExpired
  | .captured => .holdEnded
  | .voided => .holdEnded

/-- The decline of a reference that does not resolve as an open hold (R85, R88). -/
def resolvedDecline : Resolved → LaneResult
  | .ended cause => endedDecline cause
  | _ => .holdUnknown

/-- The card after an approved CAPTURE: the whole hold released, the captured amount out of the balance (R86). -/
def capturedCard (c : CardRecord) (held amount period : Nat) : CardRecord :=
  { releasedCard c held with balance := c.balance - amount, lastUse := some period }

/-- CAPTURE decided (R81, R85, R86, R94). -/
def decideCapture (req : LaneReq) (s : State) : State × Reply :=
  match s.admitShop .spend req with
  | .error d => (s, Reply.decline d)
  | .ok shop =>
    let ref := laneHoldRef req.body
    let amount := captureAmount req.body
    let badAmount := decide (amount = 0) || decide (Config.amountMax < amount)
    match s.resolveHold ref with
    | .active slot gen hold =>
      match s.readRecord hold.card (s.rangeProgram hold.card) with
      | (s1, none) => (s1, Reply.decline .recordFault)
      | (_, some card) =>
        if badAmount then (s, Reply.decline .badAmount)
        else if shop ≠ hold.shop then (s, Reply.decline .wrongShop)
        else if hold.amount < amount then (s, Reply.decline .badAmount)
        else
          match s.reserve .general 1 with
          | none => (s, Reply.decline .journalFull)
          | some s1 =>
            let prog := card.program.getD 0
            let rate := (s.program prog).rate
            let c := capturedCard card hold.amount amount s.ledger.period
            let record : CaptureRecord :=
              { ref := s.store.nextToWrite, card := hold.card, shop := hold.shop, program := prog, rate := rate,
                captured := amount, refunded := 0, period := s.ledger.period }
            (((((s1.endHold slot gen .captured).writeCard hold.card c).setTotals
                (s.store.totals.capture amount)).addWindow record).post
              (.capture hold.card c.seq ref hold.shop prog hold.amount amount rate)
              (some (.redeemed hold.shop amount rate)),
             { Reply.approve .approved amount c.available with
               holdRef := some ref, captureRef := some s.store.nextToWrite })
    | other => if badAmount then (s, Reply.decline .badAmount) else (s, Reply.decline (resolvedDecline other))

/-- CAPTURE taken by the Card Ledger. -/
def execCapture (s : State) : Out := .next (laneStep 0x14 decideCapture s)

/-- The card after an approved VOID (R88). -/
def voidedCard (c : CardRecord) (held period : Nat) : CardRecord :=
  { releasedCard c held with lastUse := some period }

/-- VOID decided (R81, R88). -/
def decideVoid (req : LaneReq) (s : State) : State × Reply :=
  match s.admitShop .giveBack req with
  | .error d => (s, Reply.decline d)
  | .ok shop =>
    let ref := laneHoldRef req.body
    match s.resolveHold ref with
    | .active slot gen hold =>
      match s.readRecord hold.card (s.rangeProgram hold.card) with
      | (s1, none) => (s1, Reply.decline .recordFault)
      | (_, some card) =>
        if shop ≠ hold.shop then (s, Reply.decline .wrongShop)
        else
          match s.reserve .general 1 with
          | none => (s, Reply.decline .journalFull)
          | some s1 =>
            let c := voidedCard card hold.amount s.ledger.period
            (((s1.endHold slot gen .voided).writeCard hold.card c).post
              (.void hold.card c.seq ref hold.shop hold.amount) none,
             { Reply.approve .approved hold.amount c.available with holdRef := some ref })
    | other => (s, Reply.decline (resolvedDecline other))

/-- VOID taken by the Card Ledger. -/
def execVoid (s : State) : Out := .next (laneStep 0x15 decideVoid s)

/-! ### Expiry -/

/-- HOLD_DEADLINE_REACHED: the compare moves the head hold, its deadline reached, to the tail of the waiting expiry requests
(R77). Posting goes on under PFW (R77, R198). -/
def execHoldDeadlineReached (s : State) : Out :=
  match s.expiryQ with
  | it :: rest =>
    if reached s.time it.deadline then .next { s with expiryQ := rest, waiting := s.waiting ++ [it] } else .next s
  | [] => .next s

/-- The oldest waiting expiry request resolved and committed (R78, R79). -/
def State.expire (s : State) (it : ExpiryItem) : State :=
  match s.resolveHold (holdRefOf it.slot it.gen) with
  | .active slot gen hold =>
    match s.reserve .general 1 with
    | none => s
    | some s1 =>
      match s1.readRecord hold.card (s1.rangeProgram hold.card) with
      | (s2, none) =>
        (s2.endHold slot gen .expired).post
          (.expire hold.card (holdRefOf slot gen) hold.shop hold.lane hold.terminal hold.rate hold.amount none) none
      | (_, some card) =>
        let c := releasedCard card hold.amount
        ((s1.endHold slot gen .expired).writeCard hold.card c).post
          (.expire hold.card (holdRefOf slot gen) hold.shop hold.lane hold.terminal hold.rate hold.amount
            (some c.seq)) none
  | _ => { s with waiting := s.waiting.tail }

/-- EXPIRY: the arbiter takes the oldest waiting expiry request; the rotation stays (R48, R78). -/
def execExpiry (s : State) : Out :=
  if s.pick = some .expiry then
    match s.waiting with
    | it :: _ => .next (s.expire it)
    | [] => .next s
  else .next s

end Sys2Proof.Machine
end

