-- ==== Sys2Proof/Machine/Links.lean ====
section
/-! DEFINITION. The Link Interface: receivers, queues, BUSY places, transmitters (chapter 1). -/

namespace Sys2Proof.Machine

/-! ### Receivers (R2, R5, R6, R7, R9) -/

/-- What stays of a lane queue when the lane enters DOWN: the TAKEN entry, and the entry whose answer is already being sent
(R7, log 34). -/
def keepOnDown : Bool → List LaneEntry → List LaneEntry
  | _, [] => []
  | sending, e :: es =>
    match e.stage with
    | .waiting => keepOnDown sending es
    | .taken => e :: keepOnDown sending es
    | .answered _ => if sending then e :: keepOnDown false es else keepOnDown false es

/-- A lane enters DOWN: what waits is removed and LANE_DOWN is raised by the caller (R7). -/
def Lane.enterDown (v : Lane) : Lane :=
  { v with
    rx := .down,
    consecutive := Config.downAt,
    queue := keepOnDown (decide (v.sending.map LaneSending.source = some LaneReady.answer)) v.queue,
    busyPlace := if v.sending.map LaneSending.source = some LaneReady.busy then v.busyPlace else none,
    ready := [] }

/-- A framing error on lane l: both error counts rise; DOWN on the 16th consecutive error, else the receiver goes to
`after` (R6, R7). -/
def State.laneError (s : State) (l : Nat) (after : RxState) : State :=
  let v := s.lane l
  let v1 := { v with framing := bump32 v.framing, consecutive := v.consecutive + 1 }
  if Config.downAt ≤ v1.consecutive then (s.setLane l v1.enterDown).raise .laneDown
  else s.setLane l { v1 with rx := after }

/-- A framing error on the office link (R6, R9). -/
def State.officeError (s : State) (after : RxState) : State :=
  { s with officeLink.framing := bump32 s.officeLink.framing, officeLink.rx := after }

/-- A framing error on the payout link (R6, R9). -/
def State.payError (s : State) (after : RxState) : State :=
  { s with payLink.framing := bump32 s.payLink.framing, payLink.rx := after }

/-- IDLE_GAP: a receiver in HUNT that sees the gap enters RUN (R5). Under PFW the receivers stay in their states (R19). -/
def execIdleGap (link : Nat) (s : State) : Out :=
  if s.pfw then .next s
  else if link ≤ 3 then
    if (s.lane link).rx = .hunt then .next (s.setLane link { s.lane link with rx := .run }) else .next s
  else if link = 4 then
    if s.officeLink.rx = .hunt then .next { s with officeLink.rx := .run } else .next s
  else if link = 5 then
    if s.payLink.rx = .hunt then .next { s with payLink.rx := .run } else .next s
  else .next s

/-- TRUNCATED_FRAME: a framing error; the gap that revealed it has passed, so the receiver is in RUN again at once unless its
lane enters DOWN (R2, R5, R6). A frame lost under PFW is not judged and changes no count (R18, R19). -/
def execTruncatedFrame (link : Nat) (s : State) : Out :=
  if s.pfw then .next s
  else if link ≤ 3 then
    if (s.lane link).rx = .run then .next (s.laneError link .run) else .next s
  else if link = 4 then
    if s.officeLink.rx = .run then .next (s.officeError .run) else .next s
  else if link = 5 then
    if s.payLink.rx = .run then .next (s.payError .run) else .next s
  else .next s

/-! ### Arrivals (R10, R12, R16, R17) -/

/-- The BUSY answer to a lane frame: address, tag and kind echoed, no optional field (R12, 12.2). -/
def laneBusyAnswer (kind : Byte) (body : List Byte) : LaneAnswer :=
  { terminal := laneTerminal body, tag := laneTag body, kind := kind, result := .busy, approved := none, available := none,
    holdRef := none, captureRef := none }

/-- An envelope-valid frame on a lane: counted, then queued, answered BUSY, or discarded for overflow (R6, R10, R12). -/
def Lane.arrive (v : Lane) (kind : Byte) (body : List Byte) : Lane :=
  let v1 := { v with taken := bump32 v.taken, consecutive := 0 }
  if v1.queue.length < Config.laneQueueMax then
    { v1 with queue := v1.queue ++ [{ kind := kind, body := body, stage := .waiting }] }
  else if v1.busyPlace.isNone then
    { v1 with busyPlace := some (laneBusyAnswer kind body), busyCount := bump32 v1.busyCount,
              ready := v1.ready ++ [.busy] }
  else { v1 with overflows := bump32 v1.overflows }

/-- LANE_FRAME_RECEIVED: judged in RUN (R2, R6); characters in HUNT and DOWN are not judged (R5, R7); a frame that ends under
PFW is dropped (R19). -/
def execLaneFrameReceived (lane : Nat) (chars : List RxChar) (s : State) : Out :=
  if s.pfw || decide (3 < lane) || decide ((s.lane lane).rx ≠ .run) then .next s
  else
    match judgeFrame 3 chars with
    | .incomplete => .next s
    | .error => .next (s.laneError lane .hunt)
    | .valid kind body => .next (s.setLane lane ((s.lane lane).arrive kind body))

/-- The BUSY answer to an office frame (R16). -/
def officeBusyAnswer (kind : Byte) (body : List Byte) : OfficeAnswer :=
  { tag := officeTag body, kind := kind, code := .busy, data := [] }

/-- An envelope-valid frame on the office link: queued, answered BUSY, or discarded for overflow (R6, R16). -/
def OfficeLink.arrive (v : OfficeLink) (kind : Byte) (body : List Byte) : OfficeLink :=
  let v1 := { v with taken := bump32 v.taken }
  if v1.queue.length < Config.frameQueueMax then { v1 with queue := v1.queue ++ [{ kind := kind, body := body }] }
  else if v1.busyPlace.isNone then
    { v1 with busyPlace := some (officeBusyAnswer kind body), busyCount := bump32 v1.busyCount,
              ready := v1.ready ++ [.busy] }
  else { v1 with overflows := bump32 v1.overflows }

/-- OFFICE_FRAME_RECEIVED (R2, R6, R16, R19); the Office Unit takes the request at once when it has none in flight (R16,
log 12). -/
def execOfficeFrameReceived (chars : List RxChar) (s : State) : Out :=
  if s.pfw || decide (s.officeLink.rx ≠ .run) then .next s
  else
    match judgeFrame 2 chars with
    | .incomplete => .next s
    | .error => .next (s.officeError .hunt)
    | .valid kind body => .next (State.officeSettle { s with officeLink := s.officeLink.arrive kind body })

/-- An envelope-valid frame on the payout link: unknown, queued, or an overrun (R4, R6, R17). -/
def PayLink.arrive (v : PayLink) (kind : Byte) (body : List Byte) : PayLink :=
  let v1 := { v with taken := bump32 v.taken }
  if bankWellFormed { kind := kind, body := body } then
    if v1.queue.length < Config.frameQueueMax then { v1 with queue := v1.queue ++ [{ kind := kind, body := body }] }
    else { v1 with overruns := bump32 v1.overruns }
  else { v1 with unknown := bump32 v1.unknown }

/-- BANK_FRAME_RECEIVED (R2, R4, R6, R17, R19). -/
def execBankFrameReceived (chars : List RxChar) (s : State) : Out :=
  if s.pfw || decide (s.payLink.rx ≠ .run) then .next s
  else
    match judgeFrame 0 chars with
    | .incomplete => .next s
    | .error => .next (s.payError .hunt)
    | .valid kind body => .next { s with payLink := s.payLink.arrive kind body }

/-! ### Transmitters (R11 to R15) -/

/-- The answer a ready producer of a lane offers (R13). -/
def Lane.readyAnswer (v : Lane) : LaneReady → Option LaneAnswer
  | .answer => firstAnswer v.queue
  | .busy => v.busyPlace

/-- A lane transmitter begins its next answer in order of readiness; it sends nothing while the lane is DOWN (R7, R13). -/
def Lane.begin (v : Lane) : Lane :=
  match v.sending, v.ready with
  | none, r :: rest =>
    if v.rx = .down then v
    else
      match v.readyAnswer r with
      | some a => { v with ready := rest, sending := some { source := r, bytes := laneAnswerFrame a } }
      | none => v
  | _, _ => v

/-- The office transmitter begins a waiting answer first, else ATTN, else STREAM (R14). -/
def OfficeLink.begin (v : OfficeLink) : OfficeLink :=
  match v.sending with
  | some _ => v
  | none =>
    match v.ready, v.answerPlace, v.busyPlace, v.attnPlace, v.streamPlace with
    | .answer :: rest, some a, _, _, _ =>
      { v with ready := rest, sending := some { source := .answer, bytes := officeAnswerFrame a } }
    | .busy :: rest, _, some a, _, _ =>
      { v with ready := rest, sending := some { source := .busy, bytes := officeAnswerFrame a } }
    | [], _, _, some n, _ => { v with sending := some { source := .attn, bytes := attnFrame n } }
    | [], _, _, none, some es => { v with sending := some { source := .stream, bytes := streamFrame es } }
    | _, _, _, _, _ => v

/-- The payout transmitter begins the frame in its place (R15). -/
def PayLink.begin (v : PayLink) : PayLink :=
  match v.sending, v.place with
  | none, some p => { v with sending := some (payFrameBytes p) }
  | _, _ => v

/-- TRANSMITTER_BEGINS_FRAME on a link (R13, R14, R15); none begins while PFW is asserted (R19). -/
def execTransmitterBeginsFrame (link : Nat) (s : State) : Out :=
  if s.pfw then .next s
  else if link ≤ 3 then .next (s.setLane link (s.lane link).begin)
  else if link = 4 then .next { s with officeLink := s.officeLink.begin }
  else if link = 5 then .next { s with payLink := s.payLink.begin }
  else .next s

/-- LANE_ANSWER_SENT: the last byte has left, so the ANSWERED entry leaves the queue or the BUSY place is emptied (R11,
R12). -/
def execLaneAnswerSent (lane : Nat) (s : State) : Out :=
  let v := s.lane lane
  match v.sending with
  | some { source := .answer, bytes := _ } =>
    .next (s.setLane lane { v with queue := dropAnswered v.queue, sending := none })
  | some { source := .busy, bytes := _ } => .next (s.setLane lane { v with busyPlace := none, sending := none })
  | none => .next s

/-- The frame being sent on the office link is the DONE answer to RESTART (R197). -/
def State.sendingRestartAnswer (s : State) : Bool :=
  match s.officeLink.sending, s.officeLink.answerPlace with
  | some { source := .answer, bytes := _ }, some a => a.kind == 0x47#8 && decide (a.code = .done)
  | _, _ => false

/-- OFFICE_FRAME_SENT: the last byte of an answer, ATTN or STREAM frame has left and its place is emptied (R14); an answer held
back is then handed over (R16). The last byte of RESTART's answer is RESTART_PERFORMED (R197, log 30). -/
def execOfficeFrameSent (s : State) : Out :=
  if s.sendingRestartAnswer then .next s
  else
    match s.officeLink.sending with
    | some { source := .answer, bytes := _ } =>
      .next (State.officeSettle { s with officeLink.answerPlace := none, officeLink.sending := none })
    | some { source := .busy, bytes := _ } =>
      .next { s with officeLink.busyPlace := none, officeLink.sending := none }
    | some { source := .attn, bytes := _ } =>
      .next { s with officeLink.attnPlace := none, officeLink.sending := none }
    | some { source := .stream, bytes := _ } =>
      .next { s with officeLink.streamPlace := none, officeLink.sending := none }
    | none => .next s

/-- PAY_FRAME_SENT: the payout transmitter's place is emptied (R15). -/
def execPayFrameSent (s : State) : Out :=
  match s.payLink.sending with
  | some _ => .next { s with payLink.place := none, payLink.sending := none }
  | none => .next s

/-- The slot's PAY has been handed to the transmitter (R162, R164). -/
def markSent : Slot → Slot
  | .filled p => .filled { p with sent := true }
  | other => other

/-- PAY_SEND: with the transmitter's place empty, the Payout Link Unit hands it the PAY at the head of its list and marks the
slot's PAY as sent (R15, R164); none while PFW is asserted. -/
def execPaySend (s : State) : Out :=
  match s.payLink.place, s.plu.payList with
  | none, k :: rest =>
    if s.pfw then .next s
    else
      match s.slot k with
      | .filled p =>
        .next (State.setSlot
          { s with
            payLink.place := some { tag := p.tag, shop := p.shop, period := p.period, amount := p.amount },
            plu.payList := rest } k (markSent (.filled p)))
      | _ => .next { s with plu.payList := rest }
  | _, _ => .next s

end Sys2Proof.Machine
end

