-- ==== Sys2Proof/Machine/Journal.lean ====
section
/-! DEFINITION. The Journal Unit's office requests and its stream (R183 to R186). -/

namespace Sys2Proof.Machine

/-- JOURNAL_READ: an entry at or above oldest unacknowledged and below next to write, else EMPTY (R184). -/
def serveJournalRead (b : List Byte) (s : State) : State :=
  let n := officeSequence b
  if s.oldest ≤ n ∧ n < s.nextWrite then
    match s.entry n with
    | some e => s.done (entryBytes e)
    | none => s.refuse .empty
  else s.refuse .empty

/-- JOURNAL_READ served by the Journal Unit. -/
def execJournalRead (s : State) : Out := .next (officeStep 0x5B serveJournalRead s)

/-- The three pointers, as JOURNAL_ACK and READ_STATUS return them (R183, R195). -/
def State.pointers (s : State) : List Byte :=
  pointerBytes s.oldest ++ pointerBytes s.journal.nextStream ++ pointerBytes s.nextWrite

/-- Every entry through v is acknowledged: oldest unacknowledged is v plus one, next to stream dragged up to it (R183);
JOURNAL_HIGH and JOURNAL_FULL re-armed below their marks (R181). -/
def State.acknowledge (s : State) (v : Nat) : State :=
  let s1 := { s with store.oldestUnack := v + 1, journal.nextStream := max s.journal.nextStream (v + 1) }
  { s1 with
    journal.highHeld := s.journal.highHeld && decide (Config.highMark ≤ s1.unack),
    journal.fullHeld := s.journal.fullHeld && decide (Config.generalLimit ≤ s1.unack + s.journal.reserved) }

/-- The sequence clamped to the last written (R183). -/
def State.ackValue (s : State) (n : Nat) : Nat := min n (s.nextWrite - 1)

/-- JOURNAL_ACK: clamped to the last written; below oldest unacknowledged it changes nothing; always DONE with the pointers
(R183). -/
def serveJournalAck (b : List Byte) (s : State) : State :=
  let v := s.ackValue (officeSequence b)
  let s1 := if s.oldest ≤ v then s.acknowledge v else s
  s1.done s1.pointers

/-- JOURNAL_ACK served by the Journal Unit. -/
def execJournalAck (s : State) : Out := .next (officeStep 0x5C serveJournalAck s)

/-- The streaming settings: enabled, unit, interval (R185). -/
def State.streamSettings (s : State) : List Byte :=
  flagByte s.journal.streamOn ++ bytesOf 1 s.journal.unit.code ++ bytesOf 2 s.journal.interval

/-- STREAM_SET: the three fields stored, an interval of 0 taken as 1, the interval count restarted; an unknown unit BAD_VALUE
(R185; log 18 for the flag). -/
def serveStreamSet (b : List Byte) (s : State) : State :=
  match flagOfCode (fieldAt b 2 1), StreamUnit.ofCode (fieldAt b 3 1) with
  | some on, some unit =>
    let s1 :=
      { s with journal.streamOn := on, journal.unit := unit, journal.interval := max 1 (fieldAt b 4 2),
               journal.streamCount := 0 }
    s1.done s1.streamSettings
  | _, _ => s.refuse .badValue

/-- STREAM_SET served by the Journal Unit. -/
def execStreamSet (s : State) : Out := .next (officeStep 0x5D serveStreamSet s)

/-- The written entries from next to stream on, up to n of them (R186). -/
def State.streamable (s : State) : Nat → Nat → List JournalEntry
  | 0, _ => []
  | n + 1, k =>
    match s.entry k with
    | some e => if k < s.nextWrite then e :: s.streamable n (k + 1) else []
    | none => []

/-- The entries that fit in what is left of a STREAM body (R186, 12.5). -/
def fitting : Nat → List JournalEntry → List JournalEntry
  | _, [] => []
  | room, e :: es => if (entryBytes e).length ≤ room then e :: fitting (room - (entryBytes e).length) es else []

/-- The entries of the next STREAM frame: up to 4, within 250 body bytes, one of them the count (R186, 12.2). -/
def State.streamEntries (s : State) : List JournalEntry := fitting 249 (s.streamable 4 s.journal.nextStream)

/-- STREAM_MARK: at an interval's mark one STREAM frame is formed if none waits or is being sent and entries remain; next to
stream advances past them (R186). A mark under PFW forms no frame. -/
def execStreamMark (s : State) : Out :=
  if s.journal.streamOn && decide (s.journal.interval ≤ s.journal.streamCount) then
    let s1 := { s with journal.streamCount := s.journal.streamCount - s.journal.interval }
    let es := s.streamEntries
    if s.pfw || s.officeLink.streamPlace.isSome || es.isEmpty || decide (s.nextWrite ≤ s.journal.nextStream) then .next s1
    else
      .next { s1 with officeLink.streamPlace := some es, journal.nextStream := s.journal.nextStream + es.length }
  else .next s

end Sys2Proof.Machine
end

