-- ==== Sys2Proof/Machine/Office.lean ====
section
/-! DEFINITION. The Office Unit's own requests (R8, R18, R187, R190, R195, R197) and the attention unit (R191 to R194). -/

namespace Sys2Proof.Machine

/-! ### Attention -/

/-- Source n is pending and not masked (R192). -/
def Attention.ready (a : Attention) (n : Nat) : Bool := a.pending.getLsbD n && !a.mask.getLsbD n

/-- The source a choice takes: the lowest-numbered, or the first after the rotating lowest source (R192). -/
def Attention.choose (a : Attention) : Option Nat :=
  match a.mode with
  | .fixed => firstFrom a.ready 8 0
  | .rotating => (firstFrom (fun i => a.ready (i % 8)) 8 (a.lowest + 1)).map (fun i => i % 8)
  | .automaticEnd => (firstFrom (fun i => a.ready (i % 8)) 8 (a.lowest + 1)).map (fun i => i % 8)

/-- The service of the source in service ends and it becomes the rotating lowest source (R193). -/
def Attention.endService (a : Attention) : Attention :=
  match a.inService with
  | some n => { a with inService := none, lowest := n }
  | none => a

/-- The chosen source: pending cleared, in service; in AUTOMATIC_END its service ends at once (R192). -/
def Attention.take (a : Attention) (n : Nat) : Attention :=
  let t := { a with pending := a.pending &&& ~~~(sourceBit n), inService := some n }
  if a.mode = .automaticEnd then t.endService else t

/-- ATTN_CHOICE: with no source in service, the ATTN place empty and PFW not asserted, a pending unmasked source is chosen and
its frame placed (R192). -/
def execAttnChoice (s : State) : Out :=
  if s.pfw || s.attn.inService.isSome || s.officeLink.attnPlace.isSome then .next s
  else
    match s.attn.choose with
    | some n => .next { s with attn := s.attn.take n, officeLink.attnPlace := some n }
    | none => .next s

/-- Pending, mask and in-service state (R193, R194). DESIGN CHOICE (log 23): the eight pending flags stand in one byte and the eight
mask flags in one byte, bit n for source n, as ATTN_MASK's own field does; a free value when no source is in service. -/
def Attention.bytes (a : Attention) : List Byte := [a.pending, a.mask] ++ optBytes 1 Config.noSource a.inService

/-- Those and the mode (R194). -/
def Attention.bytesMode (a : Attention) : List Byte := a.bytes ++ bytesOf 1 a.mode.code

/-- ATTN_MASK: all eight mask flags replaced, bit n for source n (R194, 12.2). -/
def serveAttnMask (b : List Byte) (s : State) : State :=
  let a := { s.attn with mask := BitVec.ofNat 8 (officeByte b) }
  State.done { s with attn := a } a.bytesMode

/-- ATTN_MASK served by the Office Unit. -/
def execAttnMask (s : State) : Out := .next (officeStep 0x5E serveAttnMask s)

/-- ATTN_END: specific, or FF for the non-specific form; above 7 BAD_VALUE; WRONG_STATE when there is no such service (R193,
12.2). -/
def serveAttnEnd (b : List Byte) (s : State) : State :=
  let n := officeByte b
  if n ≠ 0xFF ∧ 7 < n then s.refuse .badValue
  else
    match s.attn.inService with
    | none => s.refuse .wrongState
    | some m =>
      if n = 0xFF ∨ n = m then State.done { s with attn := s.attn.endService } s.attn.endService.bytes
      else s.refuse .wrongState

/-- ATTN_END served by the Office Unit. -/
def execAttnEnd (s : State) : Out := .next (officeStep 0x5F serveAttnEnd s)

/-- The mode set; AUTOMATIC_END ends the service of a source in service at once (R194). -/
def Attention.setMode (a : Attention) (m : AttnModeName) : Attention :=
  let t := { a with mode := m }
  if m = .automaticEnd then t.endService else t

/-- ATTN_MODE: an unknown mode is refused BAD_VALUE (R194). -/
def serveAttnMode (b : List Byte) (s : State) : State :=
  match AttnModeName.ofCode (officeByte b) with
  | none => s.refuse .badValue
  | some m => State.done { s with attn := s.attn.setMode m } (s.attn.setMode m).bytesMode

/-- ATTN_MODE served by the Office Unit. -/
def execAttnMode (s : State) : Out := .next (officeStep 0x60 serveAttnMode s)

/-! ### Lanes -/

/-- LANE_UP: the receiver of lane 0 to 3 enters HUNT with consecutive-error count 0; any other link BAD_VALUE (R8). -/
def serveLaneUp (b : List Byte) (s : State) : State :=
  let l := officeByte b
  if 3 < l then s.refuse .badValue
  else (s.setLane l { s.lane l with rx := .hunt, consecutive := 0 }).done []

/-- LANE_UP served by the Office Unit. -/
def execLaneUp (s : State) : Out := .next (officeStep 0x61 serveLaneUp s)

/-- Entries of a lane queue in a stage. -/
def countStage (p : Stage → Bool) (q : List LaneEntry) : Nat := (q.filter (fun e => p e.stage)).length

/-- LANE_STATUS of a lane (R18). DESIGN CHOICE (log 23): the count of consecutive errors, 0 to 16, takes 1 byte. -/
def laneStatusBytes (v : Lane) : List Byte :=
  bytesOf 1 v.rx.code ++ bytesOf 4 v.taken ++ bytesOf 4 v.framing ++ bytesOf 1 v.consecutive ++ bytesOf 4 v.busyCount
    ++ bytesOf 4 v.overflows ++ bytesOf 1 v.queue.length
    ++ bytesOf 1 (countStage (fun g => decide (g = .waiting)) v.queue)
    ++ bytesOf 1 (countStage (fun g => decide (g = .taken)) v.queue)
    ++ bytesOf 1 (countStage (fun g => match g with
        | .answered _ => true
        | _ => false) v.queue)

/-- LANE_STATUS of the office link (R18). -/
def officeStatusBytes (v : OfficeLink) : List Byte :=
  bytesOf 1 v.rx.code ++ bytesOf 4 v.taken ++ bytesOf 4 v.framing ++ bytesOf 4 v.busyCount ++ bytesOf 4 v.overflows
    ++ bytesOf 1 v.queue.length

/-- The time left to a deadline: 0 at the deadline, a free value once it has passed (R166, log 24). -/
def timeLeft (now deadline : Word) : Nat :=
  if reached now deadline && decide (now ≠ deadline) then Config.overdueTimeLeft (now - deadline) else (deadline - now).toNat

/-- One slot as LANE_STATUS reports it: a slot that is not FILLED reports zeros after its state (R166, 12.2). -/
def slotBytes (now : Word) : Slot → List Byte
  | .free => bytesOf 1 0 ++ List.replicate 19 0
  | .granted _ => bytesOf 1 1 ++ List.replicate 19 0
  | .filled p =>
    bytesOf 1 2 ++ bytesOf 2 p.tag ++ bytesOf 2 p.shop ++ bytesOf 2 p.period ++ bytesOf 8 p.amount
      ++ bytesOf 4 (timeLeft now p.deadline) ++ flagByte p.sent

/-- The slot is GRANTED. -/
def Slot.isGranted : Slot → Bool
  | .granted _ => true
  | _ => false

/-- The slot is FILLED. -/
def Slot.isFilled : Slot → Bool
  | .filled _ => true
  | _ => false

/-- LANE_STATUS of the payout link: counters, late and stray counts, next tag, slot counts, eight slots of the page (R18, R166,
12.2). DESIGN CHOICE: the eight slots are a fixed group, without the count byte of a list (R200, log 23); over a blank store the next
tag is the one the store still holds, 1 in a store never formatted (log 8) and the old one after a FORMAT that the warning or a
reset stopped (log 29). -/
def payStatusBytes (s : State) (page : Nat) : List Byte :=
  bytesOf 1 s.payLink.rx.code ++ bytesOf 4 s.payLink.taken ++ bytesOf 4 s.payLink.framing ++ bytesOf 4 s.payLink.unknown
    ++ bytesOf 4 s.payLink.overruns ++ bytesOf 1 s.payLink.queue.length ++ bytesOf 4 s.plu.late ++ bytesOf 4 s.plu.stray
    ++ bytesOf 2 s.store.nextTag
    ++ bytesOf 1 (countBelow (fun k => decide (s.slot k = .free)) Config.payoutSlots)
    ++ bytesOf 1 (countBelow (fun k => (s.slot k).isGranted) Config.payoutSlots)
    ++ bytesOf 1 (countBelow (fun k => (s.slot k).isFilled) Config.payoutSlots)
    ++ [0, 1, 2, 3, 4, 5, 6, 7].flatMap (fun i => slotBytes s.time (s.slot (8 * page + i)))

/-- LANE_STATUS: links 0 to 5; page 0, and page 1 for link 5 alone; all else BAD_VALUE (R187). -/
def serveLaneStatus (b : List Byte) (s : State) : State :=
  let l := officeByte b
  let page := officeByte2 b
  if 5 < l ∨ 1 < page ∨ (page = 1 ∧ l ≠ 5) then s.refuse .badValue
  else if l ≤ 3 then s.done (laneStatusBytes (s.lane l))
  else if l = 4 then s.done (officeStatusBytes s.officeLink)
  else s.done (payStatusBytes s page)

/-- LANE_STATUS served by the Office Unit. -/
def execLaneStatus (s : State) : Out := .next (officeStep 0x62 serveLaneStatus s)

/-! ### Status, snapshot, RESTART -/

/-- What READ_STATUS returns, in R195's order. DESIGN CHOICE (log 23): the reserved count takes 2 bytes. -/
def statusBytes (s : State) : List Byte :=
  bytesOf 1 s.ledger.mode.code ++ bytesOf 2 s.ledger.period ++ bytesOf 3 s.cap ++ flagByte s.store.signature
    ++ bytesOf 2 s.settle.unrolled ++ bytesOf 2 s.settle.openPayouts
    ++ s.pointers ++ bytesOf 2 s.journal.reserved ++ s.streamSettings
    ++ bytesOf 1 s.ledger.faults.length ++ s.ledger.faults.flatMap (bytesOf 3) ++ flagByte s.ledger.faultOverflow
    ++ s.attn.bytesMode ++ bytesOf 1 s.attn.lowest ++ bytesOf 1 s.office.resetCause.code

/-- READ_STATUS (R195). -/
def serveReadStatus (_ : List Byte) (s : State) : State := s.done (statusBytes s)

/-- READ_STATUS served by the Office Unit. -/
def execReadStatus (s : State) : Out := .next (officeStep 0x46 serveReadStatus s)

/-- READ_SNAP: the copy with DONE, and the latch empty; EMPTY with the latch empty (R190, R200). -/
def serveReadSnap (_ : List Byte) (s : State) : State :=
  match s.office.latch with
  | none => s.refuse .empty
  | some c =>
    State.done { s with office.latch := none }
      (bytesOf 2 c.shop ++ shopBytes c.record ++ bytesOf 2 c.period ++ bytesOf 4 c.time.toNat)

/-- READ_SNAP served by the Office Unit. -/
def execReadSnap (s : State) : Out := .next (officeStep 0x45 serveReadSnap s)

/-- RESTART: DONE at once, and no further office request is taken (R197). -/
def serveRestart (_ : List Byte) (s : State) : State := State.done { s with office.restartTaken := true } []

/-- RESTART taken by the Office Unit. -/
def execRestart (s : State) : Out := .next (officeStep 0x47 serveRestart s)

/-- OFFICE_BAD_REQUEST: a request that is not well-formed is refused BAD_REQUEST at once (R4, R187). -/
def execOfficeBadRequest (s : State) : Out :=
  match s.officeRequest with
  | some f => if officeWellFormed f then .next s else .next (s.refuse .badRequest)
  | none => .next s

end Sys2Proof.Machine
end

