-- ==== Sys2Proof/Machine/Roll.lean ====
section
/-! DEFINITION. The Settlement Unit's shared parts: the roll (R118 to R127), applying an accrual (R114, R115, R117), the order
of service (R137). -/

namespace Sys2Proof.Machine

/-! ### The roll -/

/-- The open bank of shop k belongs to a period before the Settlement Unit's current period (R118, R135). -/
def State.behind (s : State) (k : Nat) : Bool := decide ((s.shop k).bank.period < s.settle.period)

/-- The house range contains shop k: start inclusive, stop exclusive (R32). -/
def HouseRange.has (h : HouseRange) (k : Nat) : Bool := decide (h.start ≤ k) && decide (k < h.stop)

/-- The amount folded into the carry: that of a closing bank still OWED (R119). -/
def foldedOf (c : ClosingBank) : Nat := if c.state = .owed then c.amount else 0

/-- The missed-payout count after the fold, stopping at 65,535 (R119). -/
def missedAfter (missed : Nat) (c : ClosingBank) : Nat := if c.state = .owed then min 65535 (missed + 1) else missed

/-- The commission K: T divided by 10,000, rounded toward minus infinity (R120). -/
def commissionOf (t : Int) : Int := t.fdiv 10000

/-- The new remainder q1 = T − 10,000 × K (R120). -/
def remainderOf (t : Int) : Int := t - 10000 * commissionOf t

/-- The net of a roll: N = C0 + G − F + X − S − K, C0 after the fold (R121). -/
def netOf (b : OpenBank) (c0 k : Int) : Int := c0 + b.g - b.f + b.x - b.s - k

/-- Closing state, amount and carry C1 by the first case that applies (R122). -/
def disposition (house : Bool) (office : OfficeState) (payoutMin : Nat) (n : Int) : ClosingState × Nat × Int :=
  if house then (.house, 0, 0)
  else if office = .frozen then (.carried, 0, n)
  else if 0 < n ∧ ((payoutMin : Int) ≤ n ∨ office = .departed) then (.owed, n.toNat, 0)
  else (.carried, 0, n)

/-- What one roll comes to: the shop record written, the fields of its ROLL entry, and whether the carry was clamped. -/
structure Rolled where
  shop : ShopRecord
  entry : RollFields
  clamped : Bool
  deriving DecidableEq, Repr

/-- The stages of R119 to R124 on values read once, and the record and entry of R125. `now` is the unit's current period. -/
def rollOf (k : Nat) (r : ShopRecord) (house : Bool) (payoutMin now : Nat) : Rolled :=
  let folded := foldedOf r.closing
  let t := r.bank.q + r.remainder
  let c := commissionOf t
  let q1 := (remainderOf t).toNat
  let n := netOf r.bank (r.carry + folded) c
  let d := disposition house r.office payoutMin n
  let sc := satCarry d.2.2
  let bar := decide (sc.1 < -(r.debtLimit : Int))
  let missed := missedAfter r.missed r.closing
  { shop :=
      { office := if sc.2 then .frozen else r.office, debtLimit := r.debtLimit, debtBar := bar, sat := r.sat || sc.2,
        bank := { period := now, g := 0, f := 0, s := 0, x := 0, q := 0 },
        remainder := q1, carry := sc.1, missed := missed,
        closing := { period := r.bank.period, net := n, commission := c, state := d.1, amount := d.2.1, tag := none } },
    entry :=
      { shop := k, period := r.bank.period, g := r.bank.g, f := r.bank.f, s := r.bank.s, x := r.bank.x, q := r.bank.q,
        q0 := r.remainder, q1 := q1, carryBefore := r.carry, folded := folded, commission := c, net := n, state := d.1,
        amount := d.2.1, carryAfter := sc.1, clamped := d.2.2 - sc.1, office := r.office, debtLimit := r.debtLimit,
        debtBar := bar, sat := r.sat || sc.2, missed := missed },
    clamped := sc.2 }

/-- The house record after a roll: K to the commission total and, for a house shop, N to the house net; whether a field
stopped at its end (R111, R125, R127). -/
def HouseRecord.afterRoll (h : HouseRecord) (house : Bool) (commission net : Int) : HouseRecord × Bool :=
  let c := satHouseInt h.commission commission
  let n := if house then satHouseInt h.net net else (h.net, false)
  ({ h with commission := c.1, net := n.1, sat := h.sat || (c.2 || n.2) }, c.2 || n.2)

/-- The roll of shop k as read from the state (R118). -/
def State.rollFor (s : State) (k : Nat) : Rolled :=
  rollOf k (s.shop k) (s.store.house.has k) s.store.settings.payoutMin s.settle.period

/-- A roll committed under a reservation: shop record and house record written, the ROLL entry appended, the unrolled count
down by one, SETTLE_FAULT on saturation (R111, R124, R125). -/
def State.commitRoll (s : State) (k : Nat) : State :=
  let r := s.rollFor k
  let h := s.store.houseRec.afterRoll (s.store.house.has k) r.entry.commission r.entry.net
  (({ s.setShop k r.shop with store.houseRec := h.1, settle.unrolled := s.settle.unrolled - 1 }).append
    s.settle.period (.roll r.entry)).raiseIf (r.clamped || h.2) .settleFault

/-- A toucher's roll: a shop that is behind is rolled under one general reservation, none when it is not granted; a shop that
is current stays (R118, R136). -/
def State.rollIfBehind (s : State) (k : Nat) : Option State :=
  if s.behind k then (s.reserve .general 1).map (fun s1 => s1.commitRoll k) else some s

/-! ### Applying an accrual -/

/-- The shop an effect names; UNCLAIMED names none (R113). -/
def Effect.shop : Effect → Option Nat
  | .sold k _ => some k
  | .redeemed k _ _ => some k
  | .refunded k _ _ => some k
  | .cashed k _ => some k
  | .unclaimed _ => none

/-- The entry is a CLOSE (R113). -/
def Accrual.isClose : Accrual → Bool
  | .close _ => true
  | .money .. => false

/-- The open bank after an effect, and whether an accumulator saturated; Q is exempt (R115, R116, R117). -/
def OpenBank.accrue (b : OpenBank) : Effect → OpenBank × Bool
  | .sold _ a => ({ b with s := (satBank b.s a).1 }, (satBank b.s a).2)
  | .redeemed _ a rate => ({ b with g := (satBank b.g a).1, q := b.q + (a * rate : Nat) }, (satBank b.g a).2)
  | .refunded _ a rate => ({ b with f := (satBank b.f a).1, q := b.q - (a * rate : Nat) }, (satBank b.f a).2)
  | .cashed _ a => ({ b with x := (satBank b.x a).1 }, (satBank b.x a).2)
  | .unclaimed _ => (b, false)

/-- The shop record after an effect: on saturation the saturation flag is set and the shop FROZEN (R115, R117). -/
def ShopRecord.accrue (r : ShopRecord) (e : Effect) : ShopRecord × Bool :=
  let b := r.bank.accrue e
  if b.2 then ({ r with bank := b.1, sat := true, office := .frozen }, true) else ({ r with bank := b.1 }, false)

/-- One accrual applied: the shop's open bank or the house unclaimed, with the accrual mark, in one store write; SETTLE_FAULT
on saturation (R111, R114, R117). The shop is current. -/
def State.applyEffect (s : State) (e : Effect) (source : Nat) : State :=
  match e with
  | .unclaimed amount =>
    let u := satHouseNat s.store.houseRec.unclaimed amount
    State.raiseIf
      { s with store.houseRec := { s.store.houseRec with unclaimed := u.1, mark := source, sat := s.store.houseRec.sat || u.2 } }
      u.2 .settleFault
  | e =>
    match e.shop with
    | none => s
    | some k =>
      let r := (s.shop k).accrue e
      State.raiseIf { s.setShop k r.1 with store.houseRec := { s.store.houseRec with mark := source } } r.2 .settleFault

/-- The effect needs its shop rolled first (R114). -/
def State.effectBehind (s : State) (e : Effect) : Bool :=
  match e.shop with
  | some k => s.behind k
  | none => false

/-- The shop of an effect rolled if it is behind; none without a reservation (R114, R136). -/
def State.rollForEffect (s : State) (e : Effect) : Option State :=
  match e.shop with
  | some k => s.rollIfBehind k
  | none => some s

/-! ### The order of service (R137) -/

/-- The Settlement Unit's pieces of work. -/
inductive Work where
  | accrual
  | answer
  | visit
  | request
  | sweep
  deriving DecidableEq, Repr

/-- The slot that is FILLED with a tag (R167). -/
def State.slotOfTag (s : State) (tag : Nat) : Option Nat :=
  firstFrom (fun k => match s.slot k with
    | .filled p => decide (p.tag = tag)
    | _ => false) Config.payoutSlots 0

/-- How a payout answer matches (R167). -/
inductive Matched where
  | inWindow (slot : Nat)
  | late
  | stray
  deriving DecidableEq, Repr

/-- An answer matched against the window and the shop record as they stand (R167); with a blank store it finds no EMITTED or
IN_DOUBT shop and is stray (R165). -/
def State.matchAnswer (s : State) (tag shop period : Nat) : Matched :=
  if s.store.signature = false then .stray
  else
    match s.slotOfTag tag with
    | some k =>
      match s.slot k with
      | .filled p => if p.shop = shop ∧ p.period = period then .inWindow k else .stray
      | _ => .stray
    | none =>
      let c := (s.shop shop).closing
      if c.state = .inDoubt ∧ c.period = period ∧ c.tag = some tag then .late else .stray

/-- The slot is FILLED and holds the tag (R170). -/
def State.holdsTag (s : State) (slot tag : Nat) : Bool :=
  match s.slot slot with
  | .filled p => decide (p.tag = tag)
  | _ => false

/-- The head of the accrual queue can proceed: a CLOSE always; an effect unless it waits for a roll reservation (R136, R137). -/
def State.accrualReady (s : State) : Bool :=
  match s.settle.accruals with
  | [] => false
  | .close _ :: _ => true
  | .money e _ _ :: _ => !s.effectBehind e || s.canReserve .general 1

/-- The head of the class 2 work can proceed: one that commits needs a whole-ring reservation (R167, R170). -/
def State.answerReady (s : State) : Bool :=
  match s.settle.answers with
  | [] => false
  | .done tag shop period :: _ => decide (s.matchAnswer tag shop period = .stray) || s.canReserve .whole 1
  | .back tag shop period _ :: _ => decide (s.matchAnswer tag shop period = .stray) || s.canReserve .whole 1
  | .deadline slot tag :: _ => !s.holdsTag slot tag || s.canReserve .whole 1

/-- An office shop request waits: SET_SHOP, READ_SHOP, RESOLVE, READ_HOUSE, and SNAP_SHOP once the latch check has passed (R137,
R187, R189). -/
def State.requestWaits (s : State) : Bool :=
  match s.officeRequest with
  | some f =>
    officeWellFormed f &&
      ([0x44, 0x50, 0x52, 0x53].contains f.kind.toNat || (decide (f.kind.toNat = 0x51) && s.office.latch.isNone))
  | none => false

/-- The roll sweep is eligible: shops are behind and a reservation can be granted (R137). -/
def State.sweepEligible (s : State) : Bool := decide (0 < s.settle.unrolled) && s.canReserve .general 1

/-- Class 3: channel visits and office shop requests rotate; a class with nothing waiting is passed over (R137). -/
def State.classThree (s : State) : Option Work :=
  match s.settle.visits, s.requestWaits with
  | [], false => none
  | [], true => some .request
  | _ :: _, false => some .visit
  | _ :: _, true => if s.settle.visitsHigher then some .visit else some .request

/-- The Settlement Unit's next piece of work (R137): none while PFW is asserted (R198) and during recovery (R141). -/
def State.nextWork (s : State) : Option Work :=
  if s.pfw || decide (s.ledger.mode = .recovering) then none
  else if decide (8 ≤ s.settle.wait) && s.sweepEligible then some .sweep
  else if s.accrualReady then some .accrual
  else if s.answerReady then some .answer
  else
    match s.classThree with
    | some w => some w
    | none => if s.sweepEligible then some .sweep else none

/-- A piece of work of classes 1 to 3 is taken: the sweep wait count rises by one, up to 8, while the sweep is eligible
(R137). -/
def State.noteWork (s : State) : State :=
  if s.sweepEligible then { s with settle.wait := min 8 (s.settle.wait + 1) } else s

end Sys2Proof.Machine
end

