-- ==== Sys2Proof/Machine/Slots.lean ====
section
/-! DEFINITION. The Payout Controller: channel states, slot requests and grants (R144 to R152, R157, R158, R160, R161). -/

namespace Sys2Proof.Machine

/-! ### Slot requests and grants -/

/-- The lowest-numbered free slot of the payout window (R152). -/
def State.freeSlot (s : State) : Option Nat := firstFrom (fun k => decide (s.slot k = .free)) Config.payoutSlots 0

/-- Channel c has a slot request posted and no slot granted (R146, R151). -/
def State.waitsSlot (s : State) (c : Nat) : Bool := decide ((s.channel c).st = .waitSlot)

/-- The waiting channel the slot priority chooses: the lowest, or the first after the last granted channel (R152). -/
def State.chooseChannel (s : State) : Option Nat :=
  match s.store.settings.priority with
  | .fixed => firstFrom s.waitsSlot 4 0
  | .rotating => (firstFrom (fun i => s.waitsSlot (i % 4)) 4 (s.plu.lastGranted + 1)).map (fun i => i % 4)

/-- Slot k granted to channel c: RUNNING, and its visit joins the class 3 work (R151, R152, R153). -/
def State.grantTo (s : State) (k c : Nat) : State :=
  let v := s.channel c
  let s1 := (s.setSlot k (.granted c)).setChannel c { v with st := .running, slot := some k }
  { s1 with plu.lastGranted := c, settle.visits := s1.settle.visits ++ [{ channel := c, shop := v.cur, slot := k }] }

/-- One grant when a slot is free and an eligible request waits; a request is eligible only while two general reservations could
be granted, and none while PFW is asserted (R151, R152, R161). -/
def State.grantOnce (s : State) : Option State :=
  if s.canReserve .general 2 then
    match s.freeSlot, s.chooseChannel with
    | some k, some c => some (s.grantTo k c)
    | _, _ => none
  else none

/-- At most n grants, each when R152 allows it. -/
def State.grantUpTo : Nat → State → State
  | 0, s => s
  | n + 1, s =>
    match s.grantOnce with
    | some s1 => State.grantUpTo n s1
    | none => s

/-- Every grant that can be made at once: at most one for each of the four channels (R152, log 26). -/
def State.grantSlots (s : State) : State := State.grantUpTo 4 s

/-- SLOT_GRANT: the slot arbiter makes a grant whenever a slot is free and an eligible request waits (R152). -/
def execSlotGrant (s : State) : Out :=
  match s.grantOnce with
  | some s1 => .next s1
  | none => .next s

/-! ### Channel states -/

/-- A channel loaded from a stored setup, its mode and position together (R145). -/
def Channel.load (v : Channel) (u : ChannelSetup) : Channel :=
  { v with cur := u.baseShop, remaining := u.baseCount, dir := u.dir, mode := u.mode, auto := u.auto }

/-- A channel that goes to its walking state: a posted request stands in WAIT_SLOT until it is granted (R146, R151). -/
def Channel.walk (v : Channel) : Channel :=
  match v.mode with
  | .block => { v with st := .waitSlot }
  | .single => { v with st := .waitStep }
  | .demand => if 0 < v.credit then { v with st := .waitSlot } else { v with st := .waitPull }

/-- A slot request outstanding: WAIT_SLOT or RUNNING (R146). -/
def Channel.outstanding (v : Channel) : Bool := decide (v.st = .waitSlot) || decide (v.st = .running)

/-- The advance notice at one channel: it acts only if the mask is clear and the working auto-init set (R157). -/
def Channel.advanceNotice (v : Channel) : Channel :=
  if v.mask || !v.auto then v
  else
    match v.st with
    | .waitClose => v.walk
    | .running => { v with passPending := true }
    | .waitSlot => { v with passPending := true }
    | .waitStep => { v with passPending := true }
    | .waitPull => { v with passPending := true }
    | .idle => v
    | .done => v

/-- The advance notice reaches each channel; the requests posted are then granted (R157, log 27). -/
def State.advanceNotice (s : State) : State :=
  ([0, 1, 2, 3].foldl (fun t c => t.setChannel c (t.channel c).advanceNotice) s).grantSlots

/-! ### Office requests on a channel (R144, R147 to R150, R160, R161) -/

/-- The setup clamped: base shop and count to 0 to 511, the count again so that the pass stays within the shops (R144). -/
def ChannelSetup.clamp (u : ChannelSetup) : ChannelSetup :=
  let base := clampTo 0 511 u.baseShop
  let most := match u.dir with
    | .ascending => 511 - base
    | .descending => base
  { u with baseShop := base, baseCount := min most (clampTo 0 511 u.baseCount) }

/-- SET_CHANNEL: the stored setup replaced whole after clamping; with a blank store WRONG_STATE (R144). -/
def serveSetChannel (b : List Byte) (s : State) : State :=
  if s.store.signature = false then s.refuse .wrongState
  else if 3 < officeByte b then s.refuse .badValue
  else
    match setupOfBody b with
    | none => s.refuse .badValue
    | some u =>
      State.done { s with store.setups := Table.write ChannelSetup.initial s.store.setups (officeByte b) u.clamp }
        (setupBytes u.clamp)

/-- ARM, STEP and MASK: WRONG_STATE while RECOVERING (R161), BAD_VALUE for a channel above 3 (8.4; log 16 for the order). -/
def onChannel (serve : Nat → State → State) (b : List Byte) (s : State) : State :=
  if s.ledger.mode = .recovering then s.refuse .wrongState
  else if 3 < officeByte b then s.refuse .badValue
  else serve (officeByte b) s

/-- ARM_CHANNEL: refused with a request outstanding; else the channel is loaded, its flags and mask cleared, and it walks
(R147). -/
def serveArm (c : Nat) (s : State) : State :=
  let v := s.channel c
  if v.outstanding then s.refuse .wrongState
  else
    ((s.setChannel c
      { v.load (s.setup c) with tc := false, passPending := false, mask := false, maskPending := false }.walk).grantSlots).done []

/-- STEP_CHANNEL: taken in WAIT_STEP, it posts a slot request (R148). -/
def serveStep (c : Nat) (s : State) : State :=
  let v := s.channel c
  if v.st = .waitStep then ((s.setChannel c { v with st := .waitSlot }).grantSlots).done [] else s.refuse .wrongState

/-- The channel after MASK (R149). -/
def Channel.masked (v : Channel) : Channel :=
  match v.st with
  | .idle => v
  | .done => v
  | .waitClose => { v with st := .idle, mask := true }
  | .waitStep => { v with st := .idle, mask := true }
  | .waitPull => { v with st := .idle, mask := true }
  | .waitSlot => { v with st := .idle, mask := true }
  | .running => { v with mask := true, maskPending := true }

/-- MASK_CHANNEL with MASK (R149). -/
def serveMask (c : Nat) (s : State) : State := (s.setChannel c (s.channel c).masked).done []

/-- MASK_CHANNEL with UNMASK (R150). -/
def serveUnmask (c : Nat) (s : State) : State :=
  let v := s.channel c
  match v.st with
  | .idle => ((s.setChannel c { v with mask := false }.walk).grantSlots).done []
  | .running => (s.setChannel c { v with mask := if v.maskPending then false else v.mask, maskPending := false }).done []
  | .done => s.refuse .wrongState
  | .waitClose => s.done []
  | .waitSlot => s.done []
  | .waitStep => s.done []
  | .waitPull => s.done []

/-- MASK_CHANNEL of one action; an action that is neither is refused BAD_VALUE by either row (R149, log 17). -/
def onAction (action : Nat) (serve : Nat → State → State) (s : State) : State :=
  match s.officeBody 0x58 with
  | none => s
  | some b =>
    if officeByte2 b = action then onChannel serve b s
    else if 1 < officeByte2 b then onChannel (fun _ s => s.refuse .badValue) b s
    else s

/-- A granted slot's number in 1 byte (DESIGN CHOICE), a free value when there is none (R160, log 23). -/
def slotByte (k : Option Nat) : List Byte := optBytes 1 Config.noSlot k

/-- What CHANNEL_STATUS returns, in R160's order. DESIGN CHOICE (log 23): 12.1 lists no width for the remaining count, sent in 2 bytes
as the base count of SET_CHANNEL is, nor for the granted slot's number, sent in 1 byte. -/
def channelStatusBytes (u : ChannelSetup) (v : Channel) : List Byte :=
  setupBytes u ++ bytesOf 1 v.st.code ++ flagByte v.mask ++ flagByte v.maskPending ++ bytesOf 2 v.cur
    ++ bytesOf 2 v.remaining ++ bytesOf 1 v.dir.code ++ bytesOf 1 v.mode.code ++ flagByte v.auto ++ flagByte v.tc
    ++ flagByte v.passPending ++ bytesOf 1 v.credit ++ flagByte v.outstanding ++ slotByte v.slot ++ bytesOf 4 v.visits
    ++ bytesOf 4 v.emitted

/-- CHANNEL_STATUS: the TC flag is returned as it stood and cleared (R160). -/
def serveChannelStatus (b : List Byte) (s : State) : State :=
  let c := officeByte b
  if 3 < c then s.refuse .badValue
  else
    let v := s.channel c
    (s.setChannel c { v with tc := false }).done (channelStatusBytes (s.setup c) v)

/-- SET_CHANNEL served by the Payout Controller. -/
def execSetChannel (s : State) : Out := .next (officeStep 0x54 serveSetChannel s)

/-- ARM_CHANNEL served by the Payout Controller. -/
def execArmChannel (s : State) : Out := .next (officeStep 0x55 (onChannel serveArm) s)

/-- STEP_CHANNEL served by the Payout Controller. -/
def execStepChannel (s : State) : Out := .next (officeStep 0x56 (onChannel serveStep) s)

/-- MASK_CHANNEL with MASK served by the Payout Controller. -/
def execMaskChannelMask (s : State) : Out := .next (onAction 0 serveMask s)

/-- MASK_CHANNEL with UNMASK served by the Payout Controller. -/
def execMaskChannelUnmask (s : State) : Out := .next (onAction 1 serveUnmask s)

/-- CHANNEL_STATUS served by the Payout Controller. -/
def execChannelStatus (s : State) : Out := .next (officeStep 0x57 serveChannelStatus s)

end Sys2Proof.Machine
end

