-- ==== Sys2Proof/Machine/Settlement.lean ====
section
/-! DEFINITION. The Settlement Unit's work on accruals, the close and the sweep (R114, R132, R133, R138) and the office shop
requests (R37, R112, R139, R140, R173, R188). -/

namespace Sys2Proof.Machine

/-! ### The accrual queue -/

/-- The head entry has left the accrual queue (R113). -/
def State.dropAccrual (s : State) : State := { s with settle.accruals := s.settle.accruals.tail }

/-- ACCRUAL_APPLY: the head accrual is taken, its shop rolled if behind, and it is applied with the accrual mark (R114,
R136, R137). -/
def execAccrualApply (s : State) : Out :=
  if s.nextWork = some .accrual then
    match s.settle.accruals with
    | .money e _ source :: _ =>
      match s.noteWork.rollForEffect e with
      | some s1 => .next (s1.applyEffect e source).dropAccrual
      | none => .next s
    | _ => .next s
  else .next s

/-- The period commit: the period in the store and both copies advance with one PERIOD entry under the close's reservation; the
CLOSE entry leaves the queue; unrolled count 512, cursor 0 (R133). -/
def State.commitPeriod (s : State) (requested : Nat) : State :=
  State.append
    { s with
      store.periodWord := requested + 1, ledger.period := requested + 1, settle.period := requested + 1,
      settle.accruals := s.settle.accruals.tail, settle.unrolled := Config.shops, settle.cursor := 0,
      ledger.closeOutstanding := false }
    (requested + 1) (.period requested (requested + 1))

/-- A refused close: the CLOSE entry leaves the queue, the reservation is given back, the arbiter resumes (R132). -/
def State.refuseClose (s : State) (code : OfficeCode) : State :=
  (State.giveBack { s with settle.accruals := s.settle.accruals.tail, ledger.closeOutstanding := false } 1).refuse code

/-- CLOSE_ENTRY: refused ROLL_BUSY or PAYOUT_OPEN, or the period is committed, the advance notice sent and the answer DONE
given (R132, R133, R157). -/
def execCloseEntry (s : State) : Out :=
  if s.nextWork = some .accrual then
    match s.settle.accruals with
    | .close requested :: _ =>
      let s1 := s.noteWork
      if s.ledger.closeOutstanding = false then .next s
      else if 0 < s.settle.unrolled then .next (s1.refuseClose .rollBusy)
      else if 0 < s.settle.openPayouts then .next (s1.refuseClose .payoutOpen)
      else .next (((s1.commitPeriod requested).advanceNotice).done [])
    | _ => .next s
  else .next s

/-! ### The roll sweep -/

/-- The lowest shop at or above the cursor that is behind (R138). -/
def State.sweepShop (s : State) : Option Nat := firstFrom s.behind (Config.shops - s.settle.cursor) s.settle.cursor

/-- ROLL_SWEEP: the sweep rolls that shop, moves its cursor to the shop after it, and its wait count is 0 (R137, R138). -/
def execRollSweep (s : State) : Out :=
  if s.nextWork = some .sweep then
    match s.sweepShop, s.reserve .general 1 with
    | some k, some s1 => .next { s1.commitRoll k with settle.cursor := k + 1, settle.wait := 0 }
    | _, _ => .next s
  else .next s

/-! ### Payout outcomes on the shop and house records -/

/-- The shop's closing bank becomes SETTLED and its amount goes to the settled total; the open payout count falls; whether the total
stopped at its end (R111, R134, R168). -/
def State.settlePayout (s : State) (k : Nat) : State × Bool :=
  let r := s.shop k
  let t := satHouseNat s.store.houseRec.settled r.closing.amount
  ({ s.setShop k { r with closing := { r.closing with state := .settled } } with
      store.houseRec := { s.store.houseRec with settled := t.1, sat := s.store.houseRec.sat || t.2 },
      settle.openPayouts := s.settle.openPayouts - 1 }, t.2)

/-- A payout settled, by an answer or by RESOLVE: a saturation raises SETTLE_FAULT (R111, R168, R173). -/
def State.makeSettled (s : State) (k : Nat) : State := (s.settlePayout k).1.raiseIf (s.settlePayout k).2 .settleFault

/-- The shop record after a returned payout: RETURNED, the amount in the carry, held within its range with flag and freeze
(R126, R169). -/
def ShopRecord.returnPayout (r : ShopRecord) : ShopRecord × Bool :=
  let c := satCarry (r.carry + r.closing.amount)
  ({ r with closing := { r.closing with state := .returned }, carry := c.1, sat := r.sat || c.2,
            office := if c.2 then .frozen else r.office }, c.2)

/-- The shop's closing bank becomes RETURNED; the open payout count falls; whether the carry stopped at its end (R126, R134,
R169). -/
def State.returnPayout (s : State) (k : Nat) : State × Bool :=
  let r := (s.shop k).returnPayout
  ({ s.setShop k r.1 with settle.openPayouts := s.settle.openPayouts - 1 }, r.2)

/-- A payout returned, by an answer or by RESOLVE: a saturation raises SETTLE_FAULT (R126, R169, R173). -/
def State.makeReturned (s : State) (k : Nat) : State := (s.returnPayout k).1.raiseIf (s.returnPayout k).2 .settleFault

/-! ### Office shop requests (class 3) -/

/-- One office shop request. While RECOVERING the Office Unit refuses it WRONG_STATE (R188); else the Settlement Unit serves it
when its turn in class 3 comes and visits stand higher afterwards (R137); with a blank store it is refused WRONG_STATE
(R141). DESIGN CHOICE (log 47): where R139 has READ_SHOP change nothing, not even the sweep, it counts in the sweep wait count and
turns the rotation like every piece of class 3 work (R137). -/
def shopStep (kind : Nat) (serve : List Byte → State → State) (s : State) : State :=
  match s.officeBody kind with
  | none => s
  | some b =>
    if s.ledger.mode = .recovering then s.refuse .wrongState
    else if s.nextWork = some .request then
      let s1 : State := { s.noteWork with settle.visitsHigher := true }
      if s.store.signature then serve b s1 else s1.refuse .wrongState
    else s

/-- SET_SHOP: roll if behind, then office state and debt limit stored (R37, R136). -/
def serveSetShop (b : List Byte) (s : State) : State :=
  let k := officeShop b
  if Config.shops ≤ k then s.refuse .badValue
  else
    match OfficeState.ofCode (setShopState b) with
    | none => s.refuse .badValue
    | some st =>
      match s.rollIfBehind k with
      | none => s.refuse .journalFull
      | some s1 =>
        (s1.setShop k { s1.shop k with office := st, debtLimit := clampTo 0 Config.amountMax (setShopLimit b) }).done []

/-- READ_SHOP: the record as stored, the current period, whether the shop is behind; it does not roll (R139). What `shopStep` does
around it in R137's order of work is the model's choice (log 47). -/
def serveReadShop (b : List Byte) (s : State) : State :=
  let k := officeShop b
  if Config.shops ≤ k then s.refuse .badValue
  else s.done (shopBytes (s.shop k) ++ bytesOf 2 s.settle.period ++ flagByte (s.behind k))

/-- SNAP_SHOP past the latch check: roll if behind, then the copy into the latch (R140, R189). -/
def serveSnapShop (b : List Byte) (s : State) : State :=
  let k := officeShop b
  if Config.shops ≤ k then s.refuse .badValue
  else
    match s.rollIfBehind k with
    | none => s.refuse .journalFull
    | some s1 =>
      State.done
        { s1 with office.latch := some { shop := k, record := s1.shop k, period := s1.settle.period, time := s1.time } } []

/-- READ_HOUSE: the house record as stored (R112). -/
def serveReadHouse (_ : List Byte) (s : State) : State := s.done (houseRecBytes s.store.houseRec)

/-- RESOLVE: an IN_DOUBT shop becomes SETTLED or RETURNED with one RESOLVE entry (R173). It raises no attention of its own, so no
PAYOUT_RETURNED, and counts nothing late; a saturation of the settled total or the carry raises SETTLE_FAULT (R111, R126), and the
Journal Unit raises JOURNAL_HIGH and JOURNAL_FULL at the marks of its ring (R181). DEDUCED (log 44): R173's "no attention" is read
beside R111, R126 and R181, so that each rule holds. -/
def serveResolve (b : List Byte) (s : State) : State :=
  let k := officeShop b
  if Config.shops ≤ k then s.refuse .badValue
  else
    match ResolveOutcome.ofCode (resolveOutcomeByte b) with
    | none => s.refuse .badValue
    | some o =>
      let c := (s.shop k).closing
      if c.state ≠ .inDoubt then s.refuse .wrongState
      else
        match s.reserve .general 1 with
        | none => s.refuse .journalFull
        | some s1 =>
          let s2 := match o with
            | .settled => s1.makeSettled k
            | .returned => s1.makeReturned k
          (s2.append s.settle.period (.resolve k c.period (c.tag.getD 0) c.amount o)).done []

/-- SET_SHOP served by the Settlement Unit. -/
def execSetShop (s : State) : Out := .next (shopStep 0x52 serveSetShop s)

/-- READ_SHOP served by the Settlement Unit. -/
def execReadShop (s : State) : Out := .next (shopStep 0x50 serveReadShop s)

/-- SNAP_SHOP: with a copy in the latch the Office Unit refuses LATCH_HELD before anything else (R189); else served by the
Settlement Unit. -/
def execSnapShop (s : State) : Out :=
  if (s.officeBody 0x51).isSome && s.office.latch.isSome then .next (s.refuse .latchHeld)
  else .next (shopStep 0x51 serveSnapShop s)

/-- READ_HOUSE served by the Settlement Unit. -/
def execReadHouse (s : State) : Out := .next (shopStep 0x44 serveReadHouse s)

/-- RESOLVE served by the Settlement Unit. -/
def execResolve (s : State) : Out := .next (shopStep 0x53 serveResolve s)

end Sys2Proof.Machine
end

