-- ==== Sys2Proof/Machine/Payout.lean ====
section
/-! DEFINITION. Channel visits (R153 to R156) and the payout link's answers and deadlines (R158, R163 to R172). -/

namespace Sys2Proof.Machine

/-! ### The visit -/

/-- The next tag after one has been taken: from 65,535 to 1 (R163). -/
def tagAfter (t : Nat) : Nat := if t = 65535 then 1 else t + 1

/-- The claim of an OWED bank: EMITTED with the next tag, the slot filled with its deadline, PAY queued, PAY_EMIT appended, the
open payout count and the channel's emitted count up (R134, R154, R163, R164). -/
def State.claim (s : State) (v : Visit) : State :=
  let r := s.shop v.shop
  let tag := s.store.nextTag
  let payout : Payout :=
    { tag := tag, shop := v.shop, period := r.closing.period, amount := r.closing.amount,
      deadline := s.time + milliseconds s.store.settings.answerTimeout, sent := false, expired := false }
  let s1 := (s.setShop v.shop { r with closing := { r.closing with state := .emitted, tag := some tag } }).setSlot v.slot
    (.filled payout)
  let s2 : State :=
    { s1 with
      store.nextTag := tagAfter tag, settle.openPayouts := s1.settle.openPayouts + 1,
      plu.payList := s1.plu.payList ++ [v.slot] }
  let c := s2.channel v.channel
  (s2.setChannel v.channel { c with emitted := bump32 c.emitted }).append s.settle.period
    (.payEmit tag v.shop r.closing.period r.closing.amount v.channel)

/-- A channel at terminal count: TC; reload and walk, WAIT_CLOSE or, with a mask pending, IDLE; or DONE without auto-init
(R156). `u` is its stored setup. -/
def Channel.terminal (v : Channel) (u : ChannelSetup) : Channel :=
  let t := { v with tc := true, slot := none }
  if v.auto then
    let l := t.load u
    if v.maskPending then { l with st := .idle, maskPending := false }
    else if v.passPending then { l with passPending := false }.walk
    else { l with st := .waitClose }
  else { t with st := .done, mask := true, maskPending := false }

/-- The next shop in the working direction (R155). -/
def Channel.nextShop (v : Channel) : Nat :=
  match v.dir with
  | .ascending => v.cur + 1
  | .descending => v.cur - 1

/-- A channel after its visit has completed: visits count, credit, advance or terminal count (R154, R155, R156). -/
def Channel.advance (v : Channel) (u : ChannelSetup) (claimed : Bool) : Channel :=
  let c := { v with visits := bump32 v.visits,
                    credit := if claimed && decide (v.mode = ChannelMode.demand) then v.credit - 1 else v.credit }
  if v.remaining = 0 then c.terminal u
  else
    let n := { c with remaining := v.remaining - 1, cur := v.nextShop, slot := none }
    if v.maskPending then { n with st := .idle, maskPending := false } else n.walk

/-- A visit that has its two reservations: the roll if the shop is behind, then the claim if the bank is OWED, else the slot is
released; what is unused of the reservations is given back (R153, R154). Whether it claimed. -/
def State.makeVisit (s : State) (v : Visit) : State × Bool :=
  let rolled := s.behind v.shop
  let s1 := if rolled then s.commitRoll v.shop else s.giveBack 1
  if (s1.shop v.shop).closing.state = .owed then (s1.claim v, true)
  else ((s1.setSlot v.slot .free).giveBack 1, false)

/-- A visit that could not be made: the slot is released unused and the request posted again; with a mask pending the channel
enters IDLE (R149, R153, log 28). -/
def Channel.unvisited (v : Channel) : Channel :=
  if v.maskPending then { v with st := .idle, maskPending := false, slot := none } else { v with st := .waitSlot, slot := none }

/-- The head visit leaves the class 3 work, whose channel visits then stand lower (R137). -/
def State.takeVisit (s : State) : State :=
  { s.noteWork with settle.visits := s.settle.visits.tail, settle.visitsHigher := false }

/-- The visit v served (R153 to R156): not made without two reservations; else made, and its channel advances and posts its
next request in one step with the release of the slot (R152). -/
def State.serveVisit (s : State) (v : Visit) : State :=
  match s.reserve .general 2 with
  | none => (((s.setSlot v.slot .free).setChannel v.channel (s.channel v.channel).unvisited)).grantSlots
  | some s1 =>
    let m := s1.makeVisit v
    let c := m.1.channel v.channel
    ((m.1.setChannel v.channel (c.advance (m.1.setup v.channel) m.2)).raiseIf (c.remaining == 0) .channelTc).grantSlots

/-- CHANNEL_VISIT: the Settlement Unit takes the visit at the head of its class 3 work (R137, R153). -/
def execChannelVisit (s : State) : Out :=
  if s.nextWork = some .visit then
    match s.settle.visits with
    | v :: _ => .next (s.takeVisit.serveVisit v)
    | [] => .next s
  else .next s

/-! ### Bank frames (R165, R174) -/

/-- An answer of the bank is handed on and its work has not completed, so no further frame is taken (R165). -/
def State.answerHandedOn (s : State) : Bool :=
  s.settle.answers.any fun a => match a with
    | .done .. => true
    | .back .. => true
    | .deadline .. => false

/-- The frame the Payout Link Unit takes next: none while RECOVERING, under PFW, or before the previous frame's work has
completed (R165). -/
def State.bankHead (s : State) : Option Frame :=
  if s.pfw || decide (s.ledger.mode = .recovering) || s.answerHandedOn then none else s.payLink.queue.head?

/-- The head frame has left the bank frame queue. -/
def State.dropBank (s : State) : State := { s with payLink.queue := s.payLink.queue.tail }

/-- A bank frame without effect (R166). -/
def State.countStray (s : State) : State := { s with plu.stray := bump32 s.plu.stray }

/-- The answer a DONE or BACK frame stands for; none for one that is stray by its fields: a shop above 511, a BACK with reason
0 (R165). -/
def bankAnswer (f : Frame) : Option Answer :=
  let tag := fieldAt f.body 0 2
  let shop := fieldAt f.body 2 2
  let period := fieldAt f.body 4 2
  if Config.shops ≤ shop then none
  else if f.kind.toNat = 0x91 then some (.done tag shop period)
  else if fieldAt f.body 6 1 = 0 then none
  else some (.back tag shop period (fieldAt f.body 6 1))

/-- BANK_FRAME_TAKEN: a DONE or BACK is stray or handed to the Settlement Unit's class 2 work (R165). -/
def execBankFrameTaken (s : State) : Out :=
  match s.bankHead with
  | some f =>
    if f.kind.toNat = 0x91 ∨ f.kind.toNat = 0x92 then
      match bankAnswer f with
      | some a => .next { s.dropBank with settle.answers := s.settle.answers ++ [a] }
      | none => .next s.dropBank.countStray
    else .next s
  | none => .next s

/-- A channel given pull credit: it stops at 255; a channel in WAIT_PULL with credit walks (R158). -/
def Channel.addCredit (v : Channel) (n : Nat) : Channel :=
  let c := { v with credit := min 255 (v.credit + n) }
  if v.st = .waitPull ∧ 0 < c.credit then c.walk else c

/-- PULL: a channel above 3 or a count of 0 is stray; else the credit is added (R158, R165, R174). -/
def execPull (s : State) : Out :=
  match s.bankHead with
  | some f =>
    if f.kind.toNat = 0x93 then
      let c := fieldAt f.body 0 1
      let n := fieldAt f.body 1 1
      if 3 < c ∨ n = 0 then .next s.dropBank.countStray
      else .next (s.dropBank.setChannel c ((s.channel c).addCredit n)).grantSlots
    else .next s
  | none => .next s

/-! ### Payout answers and deadlines (R167 to R172) -/

/-- The head answer leaves the class 2 work. -/
def State.dropAnswer (s : State) : State := { s with settle.answers := s.settle.answers.tail }

/-- A slot is freed and a PAY of it that still waits is withdrawn (R164, R168). -/
def State.freeSlotOf (s : State) (k : Nat) : State :=
  { s.setSlot k .free with plu.payList := s.plu.payList.filter (fun x => decide (x ≠ k)) }

/-- A slot freed by an outcome is granted among the waiting channels (R152, R168). -/
def State.releaseSlot (s : State) (k : Nat) : State := (s.freeSlotOf k).grantSlots

/-- The late count rises (R166, R172). -/
def State.countLate (s : State) : State := { s with plu.late := bump32 s.plu.late }

/-- A DONE applied under a whole-ring reservation (R168, R172). -/
def State.commitDone (s : State) (tag shop : Nat) (late : Bool) : State :=
  let c := (s.shop shop).closing
  (s.makeSettled shop).append s.settle.period (.payDone tag shop c.period c.amount late)

/-- A BACK applied under a whole-ring reservation; PAYOUT_RETURNED is raised (R169, R172). -/
def State.commitBack (s : State) (tag shop reason : Nat) (late : Bool) : State :=
  let c := (s.shop shop).closing
  ((s.makeReturned shop).append s.settle.period (.payBack tag shop c.period c.amount reason late)).raise .payoutReturned

/-- DONE_ANSWER: matched in window, late or stray as the window and the record stand (R167, R168, R172). -/
def execDoneAnswer (s : State) : Out :=
  if s.nextWork = some .answer then
    match s.settle.answers with
    | .done tag shop period :: _ =>
      let s1 := s.noteWork.dropAnswer
      match s.matchAnswer tag shop period, s1.reserve .whole 1 with
      | .stray, _ => .next s1.countStray
      | .inWindow k, some s2 => .next ((s2.commitDone tag shop false).releaseSlot k)
      | .late, some s2 => .next (s2.commitDone tag shop true).countLate
      | _, none => .next s
    | _ => .next s
  else .next s

/-- BACK_ANSWER: matched in window, late or stray (R167, R169, R172). -/
def execBackAnswer (s : State) : Out :=
  if s.nextWork = some .answer then
    match s.settle.answers with
    | .back tag shop period reason :: _ =>
      let s1 := s.noteWork.dropAnswer
      match s.matchAnswer tag shop period, s1.reserve .whole 1 with
      | .stray, _ => .next s1.countStray
      | .inWindow k, some s2 => .next ((s2.commitBack tag shop reason false).releaseSlot k)
      | .late, some s2 => .next (s2.commitBack tag shop reason true).countLate
      | _, none => .next s
    | _ => .next s
  else .next s

/-- PAY_DEADLINE_REACHED: a FILLED slot whose deadline is reached hands one expiry to the class 2 work (R70, R170; log 40). -/
def execPayDeadlineReached (slot : Nat) (s : State) : Out :=
  match s.slot slot with
  | .filled p =>
    if s.pfw || p.expired || !reached s.time p.deadline then .next s
    else
      .next { s.setSlot slot (.filled { p with expired := true }) with
              settle.answers := s.settle.answers ++ [.deadline slot p.tag] }
  | _ => .next s

/-- The shop's closing bank becomes IN_DOUBT; tag, amount, period and the open payout count stay (R134, R141, R170). -/
def State.makeInDoubt (s : State) (k : Nat) : State :=
  let r := s.shop k
  s.setShop k { r with closing := { r.closing with state := .inDoubt } }

/-- A deadline expiry of a slot that still holds its tag, under a whole-ring reservation (R170). -/
def State.commitDoubt (s : State) (k : Nat) (p : Payout) : State :=
  let c := (s.shop p.shop).closing
  (((s.makeInDoubt p.shop).append s.settle.period (.payDoubt p.tag p.shop c.period c.amount .deadline)).raise
    .payoutInDoubt).releaseSlot k

/-- DEADLINE_EXPIRY: IN_DOUBT when the slot still holds the tag, else discarded (R170, R171). -/
def execDeadlineExpiry (s : State) : Out :=
  if s.nextWork = some .answer then
    match s.settle.answers with
    | .deadline k tag :: _ =>
      let s1 := s.noteWork.dropAnswer
      match s.slot k with
      | .filled p =>
        if p.tag = tag then
          match s1.reserve .whole 1 with
          | some s2 => .next (s2.commitDoubt k p)
          | none => .next s
        else .next s1
      | _ => .next s1
    | _ => .next s
  else .next s

end Sys2Proof.Machine
end

