-- ==== Sys2Proof/Machine/Recovery.lean ====
section
/-! DEFINITION. The two recovery passes and the end of recovery (R46, R47, R141 to R143, R179, R181, R182). -/

namespace Sys2Proof.Machine

/-- A recovery pass runs: RECOVERING over a store with a signature, PFW not asserted (R46, R141, R143). -/
def State.passRuns (s : State) : Bool :=
  decide (s.ledger.mode = .recovering) && !s.pfw && s.store.signature

/-- The card pass reads one serial: a fault is noted, a sound record with held amounts is rewritten without them (R46). -/
def State.cardPass (s : State) (serial : Nat) : State :=
  let r := s.card serial
  if faulty r (s.rangeProgram serial) then s.noteFault serial
  else if r.held ≠ 0 ∨ r.holdCount ≠ 0 then
    { s.writeCard serial { r with held := 0, holdCount := 0 } with
      recovery.rewritten := s.recovery.rewritten + 1, recovery.released := s.recovery.released + r.held }
  else s

/-- CARD_PASS_RECORD: the next serial, in ascending order up to CAP − 1 (R46). -/
def execCardPassRecord (s : State) : Out :=
  if s.passRuns && decide (s.recovery.cardCursor < s.cap) then
    .next { s.cardPass s.recovery.cardCursor with recovery.cardCursor := s.recovery.cardCursor + 1 }
  else .next s

/-- The lowest shop whose closing state is EMITTED (R141). -/
def State.emittedShop (s : State) : Option Nat :=
  firstFrom (fun k => decide ((s.shop k).closing.state = .emitted)) Config.shops 0

/-- The counts made from the records as visited, once no shop is EMITTED any more; PAYOUT_IN_DOUBT once if any shop was made
IN_DOUBT (R141, log 25). A pass that a spent numbering ends at an EMITTED shop has not come to this: it makes no counts and
raises nothing, though it made shops before that one IN_DOUBT (DESIGN CHOICE, R141, R176, R179, log 36). -/
def State.makeCounts (s : State) : State :=
  if s.recovery.counted || s.emittedShop.isSome then s
  else
    State.raiseIf
      { s with
        settle.unrolled := countBelow s.behind Config.shops,
        settle.openPayouts := countBelow (fun k => decide ((s.shop k).closing.state = .inDoubt)) Config.shops,
        recovery.counted := true }
      (decide (0 < s.recovery.doubted)) .payoutInDoubt

/-- RECOVERY_DOUBT: the next EMITTED shop becomes IN_DOUBT with PAY_DOUBT, cause RECOVERY, under a whole-ring reservation; the
pass holds at that shop without one (R141, R176). -/
def execRecoveryDoubt (s : State) : Out :=
  if s.passRuns then
    match s.emittedShop with
    | none => .next s
    | some k =>
      match s.reserve .whole 1 with
      | none => .next s
      | some s1 =>
        let r := s.shop k
        let s2 := (s1.setShop k { r with closing := { r.closing with state := .inDoubt } }).append s.settle.period
          (.payDoubt (r.closing.tag.getD 0) k r.closing.period r.closing.amount .recovery)
        .next (State.makeCounts { s2 with recovery.doubted := s.recovery.doubted + 1 })
  else .next s

/-- The accrual an entry yields, if its kind posts one (R142). -/
def effectOfEntry : EntryBody → Option Effect
  | .activate _ _ _ _ shop amount _ => some (.sold shop amount)
  | .load _ _ _ _ shop amount _ => some (.sold shop amount)
  | .redeem _ _ shop _ _ _ rate amount => some (.redeemed shop amount rate)
  | .capture _ _ _ shop _ _ amount rate => some (.redeemed shop amount rate)
  | .refund _ _ _ _ _ _ original amount rate _ _ => some (.refunded original amount rate)
  | .cashout _ _ shop _ _ amount => some (.cashed shop amount)
  | .closeCard _ _ amount => if 0 < amount then some (.unclaimed amount) else none
  | .authorize .. => none
  | .void .. => none
  | .expire .. => none
  | .adjust .. => none
  | .provision .. => none
  | .cardState .. => none
  | .period .. => none
  | .roll .. => none
  | .payEmit .. => none
  | .payDone .. => none
  | .payBack .. => none
  | .payDoubt .. => none
  | .resolve .. => none
  | .restart .. => none

/-- The next entry to replay: the oldest above the accrual mark that posts an accrual (R142). -/
def State.nextReplay (s : State) : Option JournalEntry :=
  s.store.ring.reverse.find? fun e => decide (s.store.houseRec.mark < e.seq) && (effectOfEntry e.body).isSome

/-- ACCRUAL_REPLAY: once no shop is EMITTED, that entry's accrual is applied again, its shop rolled first if behind; the pass
holds at it without a reservation for the roll (R142). -/
def execAccrualReplay (s : State) : Out :=
  if s.passRuns && s.emittedShop.isNone then
    let s0 := s.makeCounts
    match s0.nextReplay with
    | none => .next s0
    | some e =>
      match effectOfEntry e.body with
      | none => .next s0
      | some eff =>
        match s0.rollForEffect eff with
        | none => .next s0
        | some s1 => .next { s1.applyEffect eff e.seq with recovery.replayed := s.recovery.replayed + 1 }
  else .next s

/-- The Settlement Unit's pass is held by a spent numbering: at a PAY_DOUBT or at a replay's roll (R179). -/
def State.passSpent (s : State) : Bool :=
  s.numberingSpent 1 &&
    (s.emittedShop.isSome ||
      (match s.nextReplay with
        | some e => match effectOfEntry e.body with
          | some eff => s.effectBehind eff
          | none => false
        | none => false))

/-- The Settlement Unit reports its pass complete: nothing left to doubt or replay, or held by a spent numbering (R141, R142,
R179). -/
def State.passComplete (s : State) : Bool := (s.emittedShop.isNone && s.nextReplay.isNone) || s.passSpent

/-- At the end of recovery JOURNAL_HIGH and JOURNAL_FULL are re-armed and each is raised once if the ring stands at its mark
(R181). -/
def State.rearm (s : State) : State :=
  let high := decide (Config.highMark ≤ s.unack)
  let full := decide (Config.generalLimit ≤ s.unack + s.journal.reserved)
  (State.raiseIf { s with journal.highHeld := high, journal.fullHeld := full } high .journalHigh).raiseIf full .journalFull

/-- The ledger leaves RECOVERING (R47). -/
def State.leaveRecovery (s : State) (mode : LedgerState) : State := State.rearm { s with ledger.mode := mode }

/-- RECOVERY_END: with a blank store CONFIG, no RESTART; else, both passes complete, RESTART is appended from the whole ring and
the ledger is OPEN or CONFIG by the open flag; at a spent numbering CONFIG without RESTART; with the ring full it stays
RECOVERING (R47, R179, R182). A pass ended at a replay's roll has made its counts (R141); one ended at an EMITTED shop has
neither counts nor PAYOUT_IN_DOUBT (DESIGN CHOICE, log 36). -/
def execRecoveryEnd (s : State) : Out :=
  if s.ledger.mode ≠ .recovering ∨ s.pfw = true then .next s
  else if s.store.signature = false then .next (s.leaveRecovery .config)
  else if decide (s.recovery.cardCursor < s.cap) || !s.passComplete then .next s
  else
    let s0 := s.makeCounts
    if s0.numberingSpent 1 then .next (s0.leaveRecovery .config)
    else
      match s0.reserve .whole 1 with
      | none => .next s0
      | some s1 =>
        .next ((s1.append s.settle.period
          (.restart s.office.resetCause s.recovery.rewritten s.recovery.released s.recovery.doubted s.recovery.replayed)).leaveRecovery
            (if s.store.openFlag then .opened else .config))

end Sys2Proof.Machine
end

