-- ==== Sys2Proof/Machine/Refund.lean ====
section
/-! DEFINITION. REFUND and the capture window lookup (chapter 5). -/

namespace Sys2Proof.Machine

/-- The record of the window with a capture reference (R98, R99). -/
def State.findCapture (s : State) (ref : Nat) : Option CaptureRecord := s.store.window.find? (fun r => r.ref == ref)

/-- The window with an amount added to a record's amount refunded; the record keeps its place (R93, R104). -/
def refundRecord (ref amount : Nat) : List CaptureRecord → List CaptureRecord
  | [] => []
  | r :: rs =>
    if r.ref = ref then { r with refunded := r.refunded + amount } :: rs else r :: refundRecord ref amount rs

/-- The card after an approved REFUND (R104). -/
def refundedCard (c : CardRecord) (amount period : Nat) : CardRecord :=
  { c with balance := c.balance + amount, lastUse := some period, seq := nextCardSeq c.seq }

/-- Totals after a refund (R60, R104). -/
def Totals.refund (t : Totals) (amount : Nat) : Totals :=
  { t with refunded := totalAfter t.refunded amount }.moveFloat amount

/-- The refund's own checks after the amount range, in order: too old, elsewhere, card state, exceeds, balance limit (R100 to
R103). The decline, if any. -/
def State.refundDecline (s : State) (shop amount : Nat) (rec : CaptureRecord) (card : CardRecord) : Option Reply :=
  if rec.period + (s.program rec.program).refundWindow < s.ledger.period then some (Reply.decline .refundTooOld)
  else if shop ≠ rec.shop ∧ (s.acceptRow (segment shop)).effectiveXe rec.program = false then
    some (Reply.decline .refundElsewhere)
  else if card.state ≠ .active ∧ card.state ≠ .suspended then some (Reply.decline .cardState)
  else if rec.captured < rec.refunded + amount then some (Reply.decline .refundExceeds)
  else if Config.balanceMax < card.balance + amount then some (Reply.declineWith .limit card.available)
  else none

/-- REFUND decided (R97 to R105). -/
def decideRefund (req : LaneReq) (s : State) : State × Reply :=
  match s.admitShop .giveBack req with
  | .error d => (s, Reply.decline d)
  | .ok shop =>
    let ref := refundRef req.body
    let amount := refundAmount req.body
    let badAmount := decide (amount = 0) || decide (Config.amountMax < amount)
    match s.findCapture ref with
    | none => if badAmount then (s, Reply.decline .badAmount) else (s, Reply.decline .refundUnknown)
    | some rec =>
      if s.cap ≤ rec.card then (s, Reply.decline .noCard)
      else
        match s.readRecord rec.card (s.rangeProgram rec.card) with
        | (s1, none) => (s1, Reply.decline .recordFault)
        | (_, some card) =>
          if badAmount then (s, Reply.decline .badAmount)
          else
            match s.refundDecline shop amount rec card with
            | some r => (s, r)
            | none =>
              match s.reserve .general 1 with
              | none => (s, Reply.decline .journalFull)
              | some s1 =>
                let c := refundedCard card amount s.ledger.period
                let s2 := (s1.writeCard rec.card c).setTotals (s.store.totals.refund amount)
                (State.post { s2 with store.window := refundRecord ref amount s.store.window }
                  (.refund rec.card c.seq ref shop req.lane (laneTerminal req.body) rec.shop amount rec.rate rec.period
                    (rec.refunded + amount))
                  (some (.refunded rec.shop amount rec.rate)),
                 { Reply.approve .approved amount c.available with captureRef := some ref })

/-- REFUND taken by the Card Ledger. -/
def execRefund (s : State) : Out := .next (laneStep 0x17 decideRefund s)

end Sys2Proof.Machine
end

