-- ==== Sys2Proof/Machine/Reset.lean ====
section
/-! DEFINITION. Resets and the power-fail warning (R19, R20, R128, R141, R145, R196 to R198). -/

namespace Sys2Proof.Machine

/-- A channel after a reset: position and working copy loaded from its stored setup (R145). -/
def channelAtReset (u : ChannelSetup) : Channel :=
  { Channel.initial with cur := u.baseShop, remaining := u.baseCount, dir := u.dir, mode := u.mode, auto := u.auto }

/-- The four channels after a reset (R145). -/
def channelsAtReset (s : State) : Table Channel :=
  [0, 1, 2, 3].foldl (fun t c => Table.write Channel.initial t c (channelAtReset (s.setup c))) []

/-- The period loaded from the store at the start of recovery; 0 with a blank store (R129, R195). -/
def periodAtReset (s : State) : Nat := if s.store.signature then s.store.periodWord else 0

/-- Every block's on-chip state takes its reset value and recovery begins; the store is kept (R20, R46, R53, R69, R71, R92,
R141, R145, R162, R166, R178, R185, R189, R191, R196, R197). The queue of waiting commands and the count of warnings are the
model's own and stay. -/
def resetChip (cause : ResetCause) (capacity : Nat) (pfw : Bool) (s : State) : State :=
  { State.reset with
    pfw := pfw,
    cap := capacity,
    ledger := { State.reset.ledger with period := periodAtReset s },
    settle := { Settle.initial with period := periodAtReset s },
    channels := channelsAtReset s,
    journal := { JournalChip.initial with nextStream := s.oldest },
    office := { State.reset.office with resetCause := cause },
    store := s.store,
    pending := s.pending,
    warnings := s.warnings }

/-- POWER_ON_RESET: CAPSEL is sampled (R196); the warning line is clear, since the part has power (log 11). -/
def execPowerOnReset (capacity : Capacity) (s : State) : Out := .next (resetChip .powerOn capacity.cards false s)

/-! ### The warning in the middle of a piece of work (R128) -/

/-- The shop a SET_SHOP or SNAP_SHOP at its turn acts on; none for another request and for one refused before it acts (R37,
R140). -/
def State.requestShop (s : State) : Option Nat :=
  match s.officeRequest with
  | some f =>
    if officeShop f.body < Config.shops ∧
        (f.kind.toNat = 0x51 ∨ (f.kind.toNat = 0x52 ∧ (OfficeState.ofCode (setShopState f.body)).isSome)) then
      some (officeShop f.body)
    else none
  | none => none

/-- The shop an effect rolls when it is behind, with the one reservation of that roll (R114, R136). -/
def Effect.rolls (e : Effect) : Option (Nat × Nat) := e.shop.map fun k => (k, 1)

/-- The shop that the Settlement Unit's work in hand rolls first when it is behind, and the reservations that work takes: the
accrual at the head, the visit at the head, an office request, or in recovery the entry to replay (R136, R142, R153). -/
def State.workInHand (s : State) : Option (Nat × Nat) :=
  if s.passRuns && s.emittedShop.isNone then s.nextReplay.bind fun e => (effectOfEntry e.body).bind Effect.rolls
  else
    match s.nextWork with
    | some .accrual =>
      match s.settle.accruals with
      | .money e _ _ :: _ => e.rolls
      | _ => none
    | some .visit => s.settle.visits.head?.map fun v => (v.shop, 2)
    | some .request => s.requestShop.map fun k => (k, 1)
    | _ => none

/-- In recovery the counts are made before a replay (R141). -/
def State.makeCountsIfRecovering (s : State) : State := if s.passRuns then s.makeCounts else s

/-- The work in hand after the write of its roll and no further: the shop behind is rolled with its ROLL entry, and what was to
follow has not begun (R128). Without a shop behind or a reservation no such write is made. -/
def State.rollInHand (s : State) : State :=
  match s.workInHand with
  | some (k, n) =>
    if s.behind k then
      match s.makeCountsIfRecovering.reserve .general n with
      | some s1 => s1.commitRoll k
      | none => s
    else s
  | none => s

/-- PFW_ASSERT: no block takes new work (R19, R198); writes begun are completed, one that has not begun is not made, which
may leave a roll without what follows it: where the warning falls is a free value (R128, log 42); a FORMAT that runs stops
there (R44). -/
def execPfwAssert (s : State) : Out :=
  let s1 := if Config.warningAfterRoll s.warnings then s.rollInHand else s
  .next { s1 with pfw := true, ledger.formatting := false, warnings := s.warnings + 1 }

/-- PFW_RELEASE: the warning falls without loss of power and the part performs the restart with cause POWER_FAIL (R198). A
line that is not asserted cannot fall. -/
def execPfwRelease (s : State) : Out := if s.pfw then .next (resetChip .powerFail s.cap false s) else .next s

/-- RESTART_PERFORMED: the last byte of the DONE answer to RESTART has been sent (R197). DESIGN CHOICE (log 45): the restart falls
between two pieces of the Settlement Unit's work, never after the roll's write of one and before the write that would follow it, as
R197 lets it and the warning may (log 42). A power-on reset likewise. -/
def execRestartPerformed (s : State) : Out :=
  if s.sendingRestartAnswer then .next (resetChip .restart s.cap s.pfw s) else .next s

end Sys2Proof.Machine
end

