-- ==== Sys2Proof/Machine/Tables.lean ====
section
/-! DEFINITION. The Reference Tables: READ_TABLE and WRITE_TABLE (R21 to R27, R30, R32, R33, R36). -/

namespace Sys2Proof.Machine

/-- Entry bytes of the table a code names (12.2); none for an unknown code. -/
def tableEntryBytes (code : Nat) : Option Nat :=
  match code with
  | 1 => some 24
  | 2 => some 8
  | 3 => some 4
  | 4 => some 4
  | 5 => some 7
  | _ => none

/-- How many entries the table has (2.1). -/
def tableSize (code : Nat) : Nat :=
  match code with
  | 1 => 8
  | 2 => 32
  | 3 => 1
  | 4 => 512
  | 5 => 1
  | _ => 0

/-- The entry as it stands in the store, laid out as 12.2 gives (R22). -/
def State.tableEntry (s : State) (code index : Nat) : List Byte :=
  match code with
  | 1 => programBytes (s.program index)
  | 2 => acceptBytes (s.acceptRow index)
  | 3 => houseBytes s.store.house
  | 4 => bindingBytes (s.binding index)
  | 5 => settingsBytes s.store.settings
  | _ => []

/-- The answer of READ_TABLE and WRITE_TABLE: table code, index, entry as stored (R22, R23, R200). -/
def State.answerEntry (s : State) (code index : Nat) : State :=
  s.done (bytesOf 1 code ++ bytesOf 2 index ++ s.tableEntry code index)

/-- READ_TABLE: with a blank store WRONG_STATE (R21); an unknown table or an index outside it BAD_VALUE (R22). -/
def serveReadTable (b : List Byte) (s : State) : State :=
  if s.store.signature = false then s.refuse .wrongState
  else if tableSize (officeByte b) ≤ tableIndex b then s.refuse .badValue
  else s.answerEntry (officeByte b) (tableIndex b)

/-- READ_TABLE served by the Reference Tables. -/
def execReadTable (s : State) : Out := .next (officeStep 0x59 serveReadTable s)

/-- WRITE_TABLE of one table: with a blank store WRONG_STATE (R21); index and length checked first (R23). A table code that is
unknown is refused BAD_VALUE by any of the five rows (log 17). -/
def writeStep (code : Nat) (serve : List Byte → State → State) (s : State) : State :=
  match s.officeBody 0x5A with
  | none => s
  | some b =>
    if officeByte b = code then
      if s.store.signature = false then s.refuse .wrongState
      else if tableSize code ≤ tableIndex b ∨ some (b.length - 5) ≠ tableEntryBytes code then s.refuse .badValue
      else serve b s
    else if (tableEntryBytes (officeByte b)).isNone then
      s.refuse (if s.store.signature then .badValue else .wrongState)
    else s

/-! ### PROGRAM -/

/-- The boundaries may move: CONFIG with the open flag clear (R25, R26). -/
def State.boundaryFree (s : State) : Bool := decide (s.ledger.mode = .config) && !s.store.openFlag

/-- Fields other than the boundary clamped, the load limit first (R27). -/
def Program.clamp (p : Program) : Program :=
  let limit := clampTo 100 Config.amountMax p.loadLimit
  { p with loadLimit := limit, activationMin := clampTo 0 limit p.activationMin, rate := clampTo 0 2000 p.rate,
           lifetime := clampTo 10 86400 p.lifetime, maxHolds := clampTo 1 8 p.maxHolds,
           refundWindow := clampTo 0 255 p.refundWindow, ceiling := clampTo 0 100000 p.ceiling }

/-- The boundary of the program below k, 0 for program 0 (R25). -/
def State.boundaryBelow (s : State) (k : Nat) : Nat := if k = 0 then 0 else (s.program (k - 1)).boundary

/-- A written boundary clamped into the range from the program below up to CAP (R25); where the program below stands above
CAP, at that boundary (log 19). -/
def State.clampBoundary (s : State) (k b : Nat) : Nat := max (s.boundaryBelow k) (min s.cap b)

/-- The state with program record k replaced. -/
def State.setProgram (s : State) (k : Nat) (p : Program) : State :=
  { s with store.programs := Table.write Program.initial s.store.programs k p }

/-- Every program above k whose boundary is below b has it raised to b (R25). -/
def State.raiseBoundaries (s : State) (k b : Nat) : State :=
  [1, 2, 3, 4, 5, 6, 7].foldl
    (fun t j => if k < j ∧ (t.program j).boundary < b then t.setProgram j { t.program j with boundary := b } else t) s

/-- A program record written: the boundary moved where R25 allows, kept elsewhere (R25, R26, R27). -/
def State.writeProgram (s : State) (k : Nat) (p : Program) : State :=
  if s.boundaryFree then
    let b := s.clampBoundary k p.boundary
    (s.setProgram k { p.clamp with boundary := b }).raiseBoundaries k b
  else s.setProgram k p.clamp

/-- WRITE_TABLE PROGRAM (R23, R25, R26, R27). -/
def serveWriteProgram (b : List Byte) (s : State) : State :=
  let k := tableIndex b
  match programOfBody b with
  | none => s.refuse .badValue
  | some p =>
    if !s.boundaryFree && decide (p.boundary ≠ (s.program k).boundary) then s.refuse .wrongState
    else (s.writeProgram k p).answerEntry 1 k

/-- WRITE_TABLE of a program record. -/
def execWriteTableProgram (s : State) : Out := .next (writeStep 1 serveWriteProgram s)

/-! ### ACCEPT, HOUSE, BINDING, SETTINGS -/

/-- WRITE_TABLE ACCEPT: the 24 flags of one segment, exactly as written (R30). -/
def serveWriteAccept (b : List Byte) (s : State) : State :=
  let g := tableIndex b
  State.answerEntry
    { s with store.accept := Table.write AcceptRow.initial s.store.accept g (acceptOfBody b) } 2 g

/-- WRITE_TABLE of one segment's acceptance flags. -/
def execWriteTableAccept (s : State) : Out := .next (writeStep 2 serveWriteAccept s)

/-- The house range clamped: start to 0 to 511, end to 0 to 512 (R32). -/
def HouseRange.clamp (h : HouseRange) : HouseRange := { start := clampTo 0 511 h.start, stop := clampTo 0 512 h.stop }

/-- WRITE_TABLE HOUSE (R32). -/
def serveWriteHouse (b : List Byte) (s : State) : State :=
  State.answerEntry { s with store.house := (houseOfBody b).clamp } 3 (tableIndex b)

/-- WRITE_TABLE of the house range. -/
def execWriteTableHouse (s : State) : Out := .next (writeStep 3 serveWriteHouse s)

/-- A binding that is refused: address 0 or 255, shop above 511 (R33). -/
def Binding.bad (x : Binding) : Bool := decide (x.address = 0) || decide (x.address = 255) || decide (Config.shops ≤ x.shop)

/-- WRITE_TABLE BINDING (R33). -/
def serveWriteBinding (b : List Byte) (s : State) : State :=
  let k := tableIndex b
  match bindingOfBody b with
  | none => s.refuse .badValue
  | some x =>
    if x.bad then s.refuse .badValue
    else State.answerEntry { s with store.bindings := Table.write Binding.initial s.store.bindings k x } 4 k

/-- WRITE_TABLE of a terminal binding entry. -/
def execWriteTableBinding (s : State) : Out := .next (writeStep 4 serveWriteBinding s)

/-- The settings clamped: payout minimum 0 to 100,000, answer timeout 5 to 600 (R36). -/
def Settings.clamp (x : Settings) : Settings :=
  { x with payoutMin := clampTo 0 100000 x.payoutMin, answerTimeout := clampTo 5 600 x.answerTimeout }

/-- WRITE_TABLE SETTINGS: an unknown slot priority is refused with the whole write (R36). -/
def serveWriteSettings (b : List Byte) (s : State) : State :=
  match settingsOfBody b with
  | none => s.refuse .badValue
  | some x => State.answerEntry { s with store.settings := x.clamp } 5 (tableIndex b)

/-- WRITE_TABLE of the settlement settings. -/
def execWriteTableSettings (s : State) : Out := .next (writeStep 5 serveWriteSettings s)

end Sys2Proof.Machine
end

