-- ==== Sys2Proof/Machine/Dispatch.lean ====
section
/-! DEFINITION. The meaning of every command: one arm per constructor of Instr. -/

namespace Sys2Proof.Machine

def exec (i : Instr) (s : State) : Host.Outcome State Fault Refusal :=
  match i with
  | .powerOnReset capacity => Sys2Proof.Machine.execPowerOnReset capacity s
  | .pfwAssert => Sys2Proof.Machine.execPfwAssert s
  | .pfwRelease => Sys2Proof.Machine.execPfwRelease s
  | .restartPerformed => Sys2Proof.Machine.execRestartPerformed s
  | .idleGap link => Sys2Proof.Machine.execIdleGap link s
  | .truncatedFrame link => Sys2Proof.Machine.execTruncatedFrame link s
  | .laneFrameReceived lane chars => Sys2Proof.Machine.execLaneFrameReceived lane chars s
  | .officeFrameReceived chars => Sys2Proof.Machine.execOfficeFrameReceived chars s
  | .bankFrameReceived chars => Sys2Proof.Machine.execBankFrameReceived chars s
  | .laneAnswerSent lane => Sys2Proof.Machine.execLaneAnswerSent lane s
  | .officeFrameSent => Sys2Proof.Machine.execOfficeFrameSent s
  | .paySend => Sys2Proof.Machine.execPaySend s
  | .payFrameSent => Sys2Proof.Machine.execPayFrameSent s
  | .laneBadRequest => Sys2Proof.Machine.execLaneBadRequest s
  | .activate => Sys2Proof.Machine.execActivate s
  | .load => Sys2Proof.Machine.execLoad s
  | .balance => Sys2Proof.Machine.execBalance s
  | .redeem => Sys2Proof.Machine.execRedeem s
  | .cashout => Sys2Proof.Machine.execCashout s
  | .authorize => Sys2Proof.Machine.execAuthorize s
  | .capture => Sys2Proof.Machine.execCapture s
  | .void => Sys2Proof.Machine.execVoid s
  | .refund => Sys2Proof.Machine.execRefund s
  | .holdDeadlineReached => Sys2Proof.Machine.execHoldDeadlineReached s
  | .expiry => Sys2Proof.Machine.execExpiry s
  | .accrualApply => Sys2Proof.Machine.execAccrualApply s
  | .closeEntry => Sys2Proof.Machine.execCloseEntry s
  | .rollSweep => Sys2Proof.Machine.execRollSweep s
  | .slotGrant => Sys2Proof.Machine.execSlotGrant s
  | .channelVisit => Sys2Proof.Machine.execChannelVisit s
  | .bankFrameTaken => Sys2Proof.Machine.execBankFrameTaken s
  | .pull => Sys2Proof.Machine.execPull s
  | .doneAnswer => Sys2Proof.Machine.execDoneAnswer s
  | .backAnswer => Sys2Proof.Machine.execBackAnswer s
  | .payDeadlineReached slot => Sys2Proof.Machine.execPayDeadlineReached slot s
  | .deadlineExpiry => Sys2Proof.Machine.execDeadlineExpiry s
  | .streamMark => Sys2Proof.Machine.execStreamMark s
  | .attnChoice => Sys2Proof.Machine.execAttnChoice s
  | .cardPassRecord => Sys2Proof.Machine.execCardPassRecord s
  | .recoveryDoubt => Sys2Proof.Machine.execRecoveryDoubt s
  | .accrualReplay => Sys2Proof.Machine.execAccrualReplay s
  | .recoveryEnd => Sys2Proof.Machine.execRecoveryEnd s
  | .laneUp => Sys2Proof.Machine.execLaneUp s
  | .laneStatus => Sys2Proof.Machine.execLaneStatus s
  | .readStatus => Sys2Proof.Machine.execReadStatus s
  | .restart => Sys2Proof.Machine.execRestart s
  | .readTable => Sys2Proof.Machine.execReadTable s
  | .writeTableProgram => Sys2Proof.Machine.execWriteTableProgram s
  | .writeTableAccept => Sys2Proof.Machine.execWriteTableAccept s
  | .writeTableHouse => Sys2Proof.Machine.execWriteTableHouse s
  | .writeTableBinding => Sys2Proof.Machine.execWriteTableBinding s
  | .writeTableSettings => Sys2Proof.Machine.execWriteTableSettings s
  | .format => Sys2Proof.Machine.execFormat s
  | .openLedger => Sys2Proof.Machine.execOpenLedger s
  | .readCard => Sys2Proof.Machine.execReadCard s
  | .provision => Sys2Proof.Machine.execProvision s
  | .suspend => Sys2Proof.Machine.execSuspend s
  | .resume => Sys2Proof.Machine.execResume s
  | .closeCard => Sys2Proof.Machine.execCloseCard s
  | .adjust => Sys2Proof.Machine.execAdjust s
  | .rewriteCard => Sys2Proof.Machine.execRewriteCard s
  | .readTotals => Sys2Proof.Machine.execReadTotals s
  | .closePeriod => Sys2Proof.Machine.execClosePeriod s
  | .setShop => Sys2Proof.Machine.execSetShop s
  | .readShop => Sys2Proof.Machine.execReadShop s
  | .snapShop => Sys2Proof.Machine.execSnapShop s
  | .readSnap => Sys2Proof.Machine.execReadSnap s
  | .readHouse => Sys2Proof.Machine.execReadHouse s
  | .resolve => Sys2Proof.Machine.execResolve s
  | .setChannel => Sys2Proof.Machine.execSetChannel s
  | .armChannel => Sys2Proof.Machine.execArmChannel s
  | .stepChannel => Sys2Proof.Machine.execStepChannel s
  | .maskChannelMask => Sys2Proof.Machine.execMaskChannelMask s
  | .maskChannelUnmask => Sys2Proof.Machine.execMaskChannelUnmask s
  | .channelStatus => Sys2Proof.Machine.execChannelStatus s
  | .journalRead => Sys2Proof.Machine.execJournalRead s
  | .journalAck => Sys2Proof.Machine.execJournalAck s
  | .streamSet => Sys2Proof.Machine.execStreamSet s
  | .attnMask => Sys2Proof.Machine.execAttnMask s
  | .attnEnd => Sys2Proof.Machine.execAttnEnd s
  | .attnMode => Sys2Proof.Machine.execAttnMode s
  | .officeBadRequest => Sys2Proof.Machine.execOfficeBadRequest s
  | .formatComplete => Sys2Proof.Machine.execFormatComplete s
  | .transmitterBeginsFrame link => Sys2Proof.Machine.execTransmitterBeginsFrame link s

end Sys2Proof.Machine
end

