-- ==== Sys2Proof/Machine/Step.lean ====
section
/-! DEFINITION. One step: the command at the front of the queue, or one tick of the Time Base. -/

namespace Sys2Proof.Machine

/-- One millisecond of the Time Base (R69), which streaming in milliseconds counts (R186); the step on an empty queue
(log 2). -/
def State.tick (s : State) : State :=
  { s with
    time := s.time + 1,
    journal.streamCount :=
      if s.journal.streamOn && decide (s.journal.unit = StreamUnit.milliseconds) then s.journal.streamCount + 1
      else s.journal.streamCount }

/-- The command at the front of the queue is executed on the state with the queue's rest. -/
def step (s : State) : Host.Outcome State Fault Refusal :=
  match s.pending with
  | c :: rest => Sys2Proof.Machine.exec c { s with pending := rest }
  | [] => .next s.tick

/-- The command a word spells put at the front of the queue; s where it spells none (log 38). -/
def State.withFetchWord (s : State) (nbits w : Nat) : State :=
  match Sys2Proof.decodeTableWord nbits w with
  | some c => { s with pending := c :: s.pending }
  | none => s

end Sys2Proof.Machine
end

