-- ==== Sys2Proof/Safety.lean ====
section
/-! DEFINITION. What the claims speak of: the invariants of the journal, the tables and the queues, what one commit, one answer and
one reset leave, and the frames of the commits. -/

namespace Sys2Proof.Machine

/-! ### Invariants -/

/-- The journal's pointers stand in order (R178), unacknowledged entries and reservations fit the ring (R180), every granted
reservation fits the numbering (R179), and between commands only an outstanding close holds a reservation (R131), the warning apart:
it may leave work cut short with its own (R128, log 42). -/
def State.journalSound (s : State) : Prop :=
  (s.store.signature = true →
    1 ≤ s.store.oldestUnack ∧ s.store.oldestUnack ≤ s.journal.nextStream ∧ s.journal.nextStream ≤ s.store.nextToWrite) ∧
  s.unack + s.journal.reserved ≤ Config.ringMax ∧
  s.store.nextToWrite + s.journal.reserved ≤ Config.wrap32 ∧
  (s.pfw = false → s.journal.reserved = s.ledger.closeOutstanding.toNat)

/-- Every table is in its canonical form. -/
def State.tablesSound (s : State) : Prop :=
  Table.wf Lane.initial s.lanes = true ∧ Table.wf HoldSlot.initial s.holds = true ∧
  Table.wf Channel.initial s.channels = true ∧ Table.wf Slot.free s.plu.slots = true ∧
  Table.wf CardRecord.blank s.store.cards = true ∧ Table.wf Program.initial s.store.programs = true ∧
  Table.wf AcceptRow.initial s.store.accept = true ∧ Table.wf Binding.initial s.store.bindings = true ∧
  Table.wf ChannelSetup.initial s.store.setups = true ∧ Table.wf ShopRecord.initial s.store.shops = true

/-- No queue or list holds more than the spec gives it places for (R10, R16, R17, R53, R93, R113, R137, R178). -/
def State.withinCapacity (s : State) : Prop :=
  (∀ l, (s.lane l).queue.length ≤ Config.laneQueueMax) ∧ s.officeLink.queue.length ≤ Config.frameQueueMax ∧
  s.payLink.queue.length ≤ Config.frameQueueMax ∧ s.ledger.faults.length ≤ Config.faultMax ∧
  s.settle.accruals.length ≤ Config.accrualMax ∧ s.settle.wait ≤ 8 ∧ s.store.window.length ≤ Config.windowMax ∧
  s.store.ring.length ≤ Config.ringMax

/-- The ledger state, the open flag and the period of a store with a signature belong together: the flag is set from OPEN_LEDGER
on, with period 1 (R43, R45); the ledger is OPEN only over such a store (R47); FORMAT runs in CONFIG without a signature (R44); a
close is outstanding only in OPEN (R130). -/
def State.modeSound (s : State) : Prop :=
  (s.store.signature = true → (s.store.openFlag = true ↔ s.store.periodWord ≠ 0)) ∧
  (s.ledger.mode = .opened → s.store.signature = true ∧ s.store.openFlag = true) ∧
  (s.ledger.formatting = true → s.ledger.mode = .config ∧ s.store.signature = false) ∧
  (s.ledger.closeOutstanding = true → s.ledger.mode = .opened)

/-! ### Cards and holds -/

/-- The record of a serial is sound: its check value matches and, unless BLANK, it carries the program whose range holds it (R29,
R52). -/
def State.cardSound (s : State) (serial : Nat) : Prop :=
  (s.card serial).checkOk = true ∧ ((s.card serial).state ≠ .blank → (s.card serial).program = s.rangeProgram serial) ∧
  ((s.card serial).state ≠ .blank → s.rangeProgram serial ≠ none)

/-- The slots of the hold table that hold an open hold of a card (4.2). -/
def State.slotsOf (s : State) (serial : Nat) : Finset Nat :=
  (Finset.range 2048).filter fun j => (s.holdSlot j).hold.map Hold.card = some serial

/-- The sum of the amounts of a card's open holds (R75). -/
def State.heldOn (s : State) (serial : Nat) : Nat :=
  (s.slotsOf serial).sum fun j => ((s.holdSlot j).hold.map Hold.amount).getD 0

/-- A free slot's next generation and an open slot's generation are below 32; an open hold is in one of the 2,048 slots, on a card
of the capacity, for an amount above 0, and only in OPEN; the expiry queue and the waiting expiry requests name every open hold
once, under its generation and deadline, and nothing else: at most 2,048 (R71, R72, R73, R76, R77). -/
def State.holdsSound (s : State) : Prop :=
  (∀ j, (s.holdSlot j).gen < 32) ∧
  (∀ j h, (s.holdSlot j).hold = some h → j < 2048 ∧ h.card < s.cap ∧ 0 < h.amount ∧ s.ledger.mode = .opened) ∧
  ((s.expiryQ ++ s.waiting).map ExpiryItem.slot).Nodup ∧
  (∀ it ∈ s.expiryQ ++ s.waiting, ∃ h, (s.holdSlot it.slot).hold = some h ∧ (s.holdSlot it.slot).gen = it.gen ∧
    h.deadline = it.deadline) ∧
  (∀ j h, (s.holdSlot j).hold = some h → ∃ it ∈ s.expiryQ ++ s.waiting, it.slot = j) ∧
  (s.expiryQ ++ s.waiting).length ≤ 2048

/-- The float is the sum of all card balances (R60), each of them within its range (3.1); the limits of the programs that bound
them are within theirs (R27); before the ledger is first opened no card holds money (R41, R44, R45); a sound card that is BLANK,
STOCK or CLOSED has none (R55, R59, R63, R66, R68). -/
def State.moneySound (s : State) : Prop :=
  s.cap ≤ 262144 ∧ (∀ k, k ≤ 7 → (s.program k).loadLimit ≤ 10000000 ∧ (s.program k).maxHolds ≤ 8) ∧
  s.store.totals.float = (Finset.range s.cap).sum (fun k => (s.card k).balance) ∧
  (∀ k, k < s.cap → (s.card k).balance ≤ 2147483647) ∧
  (s.store.signature = true → s.store.periodWord = 0 →
    ∀ k, k < s.cap → (s.card k).balance = 0 ∧ (s.card k).held = 0 ∧ (s.card k).holdCount = 0) ∧
  (s.store.signature = true → ∀ k, k < s.cap → s.cardSound k →
    (s.card k).state ∈ [.blank, .stock, .closed] → (s.card k).balance = 0)

/-- In OPEN the held amount of a sound card not on the fault list is the sum of its open holds and its hold count their number, at
most 8 and never above its balance; a card that is BLANK, STOCK or CLOSED has none (R41, R75, R79). During recovery the cards
already passed hold nothing (R46). -/
def State.heldSound (s : State) : Prop :=
  (s.ledger.mode = .opened → ∀ k, k < s.cap → s.cardSound k → k ∉ s.ledger.faults →
    (s.card k).held = s.heldOn k ∧ (s.card k).holdCount = (s.slotsOf k).card ∧ (s.card k).holdCount ≤ 8 ∧
    (s.card k).held ≤ (s.card k).balance ∧
    ((s.card k).state ∈ [.blank, .stock, .closed] → (s.card k).holdCount = 0)) ∧
  (s.ledger.mode = .recovering → s.store.signature = true → ∀ k, k < s.recovery.cardCursor → k < s.cap → s.cardSound k →
    k ∉ s.ledger.faults → (s.card k).held = 0 ∧ (s.card k).holdCount = 0)

/-- Holds, money and held amounts are sound. -/
def State.cardsSound (s : State) : Prop := s.modeSound ∧ s.holdsSound ∧ s.moneySound ∧ s.heldSound

/-! ### Shops, payouts and channels -/

/-- The shops named by what may still reach a shop record are shops: bindings, open holds, the capture window, the accrual queue, the
ring's entries that a recovery may replay, and the bank's answers handed on (R33, R34, R113, R142, R165). -/
def State.shopsNamed (s : State) : Prop :=
  (∀ k, k ≤ 511 → (s.binding k).shop ≤ 511) ∧ (∀ j h, (s.holdSlot j).hold = some h → h.shop ≤ 511) ∧
  (∀ r ∈ s.store.window, r.shop ≤ 511) ∧
  (∀ e period source, Accrual.money e period source ∈ s.settle.accruals → ∀ k, e.shop = some k → k ≤ 511) ∧
  (∀ x ∈ s.store.ring, ∀ e, effectOfEntry x.body = some e → ∀ k, e.shop = some k → k ≤ 511) ∧
  (∀ tag shop period, Answer.done tag shop period ∈ s.settle.answers → shop ≤ 511) ∧
  (∀ tag shop period reason, Answer.back tag shop period reason ∈ s.settle.answers → shop ≤ 511)

/-- One CLOSE entry waits exactly while a close is outstanding, for the stored period (R131). Over a store with a signature both
copies of the period are the stored one (R43, R129); no open bank is of a later period (R110); no shop below the sweep cursor is
behind (R138), and none whose closing bank is EMITTED or IN_DOUBT (R118); before the first opening every bank is as FORMAT left it; in
CONFIG an opened store has its numbering spent (R179). -/
def State.periodSound (s : State) : Prop :=
  (s.settle.accruals.filter Accrual.isClose = if s.ledger.closeOutstanding = true then [.close s.store.periodWord] else []) ∧
  (s.store.signature = true →
    s.ledger.period = s.store.periodWord ∧ s.settle.period = s.store.periodWord ∧
    (s.store.periodWord ≠ 0 → ∀ k, k ≤ 511 → (s.shop k).bank.period ≤ s.store.periodWord) ∧
    (∀ k, k < s.settle.cursor → k ≤ 511 → s.behind k = false) ∧
    (∀ k, k ≤ 511 → ((s.shop k).closing.state = .emitted ∨ (s.shop k).closing.state = .inDoubt) → s.behind k = false) ∧
    (s.store.periodWord = 0 → s.settle.unrolled = 0 ∧ s.settle.openPayouts = 0 ∧
      ∀ k, k ≤ 511 → (s.shop k).bank.period = 1 ∧ (s.shop k).closing.state = .none) ∧
    (s.ledger.mode = .config → s.store.periodWord = 0 ∨ 4294967296 ≤ s.store.nextToWrite))

/-- The unrolled count is the number of shops behind (R135), the open payout count the number of shops EMITTED or IN_DOUBT (R134):
in OPEN, and as soon as a recovery pass has made them, which leaves no shop EMITTED (R141). -/
def State.countsSound (s : State) : Prop :=
  s.store.signature = true → (s.ledger.mode = .opened ∨ s.recovery.counted = true) →
    s.settle.unrolled = ((Finset.range 512).filter fun k => s.behind k = true).card ∧
    s.settle.openPayouts = ((Finset.range 512).filter fun k =>
      (s.shop k).closing.state = .emitted ∨ (s.shop k).closing.state = .inDoubt).card ∧
    (s.ledger.mode ≠ .opened → ∀ k, k ≤ 511 → (s.shop k).closing.state ≠ .emitted)

/-- Every FILLED slot is one of the 16 and holds the tag, period and amount of the EMITTED closing bank of its shop; no two hold
one shop; in OPEN every EMITTED shop has one, and outside it none is FILLED (R154, R162). -/
def State.windowSound (s : State) : Prop :=
  (∀ j p, s.slot j = .filled p → s.ledger.mode = .opened ∧ j ≤ 15 ∧ p.shop ≤ 511 ∧ (s.shop p.shop).closing.state = .emitted ∧
    (s.shop p.shop).closing.tag = some p.tag ∧ (s.shop p.shop).closing.period = p.period ∧
    (s.shop p.shop).closing.amount = p.amount) ∧
  (∀ i j p q, s.slot i = .filled p → s.slot j = .filled q → p.shop = q.shop → i = j) ∧
  (s.ledger.mode = .opened → ∀ k, k ≤ 511 → (s.shop k).closing.state = .emitted → ∃ j p, s.slot j = .filled p ∧ p.shop = k)

/-- At most four visits wait, one for each GRANTED slot and for each RUNNING channel, which hold each other (R151, R153); a
channel's pass and its stored setup stay within the shops (R144, R155). -/
def State.visitsSound (s : State) : Prop :=
  s.settle.visits.length ≤ 4 ∧ (s.settle.visits.map Visit.channel).Nodup ∧
  (∀ v ∈ s.settle.visits, v.channel ≤ 3 ∧ v.slot ≤ 15 ∧ v.shop = (s.channel v.channel).cur ∧ s.slot v.slot = .granted v.channel ∧
    (s.channel v.channel).st = .running ∧ (s.channel v.channel).slot = some v.slot) ∧
  (∀ j c, s.slot j = .granted c → ∃ v ∈ s.settle.visits, v.slot = j ∧ v.channel = c) ∧
  (∀ c, c ≤ 3 → (s.channel c).st = .running → ∃ v ∈ s.settle.visits, v.channel = c) ∧
  (∀ c, c ≤ 3 → passWithin (s.channel c).dir (s.channel c).cur (s.channel c).remaining ∧
    passWithin (s.setup c).dir (s.setup c).baseShop (s.setup c).baseCount)
where
  /-- A pass of that many further shops from a shop stays within shops 0 to 511 (R144). -/
  passWithin (dir : Direction) (shop remaining : Nat) : Prop :=
    shop ≤ 511 ∧ match dir with
      | .ascending => shop + remaining ≤ 511
      | .descending => remaining ≤ shop

/-- Periods, counts, payout window and visits are sound. -/
def State.settlementSound (s : State) : Prop :=
  s.modeSound ∧ s.shopsNamed ∧ s.periodSound ∧ s.countsSound ∧ s.windowSound ∧ s.visitsSound

/-! ### What a reset leaves -/

/-- The reset values of the on-chip blocks, and the store and the model's count of warnings (log 42) kept (R20, R46, R53, R69, R71,
R92, R141, R145, R162, R166, R178, R185, R189, R191, R196). -/
def afterReset (cause : ResetCause) (s t : State) : Prop :=
  t.store = s.store ∧ t.time = 0 ∧ t.ledger.mode = .recovering ∧ t.ledger.top = 0 ∧ t.ledger.faults = [] ∧
  t.ledger.faultOverflow = false ∧ t.ledger.closeOutstanding = false ∧
  t.ledger.period = (if s.store.signature then s.store.periodWord else 0) ∧ t.settle.period = t.ledger.period ∧
  (∀ l, t.lane l = Lane.initial) ∧ t.officeLink = OfficeLink.initial ∧ t.payLink = PayLink.initial ∧
  (∀ k, t.holdSlot k = HoldSlot.initial) ∧ t.expiryQ = [] ∧ t.waiting = [] ∧
  t.settle.accruals = [] ∧ t.settle.answers = [] ∧ t.settle.visits = [] ∧ t.settle.cursor = 0 ∧ t.settle.wait = 0 ∧
  (∀ c, c ≤ 3 → t.channel c =
    { Channel.initial with cur := (s.setup c).baseShop, remaining := (s.setup c).baseCount, dir := (s.setup c).dir,
                           mode := (s.setup c).mode, auto := (s.setup c).auto }) ∧
  (∀ k, t.slot k = .free) ∧ t.plu.payList = [] ∧ t.plu.lastGranted = 3 ∧ t.plu.late = 0 ∧ t.plu.stray = 0 ∧
  t.journal.reserved = 0 ∧ t.journal.nextStream = (if s.store.signature then s.store.oldestUnack else 1) ∧
  t.journal.streamOn = false ∧ t.journal.unit = .milliseconds ∧ t.journal.interval = 1000 ∧
  t.settle.unrolled = 0 ∧ t.settle.openPayouts = 0 ∧ t.settle.visitsHigher = true ∧ t.recovery = Recovery.initial ∧
  t.office.inFlight = none ∧ t.office.restartTaken = false ∧ t.office.latch = none ∧ t.office.resetCause = cause ∧
  t.attn = Attention.initial ∧ t.warnings = s.warnings

/-! ### What one commit and one answer leave -/

/-- Next to write passes k entries, and a stream counting entries counts them; the pointers the office moves, the reserved count and
the stream's settings stay (R178, R180, R186). -/
def pointersPass (s t : State) (k : Nat) : Prop :=
  t.store.nextToWrite = s.store.nextToWrite + k ∧ t.store.oldestUnack = s.store.oldestUnack ∧
  t.journal.reserved = s.journal.reserved ∧ t.journal.nextStream = s.journal.nextStream ∧
  t.journal.streamOn = s.journal.streamOn ∧ t.journal.unit = s.journal.unit ∧ t.journal.interval = s.journal.interval ∧
  t.journal.streamCount =
    (if s.journal.streamOn = true ∧ s.journal.unit = .entries then s.journal.streamCount + k else s.journal.streamCount)

/-- A grant of n reservations takes unacknowledged plus reserved from below 16,336 to 16,336 or above while JOURNAL_FULL is not held
(R181). -/
def fullRaised (s : State) (n : Nat) : Bool :=
  decide (s.unack + s.journal.reserved < 16336) && decide (16336 ≤ s.unack + s.journal.reserved + n) && !s.journal.fullHeld

/-- k appended entries take the unacknowledged count from below 12,288 to 12,288 or above while JOURNAL_HIGH is not held (R181). -/
def highRaised (s : State) (k : Nat) : Bool :=
  decide (s.unack < 12288) && decide (12288 ≤ s.unack + k) && !s.journal.highHeld

/-- The journal's two attentions after a grant of n reservations and k appends: JOURNAL_FULL and JOURNAL_HIGH are raised, and held as
given, exactly when their mark is crossed (R181). -/
def marksFollow (s t : State) (n k : Nat) : Prop :=
  t.journal.fullHeld = (s.journal.fullHeld || fullRaised s n) ∧
  t.attn.pending.getLsbD 4 = (s.attn.pending.getLsbD 4 || fullRaised s n) ∧
  t.journal.highHeld = (s.journal.highHeld || highRaised s k) ∧
  t.attn.pending.getLsbD 5 = (s.attn.pending.getLsbD 5 || highRaised s k)

/-- One entry joins the ring, numbered next to write and stamped with the Time Base and a period (R177, R178). -/
def entryJoins (s t : State) (period : Nat) (body : EntryBody) : Prop :=
  t.store.ring =
    ({ seq := s.store.nextToWrite, time := s.time, period := period, body := body } :: s.store.ring).take Config.ringMax ∧
  pointersPass s t 1

/-- One reservation is granted and used by one entry, and the journal's attentions follow (R180, R181). -/
def oneEntry (s t : State) (period : Nat) (body : EntryBody) : Prop := entryJoins s t period body ∧ marksFollow s t 1 1

/-- No pending flag falls, and only the listed sources may rise (R191). -/
def onlyRaises (s t : State) (sources : List Nat) : Prop :=
  ∀ n, (s.attn.pending.getLsbD n = true → t.attn.pending.getLsbD n = true) ∧
    (n ∉ sources → t.attn.pending.getLsbD n = s.attn.pending.getLsbD n)

/-- The lane whose head has been taken and answered: ANSWERED and ready, or in DOWN removed (R7, R11, R13). -/
def answeredLane (v : Lane) (a : LaneAnswer) : Lane :=
  if v.rx = .down then { v with queue := dropTaken (takeFirst v.queue) }
  else { v with queue := answerTaken a (takeFirst v.queue), ready := v.ready ++ [.answer] }

/-- Lane l's head is answered, the other lanes stay, and the requester after l stands highest (R11, R48). -/
def laneAnswered (s t : State) (l : Nat) (a : LaneAnswer) : Prop :=
  t.lane l = answeredLane (s.lane l) a ∧ (∀ k, k ≠ l → t.lane k = s.lane k) ∧ t.ledger.top = (l + 1) % 5

/-- The answer to a lane request with the fields of a reply: address, tag and kind echoed (R50, 12.2). -/
def laneReply (e : LaneEntry) (result : LaneResult) (approved available holdRef captureRef : Option Nat) : LaneAnswer :=
  { terminal := fieldAt e.body 0 1, tag := fieldAt e.body 1 2, kind := e.kind, result := result, approved := approved,
    available := available, holdRef := holdRef, captureRef := captureRef }

/-- Only what a Card Ledger commit for a lane or an expiry writes may differ: the card, the totals, the capture window, the
hold table and its queues, the journal, the accrual queue, the lane and the arbiter's rotation. -/
def cardCommitFrame (s t : State) : Prop :=
  { t with lanes := s.lanes, ledger.top := s.ledger.top, holds := s.holds, expiryQ := s.expiryQ, waiting := s.waiting,
           store.cards := s.store.cards, store.totals := s.store.totals, store.window := s.store.window,
           store.ring := s.store.ring, store.nextToWrite := s.store.nextToWrite, settle.accruals := s.settle.accruals,
           journal := s.journal, attn.pending := s.attn.pending } = s

/-- One card record is the given one, every other is as before. -/
def cardWritten (s t : State) (serial : Nat) (r : CardRecord) : Prop :=
  t.card serial = r ∧ ∀ k, k ≠ serial → t.card k = s.card k

/-- One shop record is the given one, every other is as before. -/
def shopWritten (s t : State) (k : Nat) (r : ShopRecord) : Prop := t.shop k = r ∧ ∀ j, j ≠ k → t.shop j = s.shop j

/-- No hold and no queue of holds is touched. -/
def holdsKept (s t : State) : Prop := t.holds = s.holds ∧ t.expiryQ = s.expiryQ ∧ t.waiting = s.waiting

/-- The hold slot is the given one, every other is as before. -/
def holdSlotWritten (s t : State) (k : Nat) (v : HoldSlot) : Prop :=
  t.holdSlot k = v ∧ ∀ j, j ≠ k → t.holdSlot j = s.holdSlot j

/-- The hold in a slot has ended: end memory, next generation, out of the expiry queue and the waiting requests (R74). -/
def holdEnded (slot gen : Nat) (cause : EndCause) (s t : State) : Prop :=
  holdSlotWritten s t slot { gen := (gen + 1) % 32, hold := none, memory := some (gen, cause) } ∧
  t.expiryQ = s.expiryQ.filter (fun it => decide (it.slot ≠ slot)) ∧
  t.waiting = s.waiting.filter (fun it => decide (it.slot ≠ slot))

/-- A lane request completes with a commit: the card, the totals, the capture window, what it does to the holds, the accruals it
pushes, its one journal entry, its answer; and nothing else changes but JOURNAL_FULL and JOURNAL_HIGH (R49). -/
def laneCommit (i : Instr) (s : State) (l serial : Nat) (c : CardRecord) (totals : Totals) (window : List CaptureRecord)
    (holds : State → State → Prop) (accruals : List Accrual) (body : EntryBody) (a : LaneAnswer) : Prop :=
  ∃ t, exec i s = .next t ∧ cardWritten s t serial c ∧ t.store.totals = totals ∧ t.store.window = window ∧ holds s t ∧
    t.settle.accruals = s.settle.accruals ++ accruals ∧ oneEntry s t s.ledger.period body ∧ laneAnswered s t l a ∧
    onlyRaises s t [4, 5] ∧ cardCommitFrame s t

/-- An office card request completes with a commit: the card, the totals, the accruals, one entry, lane 0 highest; then the
answer DONE without data, and nothing else changes but JOURNAL_FULL and JOURNAL_HIGH (R48, R49). -/
def officeCommit (i : Instr) (s : State) (serial : Nat) (c : CardRecord) (totals : Totals) (accruals : List Accrual)
    (body : EntryBody) : Prop :=
  ∃ m : State, exec i s = .next (m.done []) ∧ cardWritten s m serial c ∧ m.store.totals = totals ∧
    m.store.window = s.store.window ∧ holdsKept s m ∧ m.lanes = s.lanes ∧ m.ledger.top = 0 ∧
    m.settle.accruals = s.settle.accruals ++ accruals ∧ oneEntry s m s.ledger.period body ∧ onlyRaises s m [4, 5] ∧
    cardCommitFrame s m

/-- In OPEN the serial has an enabled program and its record, not on the fault list, is sound (R24, R52, R61). -/
def soundCard (s : State) (serial prog : Nat) (card : CardRecord) : Prop :=
  s.ledger.mode = .opened ∧ s.lookup serial = some prog ∧ serial ∉ s.ledger.faults ∧ s.card serial = card ∧
  faulty card (some prog) = false

/-- The lane request as the Card Ledger decides it. -/
def requestOf (l : Nat) (e : LaneEntry) : LaneReq := { lane := l, kind := e.kind, body := e.body }

/-! ### The checks of the lane requests, in their order (R38, R51, R81, R97) -/

/-- The first check of a list that fails names the decline or the refusal; none when all pass (R51, R61). -/
def firstFailing {α : Type} : List (Bool × α) → Option α
  | [] => none
  | (passed, decline) :: rest => if passed then firstFailing rest else some decline

/-- An amount of 1 to 10,000,000 cents (R51). -/
def amountInRange (amount : Nat) : Bool := decide (0 < amount ∧ amount ≤ 10000000)

/-- A card record can be read: its serial is not on the fault list and the read is no fault (R52). -/
def readable (s : State) (serial : Nat) (expected : Option Nat) : Bool :=
  decide (serial ∉ s.ledger.faults) && !faulty (s.card serial) expected

/-- The checks every lane request meets first: fields, binding, ledger OPEN, shop admission (R34, R38, R51). A VACANT shop is closed
to all, a DEPARTED one to sales and spending; the debt bar stops sales. A check behind a failed lookup is never reached. -/
def frontChecks (s : State) (l : Nat) (b : List Byte) (fieldsOk sale spend : Bool) : List (Bool × LaneResult) :=
  let shop := s.shop ((s.boundShop l (fieldAt b 0 1)).getD 0)
  [(fieldsOk, .badRequest), ((s.boundShop l (fieldAt b 0 1)).isSome, .unknownTerminal),
    (decide (s.ledger.mode = .opened), .notOpen),
    (decide (shop.office ≠ .vacant) && !(decide (shop.office = .departed) && (sale || spend)), .shopClosed),
    (decide (shop.office ≠ .frozen), .shopFrozen), (!(sale && shop.debtBar), .shopBarred)]

/-- The checks of a request that names a card by serial, up to its code: the front, program lookup, record, acceptance map, card
state, code (R24, R29, R31, R51, R54, R81). -/
def serialChecks (s : State) (l : Nat) (b : List Byte) (fieldsOk sale spend : Bool) (accepts : AcceptRow → Nat → Bool)
    (stateOk : CardRecord → Bool) : List (Bool × LaneResult) :=
  let shop := (s.boundShop l (fieldAt b 0 1)).getD 0
  let prog := (s.lookup (fieldAt b 3 3)).getD 0
  let card := s.card (fieldAt b 3 3)
  frontChecks s l b fieldsOk sale spend ++
    [((s.lookup (fieldAt b 3 3)).isSome, .noCard), (readable s (fieldAt b 3 3) (s.lookup (fieldAt b 3 3)), .recordFault),
      (accepts (s.acceptRow (shop / 16)) prog, .notAccepted), (stateOk card, .cardState),
      (decide (card.code = some (fieldAt b 6 2)), .badCode)]

/-- The checks of CAPTURE or VOID behind the front, by what the hold reference resolves to (R72, R81, R85, R88). `amount` is
CAPTURE's; VOID has none. -/
def holdChecks (s : State) (shop ref : Nat) (amount : Option Nat) : List (Bool × LaneResult) :=
  let range := (amount.map fun a => (amountInRange a, LaneResult.badAmount)).toList
  match s.resolveHold ref with
  | .active _ _ hold =>
    (readable s hold.card (s.rangeProgram hold.card), .recordFault) :: range ++
      (decide (shop = hold.shop), .wrongShop) ::
        (amount.map fun a => (decide (a ≤ hold.amount), LaneResult.badAmount)).toList ++
        [(s.canReserve .general 1, .journalFull)]
  | .ended cause => range ++ [(false, if cause = .expired then .holdExpired else .holdEnded)]
  | .unknown => range ++ [(false, .holdUnknown)]

/-- The checks of REFUND behind the front (R97 to R103). -/
def refundChecks (s : State) (shop ref amount : Nat) : List (Bool × LaneResult) :=
  match s.store.window.find? fun r => r.ref == ref with
  | none => [(amountInRange amount, .badAmount), (false, .refundUnknown)]
  | some rec =>
    let card := s.card rec.card
    [(decide (rec.card < s.cap), .noCard), (readable s rec.card (s.rangeProgram rec.card), .recordFault),
      (amountInRange amount, .badAmount),
      (decide (s.ledger.period ≤ rec.period + (s.program rec.program).refundWindow), .refundTooOld),
      (decide (shop = rec.shop) ||
        ((s.acceptRow (shop / 16)).xe.getLsbD rec.program && (s.acceptRow (shop / 16)).re.getLsbD rec.program),
        .refundElsewhere),
      (decide (card.state = .active ∨ card.state = .suspended), .cardState),
      (decide (rec.refunded + amount ≤ rec.captured), .refundExceeds),
      (decide (card.balance + amount ≤ 2147483647), .limit), (s.canReserve .general 1, .journalFull)]

/-- The whole list of checks of each lane request kind, in order (R51, R55 to R59, R81, R82, R85, R88, R97). -/
def laneChecks (s : State) (l kind : Nat) (b : List Byte) : List (Bool × LaneResult) :=
  let codeOk := decide (fieldAt b 6 2 ≤ 9999)
  let partOk := decide (fieldAt b 12 1 ≤ 1)
  let card := s.card (fieldAt b 3 3)
  let prog := s.program ((s.lookup (fieldAt b 3 3)).getD 0)
  let shop := (s.boundShop l (fieldAt b 0 1)).getD 0
  let amount := fieldAt b 8 4
  let isActive := fun c : CardRecord => decide (c.state = .active)
  let funds := decide (amount ≤ card.balance - card.held) ||
    (decide (fieldAt b 12 1 = 1) && decide (0 < card.balance - card.held))
  let room := (s.canReserve .general 1, LaneResult.journalFull)
  match kind with
  | 0x10 =>
    serialChecks s l b codeOk true false (fun a p => a.le.getLsbD p)
        (fun c => decide (c.state = .stock ∧ c.failures < 3)) ++
      [(amountInRange amount, .badAmount),
        (decide (prog.activationMin ≤ amount ∧ amount ≤ prog.loadLimit), .limit), room]
  | 0x11 =>
    serialChecks s l b codeOk true false (fun a p => a.le.getLsbD p) isActive ++
      [(amountInRange amount, .badAmount), (decide (card.balance + amount ≤ prog.loadLimit), .limit), room]
  | 0x12 => serialChecks s l b codeOk false false (fun a p => a.re.getLsbD p || a.le.getLsbD p) isActive
  | 0x13 =>
    serialChecks s l b (codeOk && partOk) false true (fun a p => a.re.getLsbD p) isActive ++
      [(amountInRange amount, .badAmount), (decide (card.holdCount < prog.maxHolds), .holdsFull),
        ((List.range 2048).any (fun k => (s.holdSlot k).hold.isNone), .holdsFull), (funds, .insufficient), room]
  | 0x14 => frontChecks s l b true false true ++ holdChecks s shop (fieldAt b 3 2) (some (fieldAt b 5 4))
  | 0x15 => frontChecks s l b true false false ++ holdChecks s shop (fieldAt b 3 2) none
  | 0x16 =>
    serialChecks s l b (codeOk && partOk) false true (fun a p => a.re.getLsbD p) isActive ++
      [(amountInRange amount, .badAmount), (funds, .insufficient), room]
  | 0x17 => frontChecks s l b true false false ++ refundChecks s shop (fieldAt b 3 4) (fieldAt b 7 4)
  | 0x18 =>
    serialChecks s l b codeOk false true (fun a p => a.re.getLsbD p) isActive ++
      [(decide (card.holdCount = 0), .holdsFull), (decide (0 < card.balance ∧ card.balance ≤ prog.ceiling), .limit), room]
  | _ => []

/-- The card a lane request names: by its serial, by the open hold of its reference, or by its capture record (R52, R81, R98). -/
def namedCard (s : State) (kind : Nat) (b : List Byte) : Nat :=
  match kind with
  | 0x14 => heldCard
  | 0x15 => heldCard
  | 0x17 => ((s.store.window.find? fun r => r.ref == fieldAt b 3 4).map CaptureRecord.card).getD 0
  | _ => fieldAt b 3 3
where
  /-- The card of the open hold a reference names. -/
  heldCard : Nat :=
    match s.resolveHold (fieldAt b 3 2) with
    | .active _ _ hold => hold.card
    | _ => 0

/-- The command that takes each lane request kind (12.2). -/
def laneCommands : List (Instr × Nat) :=
  [(.activate, 0x10), (.load, 0x11), (.balance, 0x12), (.authorize, 0x13), (.capture, 0x14), (.void, 0x15), (.redeem, 0x16),
    (.refund, 0x17), (.cashout, 0x18)]

/-- A record fault on a serial has been noted: a serial not listed joins the fault list, or sets the overflow flag of a full one,
and RECORD_FAULT is raised; for a listed serial nothing happens (R52, R53). -/
def faultNoted (s t : State) (serial : Nat) : Prop :=
  t.ledger.faults =
    (if serial ∉ s.ledger.faults ∧ s.ledger.faults.length < 16 then s.ledger.faults ++ [serial] else s.ledger.faults) ∧
  t.ledger.faultOverflow =
    (s.ledger.faultOverflow || (decide (serial ∉ s.ledger.faults) && decide (16 ≤ s.ledger.faults.length))) ∧
  (serial ∉ s.ledger.faults → t.attn.pending.getLsbD 0 = true)

/-- The record that REWRITE_CARD supplies keeps every condition on its fields; how the fields of a BLANK record are read, and that a
record in another state needs a code, is the model's choice (R68, log 20). -/
def suppliedSound (r : CardRecord) (prog : Nat) : Prop :=
  (r.state ≠ .blank → r.program = some prog ∧ ∃ code ∈ r.code, code ≤ 9999) ∧
  (r.state = .blank → r.program = none ∧ r.code = none ∧ r.issuing = none ∧ r.activation = none ∧ r.lastUse = none) ∧
  (r.state = .blank ∨ r.state = .stock ∨ r.state = .closed → r.balance = 0) ∧
  r.balance ≤ 2147483647 ∧ r.failures ≤ 3 ∧ (r.suspend.isSome = true ↔ r.state = .suspended)

/-- The supplied record would take a card out of CLOSED (R42). -/
def leavesClosed (card supplied : CardRecord) : Prop := card.state = .closed ∧ supplied.state ≠ .closed

/-- The checks of each office card request that names a card, and of READ_TOTALS, in order: the ledger state, the program lookup, the
field values and the card's state, and for a committing request the reservation (R43, R49, R60 to R67). For a request that needs a sound
record the check of the record stands behind the lookup. CLOSE_CARD taken with a full accrual queue is refused before all of them (R48);
REWRITE_CARD's further checks are in `suppliedSound`. -/
def officeChecks (s : State) (kind : Nat) (b : List Byte) : List (Bool × OfficeCode) :=
  let serial := fieldAt b 2 3
  let card := s.card serial
  let amount := fieldAt b 6 4
  let inOpen := (decide (s.ledger.mode = .opened), OfficeCode.wrongState)
  let canRead := (decide (s.ledger.mode = .opened) || (decide (s.ledger.mode = .config) && s.store.signature),
    OfficeCode.wrongState)
  let known := ((s.lookup serial).isSome, OfficeCode.badValue)
  let sound := (readable s serial (s.lookup serial), OfficeCode.wrongState)
  let room := (s.canReserve .general 1, OfficeCode.journalFull)
  let running := (decide (card.state = .active ∨ card.state = .suspended), OfficeCode.wrongState)
  match kind with
  | 0x40 => [canRead]
  | 0x48 => [canRead, known]
  | 0x49 =>
    [inOpen, known, sound, running,
      (decide (card.state = .suspended ∧ card.suspend = some .office) || s.canReserve .general 1, .journalFull)]
  | 0x4A =>
    [inOpen, known, sound, (decide (card.state = .suspended ∨ (card.state = .stock ∧ card.failures = 3)), .wrongState), room]
  | 0x4B =>
    [(decide (s.settle.accruals.length < 16), .journalFull), inOpen, known, sound,
      (decide (card.state ≠ .blank ∧ card.state ≠ .closed), .wrongState), (decide (card.holdCount = 0), .holdsOpen), room]
  | 0x4C =>
    [inOpen, known, sound, (decide (fieldAt b 5 2 ≤ 9999), .badValue), (decide (card.state = .blank), .wrongState), room]
  | 0x4D =>
    [inOpen, known, sound, (decide (fieldAt b 5 1 ≤ 1), .badValue), (amountInRange amount, .badValue), running,
      (decide (fieldAt b 5 1 = 1 ∨ card.balance + amount ≤ 2147483647), .badValue),
      (decide (fieldAt b 5 1 = 0 ∨ amount ≤ card.balance - card.held), .insufficient), room]
  | 0x4E => [inOpen, known]
  | _ => []

/-- The command that takes each office card request kind `officeChecks` lists (12.2). -/
def officeCardCommands : List (Instr × Nat) :=
  [(.readTotals, 0x40), (.readCard, 0x48), (.suspend, 0x49), (.resume, 0x4A), (.closeCard, 0x4B), (.provision, 0x4C),
    (.adjust, 0x4D), (.rewriteCard, 0x4E)]

/-- An office card request that needs a sound record comes to it and finds its serial on the fault list or its record faulty (R52,
R61). -/
def recordFaults (s : State) (kind : Nat) (b : List Byte) : Prop :=
  kind ∈ [0x49, 0x4A, 0x4B, 0x4C, 0x4D] ∧ (kind = 0x4B → s.settle.accruals.length < 16) ∧ s.ledger.mode = .opened ∧
  ∃ prog, s.lookup (fieldAt b 2 3) = some prog ∧ readable s (fieldAt b 2 3) (some prog) = false

/-- SETTLE_FAULT is pending after exactly when it was before or a saturation raised it (R111, R117, R124, R126). -/
def settleFault (s t : State) (saturated : Bool) : Prop :=
  t.attn.pending.getLsbD 1 = (s.attn.pending.getLsbD 1 || saturated)

/-- A signed 64-bit house field would leave its range (R111). -/
def houseIntFull (v : Int) : Bool := decide (9223372036854775807 < v) || decide (v < -9223372036854775808)

/-- A roll of shop k saturates the carry or a house field (R111, R124, R125). -/
def rollFull (s : State) (k : Nat) : Bool :=
  (s.rollFor k).clamped || houseIntFull (s.store.houseRec.commission + (s.rollFor k).entry.commission) ||
    (s.store.house.has k && houseIntFull (s.store.houseRec.net + (s.rollFor k).entry.net))

/-- The house record after a roll of a shop inside or outside the house range: each field stops at the end of its signed 64-bit
range, and the flag is set when one does (R111, R125, R127). -/
def houseAfter (h : HouseRecord) (house : Bool) (k n : Int) : HouseRecord :=
  { h with
    commission := max (-9223372036854775808) (min 9223372036854775807 (h.commission + k)),
    net := if house then max (-9223372036854775808) (min 9223372036854775807 (h.net + n)) else h.net,
    sat := h.sat || (decide (9223372036854775807 < h.commission + k) || decide (h.commission + k < -9223372036854775808)
      || (house && (decide (9223372036854775807 < h.net + n) || decide (h.net + n < -9223372036854775808)))) }

/-- Only what Settlement Unit and Payout Link Unit work writes may differ: shop records, house record, next tag, journal, the
Settlement Unit's registers and queues, the payout window, the channels. -/
def settleFrame (s t : State) : Prop :=
  { t with settle := s.settle, channels := s.channels, plu := s.plu, store.shops := s.store.shops,
           store.houseRec := s.store.houseRec, store.nextTag := s.store.nextTag, store.ring := s.store.ring,
           store.nextToWrite := s.store.nextToWrite, journal := s.journal, attn.pending := s.attn.pending } = s

/-! ### Settlement, channels, office -/

/-- No entry joins the ring, and the pointers, the reserved count and the stream's count stay. -/
def noEntry (s t : State) : Prop := t.store.ring = s.store.ring ∧ pointersPass s t 0

/-- The sweep wait count after one piece of work of classes 1 to 3 (R137). -/
def waitAfter (s : State) : Nat := if s.sweepEligible = true then min 8 (s.settle.wait + 1) else s.settle.wait

/-- The state in which the Settlement Unit serves an office shop request: the wait count noted, visits standing higher (R137). -/
def requestServed (s : State) : State :=
  { s with settle := { s.settle with wait := waitAfter s, visitsHigher := true } }

/-- An office shop request of a kind is at its turn in class 3, and the store has a signature (R137, R187). -/
def shopRequestServed (s : State) (kind : Nat) (b : List Byte) : Prop :=
  s.officeBody kind = some b ∧ s.nextWork = some .request ∧ s.store.signature = true

/-- An effect on shop k takes its open bank to the given one; whether an accumulator stopped at 2^47 − 1 (R115, R117). -/
def accrues (b : OpenBank) (e : Effect) (k : Nat) (after : OpenBank) (full : Bool) : Prop :=
  match e with
  | .sold j a => j = k ∧ after = { b with s := min 140737488355327 (b.s + a) } ∧ full = decide (140737488355327 < b.s + a)
  | .redeemed j a rate =>
    j = k ∧ after = { b with g := min 140737488355327 (b.g + a), q := b.q + (a : Int) * rate } ∧
      full = decide (140737488355327 < b.g + a)
  | .refunded j a rate =>
    j = k ∧ after = { b with f := min 140737488355327 (b.f + a), q := b.q - (a : Int) * rate } ∧
      full = decide (140737488355327 < b.f + a)
  | .cashed j a => j = k ∧ after = { b with x := min 140737488355327 (b.x + a) } ∧ full = decide (140737488355327 < b.x + a)
  | .unclaimed _ => False

/-- A shop record with its bank after an accrual; saturation sets its flag and freezes the shop (R117). -/
def accruedShop (r : ShopRecord) (bank : OpenBank) (full : Bool) : ShopRecord :=
  { r with bank := bank, sat := r.sat || full, office := if full then .frozen else r.office }

/-- A shop record after a returned payout: RETURNED, the amount in the carry within its range (R126, R169). -/
def returnedShop (r : ShopRecord) : ShopRecord :=
  { r with closing := { r.closing with state := .returned },
           carry := max (-140737488355327) (min 140737488355327 (r.carry + r.closing.amount)),
           sat := r.sat || carryFull (r.carry + r.closing.amount),
           office := if carryFull (r.carry + r.closing.amount) then .frozen else r.office }
where
  /-- The carry lies outside its range (R124). -/
  carryFull (c : Int) : Bool := decide (140737488355327 < c) || decide (c < -140737488355327)

/-- A house record after a settled payout (R111, R168). -/
def settledHouse (h : HouseRecord) (amount : Nat) : HouseRecord :=
  { h with settled := min 9223372036854775807 (h.settled + amount),
           sat := h.sat || decide (9223372036854775807 < h.settled + amount) }

/-- A channel whose position is ready goes to the walking state of its mode (R146). -/
def walking (v : Channel) : Channel :=
  { v with st := match v.mode with
      | .block => .waitSlot
      | .single => .waitStep
      | .demand => if 0 < v.credit then .waitSlot else .waitPull }

/-- One slot of the payout window is the given one, every other is as before. -/
def slotWritten (s t : State) (k : Nat) (v : Slot) : Prop := t.slot k = v ∧ ∀ j, j ≠ k → t.slot j = s.slot j

/-- One channel is the given one, every other is as before. -/
def channelWritten (s t : State) (c : Nat) (v : Channel) : Prop := t.channel c = v ∧ ∀ j, j ≠ c → t.channel j = s.channel j

/-- Slot k is the lowest that is FILLED with a tag (R167). -/
def filledFirst (s : State) (k tag : Nat) (p : Payout) : Prop :=
  k ≤ 15 ∧ s.slot k = .filled p ∧ p.tag = tag ∧ ∀ j q, j < k → s.slot j = .filled q → q.tag ≠ tag

/-- No slot is FILLED with a tag (R167). -/
def notFilled (s : State) (tag : Nat) : Prop := ∀ j q, j ≤ 15 → s.slot j = .filled q → q.tag ≠ tag

/-- An answer of the bank matches a FILLED slot or, late, an IN_DOUBT shop, so that it commits; over a blank store none does
(R165, R167). -/
def answerMatches (s : State) (tag shop period : Nat) : Prop :=
  s.store.signature = true ∧
  ((∃ k p, filledFirst s k tag p ∧ p.shop = shop ∧ p.period = period) ∨
    (notFilled s tag ∧ (s.shop shop).closing.state = .inDoubt ∧ (s.shop shop).closing.period = period ∧
      (s.shop shop).closing.tag = some tag))

/-- The recovery passes run (R46, R141, R143). -/
def passes (s : State) : Prop := s.ledger.mode = .recovering ∧ s.pfw = false ∧ s.store.signature = true

/-- The oldest entry above the accrual mark that posts an accrual, and that accrual (R142). -/
def replayNext (s : State) (e : JournalEntry) (eff : Effect) : Prop :=
  ∃ newer older, s.store.ring = newer ++ e :: older ∧ s.store.houseRec.mark < e.seq ∧ effectOfEntry e.body = some eff ∧
    ∀ x ∈ older, s.store.houseRec.mark < x.seq → effectOfEntry x.body = none

/-- The work the Settlement Unit has in hand rolls shop k first if it is behind, under n reservations in all: the accrual or the visit
at the head, SET_SHOP or SNAP_SHOP at its turn, or in recovery the entry to replay (R136, R142, R153). -/
def rollsFirst (s : State) (k n : Nat) : Prop :=
  (s.nextWork = some .accrual ∧ n = 1 ∧
    ∃ e period source rest, s.settle.accruals = .money e period source :: rest ∧ e.shop = some k) ∨
  (s.nextWork = some .visit ∧ n = 2 ∧ ∃ v rest, s.settle.visits = v :: rest ∧ v.shop = k) ∨
  (s.nextWork = some .request ∧ n = 1 ∧ k ≤ 511 ∧ ∃ b, fieldAt b 2 2 = k ∧
    (s.officeBody 0x51 = some b ∨ (s.officeBody 0x52 = some b ∧ fieldAt b 4 1 ≤ 3))) ∨
  (passes s ∧ n = 1 ∧ (∀ j, j ≤ 511 → (s.shop j).closing.state ≠ .emitted) ∧
    ∃ e eff, replayNext s e eff ∧ eff.shop = some k)

/-- At the end of recovery, after k appends under as many reservations, JOURNAL_HIGH and JOURNAL_FULL stand as the ring stands, and
are raised where it stands at its mark and by no other cause than those appends (R181). -/
def rearmed (s t : State) (k : Nat) : Prop :=
  t.journal.highHeld = decide (12288 ≤ t.unack) ∧ t.journal.fullHeld = decide (16336 ≤ t.unack + t.journal.reserved) ∧
  t.attn.pending.getLsbD 5 = (s.attn.pending.getLsbD 5 || highRaised s k || decide (12288 ≤ t.unack)) ∧
  t.attn.pending.getLsbD 4 = (s.attn.pending.getLsbD 4 || fullRaised s k || decide (16336 ≤ t.unack + t.journal.reserved))

/-- Nothing is left to doubt or to replay (R141, R142). -/
def passesDone (s : State) : Prop :=
  (∀ k, k ≤ 511 → (s.shop k).closing.state ≠ .emitted) ∧
  ∀ x ∈ s.store.ring, s.store.houseRec.mark < x.seq → effectOfEntry x.body = none

/-- The Settlement Unit's registers once the recovery pass has made its counts: made from the records by the first command that
finds no shop EMITTED, if they have not been (R134, R135, R141, log 25). -/
def countedSettle (s : State) : Settle :=
  if s.recovery.counted = true then s.settle
  else
    { s.settle with
      unrolled := ((List.range 512).filter fun j => decide ((s.shop j).bank.period < s.settle.period)).length,
      openPayouts := ((List.range 512).filter fun j => decide ((s.shop j).closing.state = .inDoubt)).length }

/-- PAYOUT_IN_DOUBT, where making the counts raises it: the pass made a shop IN_DOUBT (R141). -/
def countSources (s : State) : List Nat := if s.recovery.counted = false ∧ 0 < s.recovery.doubted then [2] else []

/-- The sources that making the counts raises are pending. -/
def countsRaised (s t : State) : Prop := ∀ n ∈ countSources s, t.attn.pending.getLsbD n = true

/-- The counts are made if they have not been, and nothing else happens (R141, log 25). -/
def onlyCounts (s t : State) : Prop :=
  t.settle = countedSettle s ∧ t.recovery = { s.recovery with counted := true } ∧ countsRaised s t ∧
  onlyRaises s t (countSources s) ∧ { t with settle := s.settle, recovery := s.recovery, attn.pending := s.attn.pending } = s

/-- Recovery ends without an entry, the counts made (R47, R141, R181). -/
def endsInConfig (s t : State) : Prop :=
  t.ledger = { s.ledger with mode := .config } ∧ t.settle = countedSettle s ∧
  t.recovery = { s.recovery with counted := true } ∧ countsRaised s t ∧ noEntry s t ∧ rearmed s t 0 ∧
  onlyRaises s t (countSources s ++ [4, 5]) ∧
  { t with ledger := s.ledger, settle := s.settle, recovery := s.recovery, journal := s.journal,
           attn.pending := s.attn.pending } = s

end Sys2Proof.Machine
end

