-- ==== Sys2Proof/Certificates/Slice0/Obligations.lean ====
section
/-! DEFINITION. The statements for the provers, chapter by chapter. A sources list as in [4, 5] names attention sources by number
(11.3): 1 SETTLE_FAULT, 2 PAYOUT_IN_DOUBT, 3 PAYOUT_RETURNED, 4 JOURNAL_FULL, 5 JOURNAL_HIGH, 6 LANE_DOWN, 7 CHANNEL_TC. A
conjunct { t with f := s.f, ... } = s is the frame: every field not named in it is as before. Wherever an entry is appended
(`oneEntry`, `entryJoins`, `pointersPass`, `marksFollow`), the pointers, the stream's count and the attentions JOURNAL_HIGH and JOURNAL_FULL
move as R177, R178, R180, R181 and R186 say. -/

open Sys2Proof Sys2Proof.Machine

/-! ### The machine -/

/-- A step runs the command at the front of the queue on the state with the queue's rest. -/
def Obligations.StepRunsTheFrontCommand : Prop :=
  ∀ (c : Instr) (rest : List Instr) (s : State),
    step { s with pending := c :: rest } = exec c { s with pending := rest }

/-- On an empty queue a step is one millisecond of the Time Base, counted by a stream in milliseconds (R69, R186). That the tick
is the step on an empty queue is the model's choice (log 2). -/
def Obligations.IdleStepIsOneMillisecond : Prop :=
  ∀ s : State, s.pending = [] →
    step s = .next
      { s with
        time := s.time + 1,
        journal.streamCount :=
          if s.journal.streamOn = true ∧ s.journal.unit = .milliseconds then s.journal.streamCount + 1
          else s.journal.streamCount }

/-- The state right after power-on holds the reset value the spec gives every on-chip block. The blank store and the capacity
are the model's choice (log 8, log 9). -/
def Obligations.ResetStateHoldsTheResetValues : Prop :=
  afterReset .powerOn State.reset State.reset ∧ State.reset.pending = [] ∧ State.reset.journal.streamCount = 0 ∧
    State.reset.ledger.formatting = false

/-- Power-on reset, release of the warning and the restart of a RESTART request put every on-chip block at its reset value, keep
the store and name their cause; power-on alone samples the capacity (R20, R145, R196 to R198). That the line is clear after
power-on (log 11), what RESTART_PERFORMED stands for (log 30) and that no reset falls between the two writes of one piece of work
(log 45) are the model's choice; that a reset cuts a frame on a line is its inference (log 32). -/
def Obligations.ResetsKeepTheStore : Prop :=
  (∀ (c : Capacity) (s : State), ∃ t, exec (.powerOnReset c) s = .next t ∧ afterReset .powerOn s t ∧ t.cap = c.cards ∧
    t.pfw = false ∧ t.pending = s.pending) ∧
  (∀ s : State, s.pfw = true → ∃ t, exec .pfwRelease s = .next t ∧ afterReset .powerFail s t ∧ t.cap = s.cap ∧
    t.pfw = false ∧ t.pending = s.pending) ∧
  (∀ s : State, s.sendingRestartAnswer = true → ∃ t, exec .restartPerformed s = .next t ∧ afterReset .restart s t ∧
    t.cap = s.cap ∧ t.pfw = s.pfw ∧ t.pending = s.pending)

/-- Asserting the warning changes the line and stops a running FORMAT; where the work in hand rolls a shop first, the warning may
fall after that roll's write, which is then whole in the store with its ROLL entry while what follows it is not made and the
accrual mark stays; while the warning is asserted no command writes the ledger store (R44, R128, R136, R198). Where it falls is
a free value of the model (log 42). -/
def Obligations.TheWarningFallsBetweenWrites : Prop :=
  (∀ s : State, (∀ k n, rollsFirst s k n → s.behind k = false ∨ s.canReserve .general n = false) →
    exec .pfwAssert s = .next { s with pfw := true, ledger.formatting := false, warnings := s.warnings + 1 }) ∧
  (∀ (s : State) (k n : Nat), rollsFirst s k n → (s.shop k).bank.period < s.settle.period → s.canReserve .general n = true →
    (s.ledger.mode = .recovering → s.recovery.counted = true) →
    ∃ m : State,
      exec .pfwAssert s = .next { m with pfw := true, ledger.formatting := false, warnings := s.warnings + 1 } ∧
      (m = s ∨
        (shopWritten s m k (s.rollFor k).shop ∧
          m.store.houseRec =
            houseAfter s.store.houseRec (s.store.house.has k) (s.rollFor k).entry.commission (s.rollFor k).entry.net ∧
          entryJoins { s with journal.reserved := s.journal.reserved + (n - 1) } m s.settle.period (.roll (s.rollFor k).entry) ∧
          marksFollow s m n 1 ∧
          m.settle = { s.settle with unrolled := s.settle.unrolled - 1 } ∧ settleFault s m (rollFull s k) ∧
          onlyRaises s m [1, 4, 5] ∧ m.channels = s.channels ∧ m.plu = s.plu ∧ m.store.nextTag = s.store.nextTag ∧
          settleFrame s m))) ∧
  (∀ (s t : State), s.pfw = true → step s = .next t → t.store = s.store)

/-- The period in the store changes only by OPEN_LEDGER, which makes it 1, by FORMAT_COMPLETE, which makes it 0, and by an accepted
close, which makes it one above the period the CLOSE entry carries, while no shop is unrolled and no payout open (R43, R44, R45,
R129, R133, R135); that the entry carries the stored period is EveryStepKeepsTheSettlementSound's. -/
def Obligations.ThePeriodChangesOnlyByOpeningAndClosing : Prop :=
  ∀ (i : Instr) (s t : State), exec i s = .next t → t.store.periodWord ≠ s.store.periodWord →
    (i = .openLedger ∧ s.store.periodWord = 0 ∧ t.store.periodWord = 1) ∨
    (i = .formatComplete ∧ t.store.periodWord = 0) ∨
    (i = .closeEntry ∧ s.settle.unrolled = 0 ∧ s.settle.openPayouts = 0 ∧
      ∃ requested rest, s.settle.accruals = .close requested :: rest ∧ t.store.periodWord = requested + 1)

/-! ### Links and frames (chapter 1) -/

/-- A receiver in HUNT that sees the idle gap enters RUN; the gap changes nothing at a receiver in RUN or DOWN, and under the warning the
receivers stay in their states (R5, R7, R19). -/
def Obligations.IdleGapPutsTheReceiverInRun : Prop :=
  (∀ (s : State) (l : Nat), s.pfw = false → l ≤ 3 → (s.lane l).rx = .hunt →
    ∃ t, exec (.idleGap l) s = .next t ∧ t.lane l = { s.lane l with rx := .run } ∧
      (∀ k, k ≠ l → t.lane k = s.lane k) ∧ { t with lanes := s.lanes } = s) ∧
  (∀ s : State, s.pfw = false → s.officeLink.rx = .hunt →
    exec (.idleGap 4) s = .next { s with officeLink.rx := .run }) ∧
  (∀ s : State, s.pfw = false → s.payLink.rx = .hunt → exec (.idleGap 5) s = .next { s with payLink.rx := .run }) ∧
  (∀ (s : State) (l : Nat), l ≤ 3 → (s.lane l).rx ≠ .hunt → exec (.idleGap l) s = .next s) ∧
  (∀ s : State, s.officeLink.rx ≠ .hunt → exec (.idleGap 4) s = .next s) ∧
  (∀ s : State, s.payLink.rx ≠ .hunt → exec (.idleGap 5) s = .next s) ∧
  (∀ (s : State) (link : Nat), (s.pfw = true ∨ 5 < link) → exec (.idleGap link) s = .next s)

/-- A framing error counts; a truncated frame leaves the receiver in RUN, a damaged complete frame in HUNT, and a lane's 16th
consecutive error takes it DOWN: WAITING and ANSWERED entries and a waiting BUSY are discarded, a TAKEN entry stays, counts other
than the two of errors keep their values, and LANE_DOWN is raised. A truncated frame at a receiver in HUNT or DOWN, or under the warning,
changes no receiver, count or queue (R2, R5, R6, R7, R9, R18, R19). That the entry whose answer is being sent keeps its place, and a
BUSY being sent its own, is the model's inference (log 34). -/
def Obligations.FramingErrorsCountAndTakeALaneDown : Prop :=
  (∀ (s : State) (l : Nat) (i : Instr) (after : RxState), s.pfw = false → l ≤ 3 → (s.lane l).rx = .run →
    ((i = .truncatedFrame l ∧ after = .run) ∨
      ∃ chars, i = .laneFrameReceived l chars ∧ judgeFrame 3 chars = .error ∧ after = .hunt) →
    ∃ t, exec i s = .next t ∧ (∀ k, k ≠ l → t.lane k = s.lane k) ∧
      { t with lanes := s.lanes, attn.pending := s.attn.pending } = s ∧
      (if (s.lane l).consecutive < 15 then
        t.lane l = { s.lane l with framing := ((s.lane l).framing + 1) % 4294967296,
                                   consecutive := (s.lane l).consecutive + 1, rx := after } ∧
          t.attn.pending = s.attn.pending
      else
        ∃ queue : List LaneEntry,
          t.lane l = { s.lane l with
            framing := ((s.lane l).framing + 1) % 4294967296, consecutive := 16, rx := .down, queue := queue, ready := [],
            busyPlace := if (s.lane l).sending.map LaneSending.source = some .busy then (s.lane l).busyPlace else none } ∧
          ((s.lane l).sending.map LaneSending.source ≠ some .answer ∨
              (∀ e ∈ (s.lane l).queue, e.stage = .waiting ∨ e.stage = .taken) →
            queue = (s.lane l).queue.filter fun e => decide (e.stage = .taken)) ∧
          (∀ (before older : List LaneEntry) (e : LaneEntry) (a : LaneAnswer),
            (s.lane l).sending.map LaneSending.source = some .answer → (s.lane l).queue = before ++ e :: older →
            e.stage = .answered a → (∀ x ∈ before, x.stage = .waiting ∨ x.stage = .taken) →
            queue = before.filter (fun x => decide (x.stage = .taken)) ++
              e :: older.filter fun x => decide (x.stage = .taken)) ∧
          t.attn.pending.getLsbD 6 = true ∧ onlyRaises s t [6])) ∧
  (∀ s : State, s.pfw = false → s.officeLink.rx = .run →
    exec (.truncatedFrame 4) s =
      .next { s with officeLink.framing := (s.officeLink.framing + 1) % 4294967296, officeLink.rx := .run }) ∧
  (∀ s : State, s.pfw = false → s.payLink.rx = .run →
    exec (.truncatedFrame 5) s =
      .next { s with payLink.framing := (s.payLink.framing + 1) % 4294967296, payLink.rx := .run }) ∧
  (∀ (s : State) (chars : List RxChar), s.pfw = false → s.officeLink.rx = .run → judgeFrame 2 chars = .error →
    exec (.officeFrameReceived chars) s =
      .next { s with officeLink.framing := (s.officeLink.framing + 1) % 4294967296, officeLink.rx := .hunt }) ∧
  (∀ (s : State) (chars : List RxChar), s.pfw = false → s.payLink.rx = .run → judgeFrame 0 chars = .error →
    exec (.bankFrameReceived chars) s =
      .next { s with payLink.framing := (s.payLink.framing + 1) % 4294967296, payLink.rx := .hunt }) ∧
  (∀ (s : State) (link : Nat),
    (s.pfw = true ∨ 5 < link ∨ (link ≤ 3 ∧ (s.lane link).rx ≠ .run) ∨ (link = 4 ∧ s.officeLink.rx ≠ .run) ∨
      (link = 5 ∧ s.payLink.rx ≠ .run)) → exec (.truncatedFrame link) s = .next s)

/-- An envelope-valid frame is counted and joins its queue: on a lane as a WAITING entry, and at a full lane or office queue it is
answered BUSY through the BUSY place or, with that place occupied, is an overflow; on the payout link a frame that is not well-formed
is unknown, and at a full queue an overrun. A frame at a receiver in HUNT or DOWN, or under the warning, is not judged and changes no
receiver, count or queue (R4 to R7, R10, R12, R16 to R19). That the Office Unit takes what it can in the same step is the model's choice
(log 12). -/
def Obligations.FramesAreQueuedOrTurnedAway : Prop :=
  (∀ (s : State) (l : Nat) (chars : List RxChar) (kind : Byte) (body : List Byte),
    s.pfw = false → l ≤ 3 → (s.lane l).rx = .run → judgeFrame 3 chars = .valid kind body →
    ∃ t, exec (.laneFrameReceived l chars) s = .next t ∧ (∀ k, k ≠ l → t.lane k = s.lane k) ∧
      { t with lanes := s.lanes } = s ∧
      t.lane l =
        (if (s.lane l).queue.length < 16 then
          { s.lane l with taken := ((s.lane l).taken + 1) % 4294967296, consecutive := 0,
                          queue := (s.lane l).queue ++ [{ kind := kind, body := body, stage := .waiting }] }
        else if (s.lane l).busyPlace = none then
          { s.lane l with taken := ((s.lane l).taken + 1) % 4294967296, consecutive := 0,
                          busyCount := ((s.lane l).busyCount + 1) % 4294967296,
                          busyPlace := some { terminal := fieldAt body 0 1, tag := fieldAt body 1 2, kind := kind,
                                              result := .busy, approved := none, available := none, holdRef := none,
                                              captureRef := none },
                          ready := (s.lane l).ready ++ [.busy] }
        else
          { s.lane l with taken := ((s.lane l).taken + 1) % 4294967296, consecutive := 0,
                          overflows := ((s.lane l).overflows + 1) % 4294967296 })) ∧
  (∀ (s : State) (chars : List RxChar) (kind : Byte) (body : List Byte),
    s.pfw = false → s.officeLink.rx = .run → judgeFrame 2 chars = .valid kind body →
    exec (.officeFrameReceived chars) s = .next (State.officeSettle
      { s with officeLink :=
          if s.officeLink.queue.length < 8 then
            { s.officeLink with taken := (s.officeLink.taken + 1) % 4294967296,
                                queue := s.officeLink.queue ++ [{ kind := kind, body := body }] }
          else if s.officeLink.busyPlace = none then
            { s.officeLink with taken := (s.officeLink.taken + 1) % 4294967296,
                                busyCount := (s.officeLink.busyCount + 1) % 4294967296,
                                busyPlace := some { tag := fieldAt body 0 2, kind := kind, code := .busy, data := [] },
                                ready := s.officeLink.ready ++ [.busy] }
          else
            { s.officeLink with taken := (s.officeLink.taken + 1) % 4294967296,
                                overflows := (s.officeLink.overflows + 1) % 4294967296 } })) ∧
  (∀ (s : State) (chars : List RxChar) (kind : Byte) (body : List Byte),
    s.pfw = false → s.payLink.rx = .run → judgeFrame 0 chars = .valid kind body →
    exec (.bankFrameReceived chars) s = .next
      { s with payLink :=
          if bankWellFormed { kind := kind, body := body } = false then
            { s.payLink with taken := (s.payLink.taken + 1) % 4294967296,
                             unknown := (s.payLink.unknown + 1) % 4294967296 }
          else if s.payLink.queue.length < 8 then
            { s.payLink with taken := (s.payLink.taken + 1) % 4294967296,
                             queue := s.payLink.queue ++ [{ kind := kind, body := body }] }
          else
            { s.payLink with taken := (s.payLink.taken + 1) % 4294967296,
                             overruns := (s.payLink.overruns + 1) % 4294967296 } }) ∧
  (∀ (s : State) (l : Nat) (chars : List RxChar), (s.pfw = true ∨ 3 < l ∨ (s.lane l).rx ≠ .run) →
    exec (.laneFrameReceived l chars) s = .next s) ∧
  (∀ (s : State) (chars : List RxChar), (s.pfw = true ∨ s.officeLink.rx ≠ .run) →
    exec (.officeFrameReceived chars) s = .next s) ∧
  (∀ (s : State) (chars : List RxChar), (s.pfw = true ∨ s.payLink.rx ≠ .run) →
    exec (.bankFrameReceived chars) s = .next s)

/-- The receiver judges every frame the part's own transmitters would form envelope-valid, with the same kind and body: marker,
length, check and body bytes are laid out and read alike; one low stop bit anywhere makes it a framing error (R2, R3, 12.2). -/
def Obligations.EveryFrameFormedIsJudgedValid : Prop :=
  ∀ (minBody : Nat) (kind : Byte) (body : List Byte), body.length ≤ 250 → minBody ≤ body.length →
    judgeFrame minBody ((frameBytes kind body).map fun b => { data := b, stopOk := true }) = .valid kind body ∧
    ∀ k, k < body.length + 5 →
      judgeFrame minBody
        (((frameBytes kind body).map fun b => ({ data := b, stopOk := true } : RxChar)).modify k
          (fun c => { c with stopOk := false })) = .error

/-- A free transmitter begins the next ready frame: lane answers in order of readiness and none while DOWN; on the office link a
ready answer first, then ATTN, then STREAM; PAY from its place; on no link under the warning (R7, R13, R14, R15, R19). -/
def Obligations.TransmittersBeginInTheirOrder : Prop :=
  (∀ (s : State) (l : Nat) (r : LaneReady) (rest : List LaneReady) (a : LaneAnswer),
    s.pfw = false → l ≤ 3 → (s.lane l).sending = none → (s.lane l).rx ≠ .down → (s.lane l).ready = r :: rest →
    (s.lane l).readyAnswer r = some a →
    ∃ t, exec (.transmitterBeginsFrame l) s = .next t ∧
      t.lane l = { s.lane l with ready := rest,
                                 sending := some { source := r, bytes := frameBytes 0x20 (laneAnswerBody a) } } ∧
      (∀ k, k ≠ l → t.lane k = s.lane k) ∧ { t with lanes := s.lanes } = s) ∧
  (∀ (s : State) (rest : List LaneReady) (a : OfficeAnswer), s.pfw = false → s.officeLink.sending = none →
    s.officeLink.ready = .answer :: rest → s.officeLink.answerPlace = some a →
    exec (.transmitterBeginsFrame 4) s = .next
      { s with officeLink.ready := rest, officeLink.sending := some { source := .answer, bytes := officeAnswerFrame a } }) ∧
  (∀ (s : State) (rest : List LaneReady) (a : OfficeAnswer), s.pfw = false → s.officeLink.sending = none →
    s.officeLink.ready = .busy :: rest → s.officeLink.busyPlace = some a →
    exec (.transmitterBeginsFrame 4) s = .next
      { s with officeLink.ready := rest, officeLink.sending := some { source := .busy, bytes := officeAnswerFrame a } }) ∧
  (∀ (s : State) (n : Nat), s.pfw = false → s.officeLink.sending = none → s.officeLink.ready = [] →
    s.officeLink.attnPlace = some n →
    exec (.transmitterBeginsFrame 4) s = .next
      { s with officeLink.sending := some { source := .attn, bytes := frameBytes 0x81 (bytesOf 1 n) } }) ∧
  (∀ (s : State) (es : List JournalEntry), s.pfw = false → s.officeLink.sending = none → s.officeLink.ready = [] →
    s.officeLink.attnPlace = none → s.officeLink.streamPlace = some es →
    exec (.transmitterBeginsFrame 4) s = .next
      { s with officeLink.sending := some { source := .stream, bytes := streamFrame es } }) ∧
  (∀ (s : State) (p : PayFrame), s.pfw = false → s.payLink.sending = none → s.payLink.place = some p →
    exec (.transmitterBeginsFrame 5) s = .next { s with payLink.sending := some (payFrameBytes p) }) ∧
  (∀ (s : State) (l : Nat), l ≤ 3 → ((s.lane l).rx = .down ∨ (s.lane l).ready = [] ∨ (s.lane l).sending ≠ none) →
    ∃ t, exec (.transmitterBeginsFrame l) s = .next t ∧ (∀ k, t.lane k = s.lane k) ∧ { t with lanes := s.lanes } = s) ∧
  (∀ (s : State) (link : Nat), s.pfw = true → exec (.transmitterBeginsFrame link) s = .next s)

/-- The last byte of a frame empties its producer's place: a lane's ANSWERED entry or BUSY place, the office link's four places, the
payout transmitter's place; PAY frames are handed over in the order of the list and marked sent (R11, R12, R14, R15, R16,
R164). That an answer held back is handed over and the next request taken in the same step is the model's choice (log 12, log 13);
the end of RESTART's own answer is RESTART_PERFORMED (log 30). -/
def Obligations.SentFramesEmptyTheirPlaces : Prop :=
  (∀ (s : State) (l : Nat) (bytes : List Byte), (s.lane l).sending = some { source := .answer, bytes := bytes } →
    ∃ t, exec (.laneAnswerSent l) s = .next t ∧
      t.lane l = { s.lane l with queue := dropAnswered (s.lane l).queue, sending := none } ∧
      (∀ k, k ≠ l → t.lane k = s.lane k) ∧ { t with lanes := s.lanes } = s) ∧
  (∀ (s : State) (l : Nat) (bytes : List Byte), (s.lane l).sending = some { source := .busy, bytes := bytes } →
    ∃ t, exec (.laneAnswerSent l) s = .next t ∧ t.lane l = { s.lane l with busyPlace := none, sending := none } ∧
      (∀ k, k ≠ l → t.lane k = s.lane k) ∧ { t with lanes := s.lanes } = s) ∧
  (∀ (s : State) (bytes : List Byte), s.officeLink.sending = some { source := .answer, bytes := bytes } →
    s.sendingRestartAnswer = false →
    exec .officeFrameSent s =
      .next (State.officeSettle { s with officeLink.answerPlace := none, officeLink.sending := none })) ∧
  (∀ (s : State) (bytes : List Byte), s.officeLink.sending = some { source := .busy, bytes := bytes } →
    exec .officeFrameSent s = .next { s with officeLink.busyPlace := none, officeLink.sending := none }) ∧
  (∀ (s : State) (bytes : List Byte), s.officeLink.sending = some { source := .attn, bytes := bytes } →
    exec .officeFrameSent s = .next { s with officeLink.attnPlace := none, officeLink.sending := none }) ∧
  (∀ (s : State) (bytes : List Byte), s.officeLink.sending = some { source := .stream, bytes := bytes } →
    exec .officeFrameSent s = .next { s with officeLink.streamPlace := none, officeLink.sending := none }) ∧
  (∀ (s : State) (bytes : List Byte), s.payLink.sending = some bytes →
    exec .payFrameSent s = .next { s with payLink.place := none, payLink.sending := none }) ∧
  (∀ (s : State) (k : Nat) (rest : List Nat) (p : Payout), s.pfw = false → s.payLink.place = none →
    s.plu.payList = k :: rest → s.slot k = .filled p →
    ∃ t, exec .paySend s = .next t ∧
      t.payLink = { s.payLink with place := some { tag := p.tag, shop := p.shop, period := p.period, amount := p.amount } } ∧
      t.plu.payList = rest ∧ t.slot k = .filled { p with sent := true } ∧ (∀ j, j ≠ k → t.slot j = s.slot j) ∧
      { t with payLink := s.payLink, plu.payList := s.plu.payList, plu.slots := s.plu.slots } = s)

/-! ### Admission and the lane requests (chapters 2 to 5) -/

/-- A request that names a card by serial passes its checks exactly when: its fields are within their encodings; its terminal is
bound to the shop; the ledger is OPEN; the shop's office state and debt bar admit it; the serial has an enabled program; the
card is not on the fault list and its record is sound; the acceptance map grants it; the card's state and code match; and its
amount, where it has one, is 1 to 10,000,000; the rules of the six kinds are the columns of R51 and R81, and the shop admission
table is R38's (R24, R31, R34, R38, R51, R52, R81). -/
def Obligations.AdmissionPassesExactlyTheListedChecks : Prop :=
  (∀ (s : State) (rule : CardRule) (req : LaneReq) (shop prog : Nat) (card : CardRecord),
    s.admitCard rule req = .pass shop prog card ↔
      (laneFieldsOk req.kind req.body = true ∧ s.boundShop req.lane (fieldAt req.body 0 1) = some shop ∧
        s.ledger.mode = .opened ∧ shopDecline rule.cls (s.shop shop).office (s.shop shop).debtBar = none ∧
        s.lookup (fieldAt req.body 3 3) = some prog ∧ fieldAt req.body 3 3 ∉ s.ledger.faults ∧
        card = s.card (fieldAt req.body 3 3) ∧ card.checkOk = true ∧
        (card.state ≠ .blank → card.program = some prog) ∧
        rule.accepts (s.acceptRow (shop / 16)) prog = true ∧ rule.stateOk card = true ∧
        card.code = some (fieldAt req.body 6 2) ∧
        (rule.amount = true → 0 < fieldAt req.body 8 4 ∧ fieldAt req.body 8 4 ≤ 10000000))) ∧
  (∀ (cls : ShopClass) (office : OfficeState) (bar : Bool), shopDecline cls office bar =
    (if office = .vacant ∨ (office = .departed ∧ (cls = .sale ∨ cls = .spend)) then some .shopClosed
    else if office = .frozen then some .shopFrozen
    else if office = .trading ∧ cls = .sale ∧ bar = true then some .shopBarred
    else none)) ∧
  (∀ (a : AcceptRow) (p : Nat) (c : CardRecord),
    activateRule.accepts a p = a.le.getLsbD p ∧ activateRule.stateOk c = decide (c.state = .stock ∧ c.failures < 3) ∧
    loadRule.accepts a p = a.le.getLsbD p ∧ loadRule.stateOk c = decide (c.state = .active) ∧
    balanceRule.accepts a p = (a.re.getLsbD p || a.le.getLsbD p) ∧ balanceRule.stateOk c = decide (c.state = .active) ∧
    redeemRule.accepts a p = a.re.getLsbD p ∧ redeemRule.stateOk c = decide (c.state = .active) ∧
    cashoutRule.accepts a p = a.re.getLsbD p ∧ cashoutRule.stateOk c = decide (c.state = .active)) ∧
  [activateRule, loadRule, balanceRule, redeemRule, cashoutRule].map (fun r => (r.cls, r.amount)) =
    [(.sale, true), (.sale, true), (.inquiry, false), (.spend, true), (.spend, false)]

/-- The lookups every request rests on. A terminal is bound to the shop of the first enabled entry of its lane with its address,
none for addresses 0 and 255 and none over a blank store; a serial below the capacity has the lowest program whose boundary is above
it, if that program is enabled, and its range is that program's whether enabled or not; a hold reference resolves as the open hold
of its slot and generation, as ended by the end memory of its generation, else as unknown (R21, R24, R29, R34, R72). -/
def Obligations.LookupsFollowTheirTables : Prop :=
  (∀ (s : State) (lane address shop : Nat), s.boundShop lane address = some shop ↔
    s.store.signature = true ∧ address ≠ 0 ∧ address ≠ 255 ∧
      ∃ i, i ≤ 127 ∧ (s.binding (lane * 128 + i)).enabled = true ∧ (s.binding (lane * 128 + i)).address = address ∧
        (s.binding (lane * 128 + i)).shop = shop ∧
        ∀ j, j < i → ¬((s.binding (lane * 128 + j)).enabled = true ∧ (s.binding (lane * 128 + j)).address = address)) ∧
  (∀ (s : State) (serial k : Nat), s.rangeProgram serial = some k ↔
    k ≤ 7 ∧ serial < (s.program k).boundary ∧ ∀ j, j < k → (s.program j).boundary ≤ serial) ∧
  (∀ (s : State) (serial k : Nat), s.lookup serial = some k ↔
    serial < s.cap ∧ (s.program k).enabled = true ∧ k ≤ 7 ∧ serial < (s.program k).boundary ∧
      ∀ j, j < k → (s.program j).boundary ≤ serial) ∧
  (∀ (s : State) (slot gen ref : Nat), gen < 32 → ref = slot * 32 + gen →
    (∀ k g hold, s.resolveHold ref = .active k g hold ↔
      k = slot ∧ g = gen ∧ (s.holdSlot slot).hold = some hold ∧ (s.holdSlot slot).gen = gen) ∧
    (∀ cause, s.resolveHold ref = .ended cause ↔
      (s.holdSlot slot).hold = none ∧ (s.holdSlot slot).memory = some (gen, cause)) ∧
    (s.resolveHold ref = .unknown ↔
      (∀ hold, (s.holdSlot slot).hold = some hold → (s.holdSlot slot).gen ≠ gen) ∧
      ((s.holdSlot slot).hold = none → ∀ cause, (s.holdSlot slot).memory ≠ some (gen, cause))))

/-- The first failing check of a lane request's list names its decline; LIMIT and INSUFFICIENT carry the available balance; a
decline writes nothing: only the lane entry and the rotation change, and with RECORD_FAULT the fault list and its attention. A lane
entry that is not well-formed is declined BAD_REQUEST. BAD_CODE, which commits, has a statement of its own (R4, R38, R49 to R53, R55
to R59, R81, R82, R84, R85, R88, R97 to R103, R105; the eligibility of an entry that is not well-formed is log 15's). -/
def Obligations.TheFirstFailingCheckNamesTheDecline : Prop :=
  (∀ (s : State) (l kind : Nat) (e : LaneEntry) (i : Instr) (d : LaneResult), (i, kind) ∈ laneCommands →
    s.laneWork kind = some (l, e) → firstFailing (laneChecks s l kind e.body) = some d → d ≠ .badCode →
    ∃ t, exec i s = .next t ∧
      laneAnswered s t l (laneReply e d none
        (if d = .limit ∨ d = .insufficient then
          some ((s.card (namedCard s kind e.body)).balance - (s.card (namedCard s kind e.body)).held) else none) none none) ∧
      (d ≠ .recordFault → { t with lanes := s.lanes, ledger.top := s.ledger.top } = s) ∧
      (d = .recordFault → faultNoted s t (namedCard s kind e.body) ∧
        onlyRaises s t (if namedCard s kind e.body ∈ s.ledger.faults then [] else [0]) ∧
        { t with lanes := s.lanes, ledger.top := s.ledger.top, ledger.faults := s.ledger.faults,
                 ledger.faultOverflow := s.ledger.faultOverflow, attn.pending := s.attn.pending } = s)) ∧
  (∀ (s : State) (l : Nat) (e : LaneEntry), s.badLaneWork = some (l, e) →
    ∃ t, exec .laneBadRequest s = .next t ∧ laneAnswered s t l (laneReply e .badRequest none none none none) ∧
      { t with lanes := s.lanes, ledger.top := s.ledger.top } = s)

/-- A request that names a card by serial and whose first failing check is its code commits the failure when it has a reservation:
the count rises, the third failure suspends an ACTIVE card with cause LOCKOUT, one CARD_STATE entry is appended, no accrual is
pushed, and it is declined BAD_CODE; without one nothing changes and it is declined JOURNAL_FULL (R41, R49, R54). An ACTIVE card whose
count stood at 3 already is locked as well, its count 4: the model's choice (log 43). -/
def Obligations.ACodeMismatchIsCommittedOnce : Prop :=
  ∀ (s : State) (l kind serial : Nat) (e : LaneEntry) (i : Instr) (card c : CardRecord), (i, kind) ∈ laneCommands →
    s.laneWork kind = some (l, e) → firstFailing (laneChecks s l kind e.body) = some .badCode →
    serial = fieldAt e.body 3 3 → card = s.card serial →
    c = { card with failures := card.failures + 1, seq := (card.seq + 1) % 16777216, checkOk := true,
                    state := if 3 ≤ card.failures + 1 ∧ card.state = .active then .suspended else card.state,
                    suspend := if 3 ≤ card.failures + 1 ∧ card.state = .active then some .lockout else card.suspend } →
    (s.canReserve .general 1 = true →
      laneCommit i s l serial c s.store.totals s.store.window holdsKept []
        (.cardState serial c.seq .codeFailure c.state c.suspend c.failures none)
        (laneReply e .badCode none none none none)) ∧
    (s.canReserve .general 1 = false →
      ∃ t, exec i s = .next t ∧ laneAnswered s t l (laneReply e .journalFull none none none none) ∧
        { t with lanes := s.lanes, ledger.top := s.ledger.top } = s)

/-- An admitted ACTIVATE within the program's limits makes a STOCK card ACTIVE with its first load; an admitted LOAD within the load
limit adds the amount to the balance; each posts SOLD, adds to loaded and to the float, and is approved (R55, R56, R60). A total
outside its range is a free value (log 21). -/
def Obligations.SalesLoadTheCard : Prop :=
  (∀ (s : State) (l : Nat) (e : LaneEntry) (shop prog : Nat) (card : CardRecord),
    s.laneWork 0x10 = some (l, e) → s.admitCard activateRule (requestOf l e) = .pass shop prog card →
    (s.program prog).activationMin ≤ fieldAt e.body 8 4 → fieldAt e.body 8 4 ≤ (s.program prog).loadLimit →
    s.canReserve .general 1 = true →
    laneCommit .activate s l (fieldAt e.body 3 3)
      { card with state := .active, balance := fieldAt e.body 8 4, issuing := some shop,
                  activation := some s.ledger.period, lastUse := some s.ledger.period, failures := 0,
                  seq := (card.seq + 1) % 16777216, checkOk := true }
      { s.store.totals with loaded := totalAfter s.store.totals.loaded (fieldAt e.body 8 4),
                            float := totalAfter s.store.totals.float (fieldAt e.body 8 4) }
      s.store.window holdsKept
      [.money (.sold shop (fieldAt e.body 8 4)) s.ledger.period s.store.nextToWrite]
      (.activate (fieldAt e.body 3 3) ((card.seq + 1) % 16777216) l (fieldAt e.body 0 1) shop (fieldAt e.body 8 4)
        (fieldAt e.body 8 4))
      (laneReply e .approved (some (fieldAt e.body 8 4)) (some (fieldAt e.body 8 4 - card.held)) none none)) ∧
  (∀ (s : State) (l : Nat) (e : LaneEntry) (shop prog : Nat) (card : CardRecord),
    s.laneWork 0x11 = some (l, e) → s.admitCard loadRule (requestOf l e) = .pass shop prog card →
    card.balance + fieldAt e.body 8 4 ≤ (s.program prog).loadLimit → s.canReserve .general 1 = true →
    laneCommit .load s l (fieldAt e.body 3 3)
      { card with balance := card.balance + fieldAt e.body 8 4, lastUse := some s.ledger.period, failures := 0,
                  seq := (card.seq + 1) % 16777216, checkOk := true }
      { s.store.totals with loaded := totalAfter s.store.totals.loaded (fieldAt e.body 8 4),
                            float := totalAfter s.store.totals.float (fieldAt e.body 8 4) }
      s.store.window holdsKept
      [.money (.sold shop (fieldAt e.body 8 4)) s.ledger.period s.store.nextToWrite]
      (.load (fieldAt e.body 3 3) ((card.seq + 1) % 16777216) l (fieldAt e.body 0 1) shop (fieldAt e.body 8 4)
        (card.balance + fieldAt e.body 8 4))
      (laneReply e .approved (some (fieldAt e.body 8 4)) (some (card.balance + fieldAt e.body 8 4 - card.held)) none none))

/-- An admitted BALANCE is approved with the available balance and changes nothing but its lane entry (R57). -/
def Obligations.BalanceAnswersTheAvailableBalance : Prop :=
  ∀ (s : State) (l : Nat) (e : LaneEntry) (shop prog : Nat) (card : CardRecord),
    s.laneWork 0x12 = some (l, e) → s.admitCard balanceRule (requestOf l e) = .pass shop prog card →
    ∃ t, exec .balance s = .next t ∧
      laneAnswered s t l (laneReply e .approved none (some (card.balance - card.held)) none none) ∧
      { t with lanes := s.lanes, ledger.top := s.ledger.top } = s

/-- An admitted REDEEM takes the amount from the card, or with the partial flag all that is available, makes a capture record
named by its entry's sequence number, posts REDEEMED at the program's rate and is approved; what is not covered is declined
INSUFFICIENT with the available balance (R58, R93, R94, R95). A total outside its range is a free value (log 21). -/
def Obligations.RedeemDebitsAndMakesACaptureRecord : Prop :=
  ∀ (s : State) (l : Nat) (e : LaneEntry) (shop prog : Nat) (card : CardRecord),
    s.laneWork 0x16 = some (l, e) → s.admitCard redeemRule (requestOf l e) = .pass shop prog card →
    (∀ (amount : Nat) (result : LaneResult),
      ((fieldAt e.body 8 4 ≤ card.balance - card.held ∧ amount = fieldAt e.body 8 4 ∧ result = .approved) ∨
        (card.balance - card.held < fieldAt e.body 8 4 ∧ fieldAt e.body 12 1 = 1 ∧ 0 < card.balance - card.held ∧
          amount = card.balance - card.held ∧ result = .part)) →
      s.canReserve .general 1 = true →
      laneCommit .redeem s l (fieldAt e.body 3 3)
        { card with balance := card.balance - amount, lastUse := some s.ledger.period, failures := 0,
                    seq := (card.seq + 1) % 16777216, checkOk := true }
        { s.store.totals with captured := totalAfter s.store.totals.captured amount,
                              float := totalAfter s.store.totals.float (-(amount : Int)) }
        (if s.store.window.length < 16384 then
          s.store.window ++ [{ ref := s.store.nextToWrite, card := fieldAt e.body 3 3, shop := shop, program := prog,
                               rate := (s.program prog).rate, captured := amount, refunded := 0,
                               period := s.ledger.period }]
        else
          s.store.window.tail ++ [{ ref := s.store.nextToWrite, card := fieldAt e.body 3 3, shop := shop, program := prog,
                                    rate := (s.program prog).rate, captured := amount, refunded := 0,
                                    period := s.ledger.period }])
        holdsKept
        [.money (.redeemed shop amount (s.program prog).rate) s.ledger.period s.store.nextToWrite]
        (.redeem (fieldAt e.body 3 3) ((card.seq + 1) % 16777216) shop l (fieldAt e.body 0 1) prog (s.program prog).rate
          amount)
        (laneReply e result (some amount) (some (card.balance - amount - card.held)) none (some s.store.nextToWrite))) ∧
    (card.balance - card.held < fieldAt e.body 8 4 → (fieldAt e.body 12 1 ≠ 1 ∨ card.balance - card.held = 0) →
      ∃ t, exec .redeem s = .next t ∧
        laneAnswered s t l (laneReply e .insufficient none (some (card.balance - card.held)) none none) ∧
        { t with lanes := s.lanes, ledger.top := s.ledger.top } = s)

/-- An admitted CASHOUT of a card without holds, whose balance is above 0 and within the ceiling, pays out the whole balance,
closes the card, posts CASHED and is approved (R59). A total outside its range is a free value (log 21). -/
def Obligations.CashoutClosesTheCard : Prop :=
  ∀ (s : State) (l : Nat) (e : LaneEntry) (shop prog : Nat) (card : CardRecord),
    s.laneWork 0x18 = some (l, e) → s.admitCard cashoutRule (requestOf l e) = .pass shop prog card →
    card.holdCount = 0 → 0 < card.balance → card.balance ≤ (s.program prog).ceiling → s.canReserve .general 1 = true →
    laneCommit .cashout s l (fieldAt e.body 3 3)
      { card with balance := 0, state := .closed, lastUse := some s.ledger.period, failures := 0,
                  seq := (card.seq + 1) % 16777216, checkOk := true }
      { s.store.totals with cashedOut := totalAfter s.store.totals.cashedOut card.balance,
                            float := totalAfter s.store.totals.float (-(card.balance : Int)) }
      s.store.window holdsKept
      [.money (.cashed shop card.balance) s.ledger.period s.store.nextToWrite]
      (.cashout (fieldAt e.body 3 3) ((card.seq + 1) % 16777216) shop l (fieldAt e.body 0 1) card.balance)
      (laneReply e .approved (some card.balance) (some 0) none none)

/-- An admitted AUTHORIZE below the program's maximum of holds opens a hold in the lowest free slot under that slot's generation,
with a deadline of the present time plus the hold lifetime, and puts it in the expiry queue behind every hold whose deadline is
not later; the amount, or
with the partial flag what is available, is held on the card (R73, R76, R82, R83). -/
def Obligations.AuthorizeOpensAHold : Prop :=
  ∀ (s : State) (l : Nat) (e : LaneEntry) (shop prog slot : Nat) (card : CardRecord) (amount : Nat) (result : LaneResult),
    s.laneWork 0x13 = some (l, e) → s.admitCard redeemRule (requestOf l e) = .pass shop prog card →
    card.holdCount < (s.program prog).maxHolds → s.freeHoldSlot = some slot →
    ((fieldAt e.body 8 4 ≤ card.balance - card.held ∧ amount = fieldAt e.body 8 4 ∧ result = .approved) ∨
      (card.balance - card.held < fieldAt e.body 8 4 ∧ fieldAt e.body 12 1 = 1 ∧ 0 < card.balance - card.held ∧
        amount = card.balance - card.held ∧ result = .part)) →
    s.canReserve .general 1 = true →
    (slot < 2048 ∧ (s.holdSlot slot).hold = none ∧ ∀ j, j < slot → (s.holdSlot j).hold ≠ none) ∧
    laneCommit .authorize s l (fieldAt e.body 3 3)
      { card with held := card.held + amount, holdCount := card.holdCount + 1, lastUse := some s.ledger.period,
                  failures := 0, seq := (card.seq + 1) % 16777216, checkOk := true }
      s.store.totals s.store.window
      (fun s t =>
        holdSlotWritten s t slot
          { gen := (s.holdSlot slot).gen, memory := none,
            hold := some { card := fieldAt e.body 3 3, shop := shop, lane := l, terminal := fieldAt e.body 0 1,
                           amount := amount, rate := (s.program prog).rate,
                           deadline := s.time + BitVec.ofNat 32 ((s.program prog).lifetime * 1000) } } ∧
        (∃ front back, s.expiryQ = front ++ back ∧
          t.expiryQ = front ++ { slot := slot, gen := (s.holdSlot slot).gen,
                                 deadline := s.time + BitVec.ofNat 32 ((s.program prog).lifetime * 1000) } :: back ∧
          (∀ x ∈ front, earlier (s.time + BitVec.ofNat 32 ((s.program prog).lifetime * 1000)) x.deadline = false) ∧
          (∀ x, back.head? = some x →
            earlier (s.time + BitVec.ofNat 32 ((s.program prog).lifetime * 1000)) x.deadline = true)) ∧
        t.waiting = s.waiting)
      []
      (.authorize (fieldAt e.body 3 3) ((card.seq + 1) % 16777216) (slot * 32 + (s.holdSlot slot).gen) shop l
        (fieldAt e.body 0 1) amount (s.program prog).rate
        (s.time + BitVec.ofNat 32 ((s.program prog).lifetime * 1000)))
      (laneReply e result (some amount) (some (card.balance - (card.held + amount)))
        (some (slot * 32 + (s.holdSlot slot).gen)) none)

/-- A CAPTURE that names an open hold of the capturing shop, for at most the amount held, on a sound card, ends the hold CAPTURED,
releases the whole hold, takes the captured amount from the balance, makes a capture record and posts REDEEMED at the program's
rate (R74, R86, R94). A total outside its range is a free value (log 21). -/
def Obligations.CaptureEndsTheHoldAndDebits : Prop :=
  ∀ (s : State) (l : Nat) (e : LaneEntry) (shop slot gen prog : Nat) (hold : Hold) (card : CardRecord),
    s.laneWork 0x14 = some (l, e) → s.admitShop .spend (requestOf l e) = .ok shop →
    s.resolveHold (fieldAt e.body 3 2) = .active slot gen hold → s.card hold.card = card →
    hold.card ∉ s.ledger.faults → faulty card (s.rangeProgram hold.card) = false → card.program = some prog →
    shop = hold.shop → 0 < fieldAt e.body 5 4 → fieldAt e.body 5 4 ≤ 10000000 → fieldAt e.body 5 4 ≤ hold.amount →
    s.canReserve .general 1 = true →
    laneCommit .capture s l hold.card
      { card with held := card.held - hold.amount, holdCount := card.holdCount - 1,
                  balance := card.balance - fieldAt e.body 5 4, lastUse := some s.ledger.period,
                  seq := (card.seq + 1) % 16777216, checkOk := true }
      { s.store.totals with captured := totalAfter s.store.totals.captured (fieldAt e.body 5 4),
                            float := totalAfter s.store.totals.float (-(fieldAt e.body 5 4 : Int)) }
      (if s.store.window.length < 16384 then
        s.store.window ++ [{ ref := s.store.nextToWrite, card := hold.card, shop := hold.shop, program := prog,
                             rate := (s.program prog).rate, captured := fieldAt e.body 5 4, refunded := 0,
                             period := s.ledger.period }]
      else
        s.store.window.tail ++ [{ ref := s.store.nextToWrite, card := hold.card, shop := hold.shop, program := prog,
                                  rate := (s.program prog).rate, captured := fieldAt e.body 5 4, refunded := 0,
                                  period := s.ledger.period }])
      (holdEnded slot gen .captured)
      [.money (.redeemed hold.shop (fieldAt e.body 5 4) (s.program prog).rate) s.ledger.period s.store.nextToWrite]
      (.capture hold.card ((card.seq + 1) % 16777216) (fieldAt e.body 3 2) hold.shop prog hold.amount
        (fieldAt e.body 5 4) (s.program prog).rate)
      (laneReply e .approved (some (fieldAt e.body 5 4))
        (some (card.balance - fieldAt e.body 5 4 - (card.held - hold.amount))) (some (fieldAt e.body 3 2))
        (some s.store.nextToWrite))

/-- A VOID that names an open hold of the voiding shop, on a sound card, ends the hold VOIDED and releases its amount; nothing is
accrued (R74, R88). -/
def Obligations.VoidReleasesTheHold : Prop :=
  ∀ (s : State) (l : Nat) (e : LaneEntry) (shop slot gen : Nat) (hold : Hold) (card : CardRecord),
    s.laneWork 0x15 = some (l, e) → s.admitShop .giveBack (requestOf l e) = .ok shop →
    s.resolveHold (fieldAt e.body 3 2) = .active slot gen hold → s.card hold.card = card →
    hold.card ∉ s.ledger.faults → faulty card (s.rangeProgram hold.card) = false → shop = hold.shop →
    s.canReserve .general 1 = true →
    laneCommit .void s l hold.card
      { card with held := card.held - hold.amount, holdCount := card.holdCount - 1, lastUse := some s.ledger.period,
                  seq := (card.seq + 1) % 16777216, checkOk := true }
      s.store.totals s.store.window (holdEnded slot gen .voided) []
      (.void hold.card ((card.seq + 1) % 16777216) (fieldAt e.body 3 2) hold.shop hold.amount)
      (laneReply e .approved (some hold.amount) (some (card.balance - (card.held - hold.amount)))
        (some (fieldAt e.body 3 2)) none)

/-- A REFUND whose capture record is in the window, recent enough, of this shop or granted by effective XE, on an ACTIVE or
SUSPENDED sound card, within what is left to refund and the balance limit, credits the card and is charged to the record's shop
at the record's rate (R98 to R106). A total outside its range is a free value (log 21). -/
def Obligations.RefundCreditsAndChargesTheOriginalShop : Prop :=
  ∀ (s : State) (l : Nat) (e : LaneEntry) (shop : Nat) (rec : CaptureRecord) (card : CardRecord)
    (before after : List CaptureRecord),
    s.laneWork 0x17 = some (l, e) → s.admitShop .giveBack (requestOf l e) = .ok shop →
    s.store.window = before ++ rec :: after → rec.ref = fieldAt e.body 3 4 → (∀ r ∈ before, r.ref ≠ rec.ref) →
    rec.card < s.cap → s.card rec.card = card → rec.card ∉ s.ledger.faults →
    faulty card (s.rangeProgram rec.card) = false → 0 < fieldAt e.body 7 4 → fieldAt e.body 7 4 ≤ 10000000 →
    s.ledger.period ≤ rec.period + (s.program rec.program).refundWindow →
    (shop = rec.shop ∨ (s.acceptRow (shop / 16)).effectiveXe rec.program = true) →
    (card.state = .active ∨ card.state = .suspended) → rec.refunded + fieldAt e.body 7 4 ≤ rec.captured →
    card.balance + fieldAt e.body 7 4 ≤ 2147483647 → s.canReserve .general 1 = true →
    laneCommit .refund s l rec.card
      { card with balance := card.balance + fieldAt e.body 7 4, lastUse := some s.ledger.period,
                  seq := (card.seq + 1) % 16777216, checkOk := true }
      { s.store.totals with refunded := totalAfter s.store.totals.refunded (fieldAt e.body 7 4),
                            float := totalAfter s.store.totals.float (fieldAt e.body 7 4) }
      (before ++ { rec with refunded := rec.refunded + fieldAt e.body 7 4 } :: after) holdsKept
      [.money (.refunded rec.shop (fieldAt e.body 7 4) rec.rate) s.ledger.period s.store.nextToWrite]
      (.refund rec.card ((card.seq + 1) % 16777216) (fieldAt e.body 3 4) shop l (fieldAt e.body 0 1) rec.shop
        (fieldAt e.body 7 4) rec.rate rec.period (rec.refunded + fieldAt e.body 7 4))
      (laneReply e .approved (some (fieldAt e.body 7 4)) (some (card.balance + fieldAt e.body 7 4 - card.held)) none
        (some (fieldAt e.body 3 4)))

/-- The compare moves the head of the expiry queue, its deadline reached, to the waiting expiry requests, and else moves nothing; a request
the arbiter takes ends its hold EXPIRED with one EXPIRE entry, off the card record when it is sound, leaving a record that faults or is on the
fault list unwritten; one whose hold has ended already is discarded (R53, R70, R77, R78, R79). -/
def Obligations.DeadlinesExpireHolds : Prop :=
  (∀ (s : State) (it : ExpiryItem) (rest : List ExpiryItem), s.expiryQ = it :: rest →
    (s.time - it.deadline).toNat < 2147483648 →
    exec .holdDeadlineReached s = .next { s with expiryQ := rest, waiting := s.waiting ++ [it] }) ∧
  (∀ s : State, (∀ it rest, s.expiryQ = it :: rest → 2147483648 ≤ (s.time - it.deadline).toNat) →
    exec .holdDeadlineReached s = .next s) ∧
  (∀ (s : State) (it : ExpiryItem) (rest : List ExpiryItem) (slot gen : Nat) (hold : Hold),
    s.pick = some .expiry → s.waiting = it :: rest →
    s.resolveHold (it.slot * 32 + it.gen) = .active slot gen hold → hold.card ∉ s.ledger.faults →
    ∃ t, exec .expiry s = .next t ∧ holdEnded slot gen .expired s t ∧
      t.lanes = s.lanes ∧ t.ledger.top = s.ledger.top ∧ t.store.totals = s.store.totals ∧
      t.store.window = s.store.window ∧ t.settle.accruals = s.settle.accruals ∧
      (if faulty (s.card hold.card) (s.rangeProgram hold.card) = false then
        cardWritten s t hold.card
          { s.card hold.card with held := (s.card hold.card).held - hold.amount,
                                  holdCount := (s.card hold.card).holdCount - 1,
                                  seq := ((s.card hold.card).seq + 1) % 16777216, checkOk := true } ∧
        oneEntry s t s.ledger.period
          (.expire hold.card (slot * 32 + gen) hold.shop hold.lane hold.terminal hold.rate hold.amount
            (some (((s.card hold.card).seq + 1) % 16777216))) ∧
        onlyRaises s t [4, 5] ∧ cardCommitFrame s t
      else
        (∀ k, t.card k = s.card k) ∧
        oneEntry s t s.ledger.period
          (.expire hold.card (slot * 32 + gen) hold.shop hold.lane hold.terminal hold.rate hold.amount none) ∧
        t.attn.pending.getLsbD 0 = true ∧ onlyRaises s t [0, 4, 5] ∧
        cardCommitFrame s { t with ledger.faults := s.ledger.faults, ledger.faultOverflow := s.ledger.faultOverflow } ∧
        (s.ledger.faults.length < 16 →
          t.ledger.faults = s.ledger.faults ++ [hold.card] ∧ t.ledger.faultOverflow = s.ledger.faultOverflow) ∧
        (16 ≤ s.ledger.faults.length → t.ledger.faults = s.ledger.faults ∧ t.ledger.faultOverflow = true))) ∧
  (∀ (s : State) (it : ExpiryItem) (rest : List ExpiryItem) (slot gen : Nat) (hold : Hold),
    s.pick = some .expiry → s.waiting = it :: rest →
    s.resolveHold (it.slot * 32 + it.gen) = .active slot gen hold → hold.card ∈ s.ledger.faults →
    ∃ t, exec .expiry s = .next t ∧ holdEnded slot gen .expired s t ∧ (∀ k, t.card k = s.card k) ∧
      t.lanes = s.lanes ∧ t.ledger.top = s.ledger.top ∧ t.store.totals = s.store.totals ∧
      t.store.window = s.store.window ∧ t.settle.accruals = s.settle.accruals ∧
      oneEntry s t s.ledger.period
        (.expire hold.card (slot * 32 + gen) hold.shop hold.lane hold.terminal hold.rate hold.amount none) ∧
      onlyRaises s t [4, 5] ∧ cardCommitFrame s t) ∧
  (∀ (s : State) (it : ExpiryItem) (rest : List ExpiryItem), s.pick = some .expiry → s.waiting = it :: rest →
    (∀ slot gen hold, s.resolveHold (it.slot * 32 + it.gen) ≠ .active slot gen hold) →
    exec .expiry s = .next { s with waiting := rest })

/-- The arbiter takes a waiting expiry while a reservation can be granted, else the first eligible requester in rotation, and nothing
under the warning, a running FORMAT or an outstanding close; the Settlement Unit takes a sweep due by its wait count, else the
accrual queue, payout answers, visits and office shop requests in rotation, the sweep, and nothing under the warning or while
RECOVERING. Who is eligible: the oldest WAITING lane entry and the office card request, those that can post an accrual with a free place
on the accrual queue, or for the office with neither place nor general reservation; of the classes, an accrual whose shop needs no roll
or has a reservation for it, an answer that commits nothing or has a whole-ring reservation, a shop request whose latch check has passed,
a sweep with a shop behind and a reservation. A reservation can be granted within its class's limit and the numbering, with a signature
and without the warning (R11, R44, R48, R131, R136, R137, R141, R178 to R180, R189, R198). That the classes behind are served while a
payout answer waits for journal room is the model's inference (log 37); that an ill-formed lane entry is judged by its kind byte is its
choice (log 15). -/
def Obligations.WorkIsTakenInTheStatedOrder : Prop :=
  (∀ s : State, s.pfw = false → s.ledger.formatting = false → s.ledger.closeOutstanding = false →
    (s.waiting ≠ [] → s.canReserve .general 1 = true → s.pick = some .expiry) ∧
    (s.waiting = [] ∨ s.canReserve .general 1 = false →
      (∀ n l, n ≤ 4 → l = (s.ledger.top + n) % 5 → l ≤ 3 → s.laneEligible l = true →
        (∀ m, m < n → (s.ledger.top + m) % 5 ≤ 3 → s.laneEligible ((s.ledger.top + m) % 5) = false) →
        (∀ m, m < n → (s.ledger.top + m) % 5 = 4 → s.officeEligible = false) → s.pick = some (.lane l)) ∧
      (∀ n, n ≤ 4 → (s.ledger.top + n) % 5 = 4 → s.officeEligible = true →
        (∀ m, m < n → s.laneEligible ((s.ledger.top + m) % 5) = false) → s.pick = some .office) ∧
      ((∀ l, l ≤ 3 → s.laneEligible l = false) → s.officeEligible = false → s.pick = none))) ∧
  (∀ s : State, (s.pfw = true ∨ s.ledger.formatting = true ∨ s.ledger.closeOutstanding = true) → s.pick = none) ∧
  (∀ s : State, s.pfw = false → s.ledger.mode ≠ .recovering →
    (8 ≤ s.settle.wait → s.sweepEligible = true → s.nextWork = some .sweep) ∧
    ((s.settle.wait < 8 ∨ s.sweepEligible = false) →
      (s.accrualReady = true → s.nextWork = some .accrual) ∧
      (s.accrualReady = false → s.answerReady = true → s.nextWork = some .answer) ∧
      (s.accrualReady = false → s.answerReady = false →
        (s.settle.visits ≠ [] → (s.requestWaits = false ∨ s.settle.visitsHigher = true) → s.nextWork = some .visit) ∧
        (s.requestWaits = true → (s.settle.visits = [] ∨ s.settle.visitsHigher = false) → s.nextWork = some .request) ∧
        (s.settle.visits = [] → s.requestWaits = false →
          s.nextWork = if s.sweepEligible = true then some .sweep else none)))) ∧
  (∀ s : State, (s.pfw = true ∨ s.ledger.mode = .recovering) → s.nextWork = none) ∧
  (∀ (s : State) (l : Nat), s.laneEligible l = true ↔
    ∃ (before older : List LaneEntry) (e : LaneEntry), (s.lane l).queue = before ++ e :: older ∧ e.stage = .waiting ∧
      (∀ x ∈ before, x.stage ≠ .waiting) ∧
      (e.kind ∈ [0x10#8, 0x11, 0x14, 0x16, 0x17, 0x18] → s.settle.accruals.length < 16)) ∧
  (∀ s : State, s.officeEligible = true ↔
    ∃ kind b, s.officeBody kind = some b ∧ kind ∈ [0x40, 0x41, 0x42, 0x43, 0x48, 0x49, 0x4A, 0x4B, 0x4C, 0x4D, 0x4E] ∧
      (kind = 0x41 ∨ kind = 0x4B → s.settle.accruals.length < 16 ∨ s.canReserve .general 1 = false)) ∧
  (∀ s : State, s.accrualReady = true ↔
    (∃ period rest, s.settle.accruals = .close period :: rest) ∨
    (∃ e period source rest, s.settle.accruals = .money e period source :: rest ∧
      ((∃ k, e.shop = some k ∧ (s.shop k).bank.period < s.settle.period) → s.canReserve .general 1 = true))) ∧
  (∀ s : State, s.answerReady = true ↔
    (∃ tag shop period rest,
      (s.settle.answers = .done tag shop period :: rest ∨ ∃ reason, s.settle.answers = .back tag shop period reason :: rest) ∧
      (answerMatches s tag shop period → s.canReserve .whole 1 = true)) ∨
    (∃ k tag rest, s.settle.answers = .deadline k tag :: rest ∧
      ((∃ p, s.slot k = .filled p ∧ p.tag = tag) → s.canReserve .whole 1 = true))) ∧
  (∀ s : State, s.requestWaits = true ↔
    ∃ kind b, s.officeBody kind = some b ∧
      (kind ∈ [0x44, 0x50, 0x52, 0x53] ∨ (kind = 0x51 ∧ s.office.latch = none))) ∧
  (∀ s : State, s.sweepEligible = true ↔ 0 < s.settle.unrolled ∧ s.canReserve .general 1 = true) ∧
  (∀ (s : State) (cls : ResClass) (n : Nat), s.canReserve cls n = true ↔
    s.pfw = false ∧ s.store.signature = true ∧
      s.store.nextToWrite - s.store.oldestUnack + s.journal.reserved + n ≤ (if cls = .general then 16336 else 16384) ∧
      s.store.nextToWrite + s.journal.reserved + n ≤ 4294967296)

/-! ### Settlement (chapters 6 and 7) -/

/-- The roll divides residue plus remainder into whole cents of commission, rounded toward minus infinity, and a remainder from 0
to 9,999; nothing of the residue is lost (R120). -/
def Obligations.TheRollDividesTheResidue : Prop :=
  ∀ (k : Nat) (r : ShopRecord) (house : Bool) (payoutMin now : Nat),
    10000 * (rollOf k r house payoutMin now).entry.commission + (rollOf k r house payoutMin now).entry.q1 =
      r.bank.q + r.remainder ∧
    (rollOf k r house payoutMin now).entry.q1 ≤ 9999 ∧
    (∀ m : Int, m ≤ (rollOf k r house payoutMin now).entry.commission ↔ 10000 * m ≤ r.bank.q + r.remainder) ∧
    (rollOf k r house payoutMin now).shop.remainder = (rollOf k r house payoutMin now).entry.q1 ∧
    (rollOf k r house payoutMin now).shop.closing.commission = (rollOf k r house payoutMin now).entry.commission

/-- One roll folds an unclaimed payout, forms the net, decides closing state, amount and carry by the first case that applies, holds
the carry within its range, sets the debt bar, and empties the open bank for the current period; its entry carries what it read
and wrote (R118 to R119, R121 to R125). -/
def Obligations.TheRollFollowsItsStages : Prop :=
  ∀ (k : Nat) (r : ShopRecord) (house : Bool) (payoutMin now folded : Nat) (K N : Int) (t : ShopRecord),
    folded = (if r.closing.state = .owed then r.closing.amount else 0) →
    K = (rollOf k r house payoutMin now).entry.commission →
    N = r.carry + folded + r.bank.g - r.bank.f + r.bank.x - r.bank.s - K →
    t = (rollOf k r house payoutMin now).shop →
    t.bank = { period := now, g := 0, f := 0, s := 0, x := 0, q := 0 } ∧ t.debtLimit = r.debtLimit ∧
    t.missed = (if r.closing.state = .owed then min 65535 (r.missed + 1) else r.missed) ∧
    t.closing.period = r.bank.period ∧ t.closing.net = N ∧ t.closing.commission = K ∧ t.closing.tag = none ∧
    (house = true → t.closing.state = .house ∧ t.closing.amount = 0 ∧ t.carry = 0 ∧ t.sat = r.sat ∧ t.office = r.office) ∧
    (house = false → r.office ≠ .frozen → 0 < N → (payoutMin ≤ N ∨ r.office = .departed) →
      t.closing.state = .owed ∧ (t.closing.amount : Int) = N ∧ t.carry = 0 ∧ t.sat = r.sat ∧ t.office = r.office) ∧
    (house = false → (r.office = .frozen ∨ N ≤ 0 ∨ (N < payoutMin ∧ r.office ≠ .departed)) →
      t.closing.state = .carried ∧ t.closing.amount = 0 ∧
      t.carry = max (-140737488355327) (min 140737488355327 N) ∧
      (t.carry = N → t.sat = r.sat ∧ t.office = r.office) ∧ (t.carry ≠ N → t.sat = true ∧ t.office = .frozen)) ∧
    (t.debtBar = true ↔ t.carry < -(r.debtLimit : Int)) ∧
    ((rollOf k r house payoutMin now).clamped = true ↔ t.closing.state = .carried ∧ t.carry ≠ N) ∧
    (rollOf k r house payoutMin now).entry =
      { shop := k, period := r.bank.period, g := r.bank.g, f := r.bank.f, s := r.bank.s, x := r.bank.x, q := r.bank.q,
        q0 := r.remainder, q1 := t.remainder, carryBefore := r.carry, folded := folded, commission := K, net := N,
        state := t.closing.state, amount := t.closing.amount, carryAfter := t.carry,
        clamped := if t.closing.state = .carried then N - t.carry else 0,
        office := r.office, debtLimit := r.debtLimit, debtBar := t.debtBar, sat := t.sat, missed := t.missed }

/-- A roll neither makes nor loses money: what the shop was owed or owed before (carry, plus an amount still OWED), with the period's
flows, is what it is owed or owes after, with the commission, the amount clamped away and, in the house range, the net the house
takes (R116, R126, R127). -/
def Obligations.TheRollConservesMoney : Prop :=
  ∀ (k : Nat) (r : ShopRecord) (house : Bool) (payoutMin now : Nat),
    r.carry + (if r.closing.state = .owed then (r.closing.amount : Int) else 0)
        + r.bank.g - r.bank.f + r.bank.x - r.bank.s =
      (rollOf k r house payoutMin now).shop.carry
        + (if (rollOf k r house payoutMin now).shop.closing.state = .owed then
            ((rollOf k r house payoutMin now).shop.closing.amount : Int) else 0)
        + (rollOf k r house payoutMin now).shop.closing.commission + (rollOf k r house payoutMin now).entry.clamped
        + (if house = true then (rollOf k r house payoutMin now).shop.closing.net else 0)

/-- The sweep rolls the lowest shop at or above its cursor that is behind, under one reservation: the shop and house records are
written, one ROLL entry is appended, the unrolled count falls, the cursor moves to the shop after and the wait count is 0; a
saturation of the carry or of a house field raises SETTLE_FAULT (R111, R124, R125, R135, R137, R138). -/
def Obligations.TheSweepRollsTheLowestShopBehind : Prop :=
  ∀ (s : State) (k : Nat), s.nextWork = some .sweep → s.settle.cursor ≤ k → k ≤ 511 →
    (s.shop k).bank.period < s.settle.period →
    (∀ j, s.settle.cursor ≤ j → j < k → s.settle.period ≤ (s.shop j).bank.period) →
    ∃ t, exec .rollSweep s = .next t ∧ shopWritten s t k (s.rollFor k).shop ∧
      t.store.houseRec =
        houseAfter s.store.houseRec (s.store.house.has k) (s.rollFor k).entry.commission (s.rollFor k).entry.net ∧
      oneEntry s t s.settle.period (.roll (s.rollFor k).entry) ∧
      t.settle = { s.settle with unrolled := s.settle.unrolled - 1, cursor := k + 1, wait := 0 } ∧
      settleFault s t (rollFull s k) ∧ onlyRaises s t [1, 4, 5] ∧
      t.channels = s.channels ∧ t.plu = s.plu ∧ t.store.nextTag = s.store.nextTag ∧ settleFrame s t

/-- The accrual at the head of the queue is applied to its shop's open bank, first rolled if it is behind, with the accrual mark;
the four accumulators stop at 2^47 − 1, which freezes the shop, while Q takes the whole product; an UNCLAIMED goes to the house
record alone; a saturation of a bank, of the roll's carry or of a house field raises SETTLE_FAULT (R111, R114, R115, R117, R124, R136,
R137). -/
def Obligations.AccrualsReachTheOpenBank : Prop :=
  ∀ (s : State) (e : Effect) (period source : Nat) (rest : List Accrual),
    s.nextWork = some .accrual → s.settle.accruals = .money e period source :: rest →
    (∀ (k : Nat) (bank : OpenBank) (full : Bool), accrues (s.shop k).bank e k bank full →
      s.settle.period ≤ (s.shop k).bank.period →
      ∃ t, exec .accrualApply s = .next t ∧ shopWritten s t k (accruedShop (s.shop k) bank full) ∧
        t.store.houseRec = { s.store.houseRec with mark := source } ∧
        t.settle = { s.settle with accruals := rest, wait := waitAfter s } ∧
        settleFault s t full ∧ onlyRaises s t [1] ∧
        { t with settle := s.settle, store.shops := s.store.shops, store.houseRec := s.store.houseRec,
                 attn.pending := s.attn.pending } = s) ∧
    (∀ (k : Nat) (bank : OpenBank) (full : Bool), accrues (s.rollFor k).shop.bank e k bank full →
      (s.shop k).bank.period < s.settle.period →
      ∃ t, exec .accrualApply s = .next t ∧ shopWritten s t k (accruedShop (s.rollFor k).shop bank full) ∧
        t.store.houseRec =
          { houseAfter s.store.houseRec (s.store.house.has k) (s.rollFor k).entry.commission (s.rollFor k).entry.net with
            mark := source } ∧
        oneEntry s t s.settle.period (.roll (s.rollFor k).entry) ∧
        t.settle = { s.settle with accruals := rest, wait := waitAfter s, unrolled := s.settle.unrolled - 1 } ∧
        settleFault s t (full || rollFull s k) ∧ onlyRaises s t [1, 4, 5] ∧
        t.channels = s.channels ∧ t.plu = s.plu ∧ t.store.nextTag = s.store.nextTag ∧ settleFrame s t) ∧
    (∀ amount : Nat, e = .unclaimed amount →
      ∃ t, exec .accrualApply s = .next t ∧
        t.store.houseRec =
          { s.store.houseRec with
            unclaimed := min 9223372036854775807 (s.store.houseRec.unclaimed + amount), mark := source,
            sat := s.store.houseRec.sat || decide (9223372036854775807 < s.store.houseRec.unclaimed + amount) } ∧
        t.settle = { s.settle with accruals := rest, wait := waitAfter s } ∧
        settleFault s t (decide (9223372036854775807 < s.store.houseRec.unclaimed + amount)) ∧ onlyRaises s t [1] ∧
        { t with settle := s.settle, store.houseRec := s.store.houseRec, attn.pending := s.attn.pending } = s)

/-- A CLOSE entry at the head is refused ROLL_BUSY while shops are unrolled, PAYOUT_OPEN while payouts are open, giving its
reservation back; else the period advances in the store and in both copies with one PERIOD entry, all 512 shops are behind, the
channels get the advance notice, and the answer is DONE (R131, R132, R133). -/
def Obligations.TheCloseIsRefusedOrCommitted : Prop :=
  ∀ (s : State) (requested : Nat) (rest : List Accrual),
    s.nextWork = some .accrual → s.settle.accruals = .close requested :: rest → s.ledger.closeOutstanding = true →
    (0 < s.settle.unrolled →
      exec .closeEntry s = .next (State.refuse
        { s with settle := { s.settle with accruals := rest, wait := waitAfter s }, ledger.closeOutstanding := false,
                 journal.reserved := s.journal.reserved - 1 } .rollBusy)) ∧
    (s.settle.unrolled = 0 → 0 < s.settle.openPayouts →
      exec .closeEntry s = .next (State.refuse
        { s with settle := { s.settle with accruals := rest, wait := waitAfter s }, ledger.closeOutstanding := false,
                 journal.reserved := s.journal.reserved - 1 } .payoutOpen)) ∧
    (s.settle.unrolled = 0 → s.settle.openPayouts = 0 →
      ∃ m : State, exec .closeEntry s = .next (m.advanceNotice.done []) ∧ m.store.periodWord = requested + 1 ∧
        entryJoins { s with journal.reserved := s.journal.reserved - 1 } m (requested + 1) (.period requested (requested + 1)) ∧
        marksFollow s m 0 1 ∧
        m.settle = { s.settle with period := requested + 1, accruals := rest, wait := waitAfter s, unrolled := 512,
                                   cursor := 0 } ∧
        m.ledger = { s.ledger with period := requested + 1, closeOutstanding := false } ∧ onlyRaises s m [5] ∧
        { m with settle := s.settle, ledger := s.ledger, store.periodWord := s.store.periodWord,
                 store.ring := s.store.ring, store.nextToWrite := s.store.nextToWrite, journal := s.journal,
                 attn.pending := s.attn.pending } = s)

/-! ### Channels and payouts (chapters 8 and 9) -/

/-- While two general reservations could be granted, a free slot goes to a waiting channel: the lowest free slot, to the lowest
waiting channel under FIXED, under ROTATING to the first after the last granted; it enters RUNNING and its visit joins the
class 3 work. Without room, a free slot or a waiting channel, nothing is granted (R151, R152, R153). -/
def Obligations.ASlotIsGrantedByPriority : Prop :=
  (∀ (s : State) (k c : Nat), s.canReserve .general 2 = true →
    k ≤ 15 → s.slot k = .free → (∀ j, j < k → s.slot j ≠ .free) →
    c ≤ 3 → (s.channel c).st = .waitSlot →
    (s.store.settings.priority = .fixed → ∀ d, d < c → (s.channel d).st ≠ .waitSlot) →
    (s.store.settings.priority = .rotating →
      ∃ n, n ≤ 3 ∧ c = (s.plu.lastGranted + 1 + n) % 4 ∧
        ∀ m, m < n → (s.channel ((s.plu.lastGranted + 1 + m) % 4)).st ≠ .waitSlot) →
    ∃ t, exec .slotGrant s = .next t ∧ slotWritten s t k (.granted c) ∧
      channelWritten s t c { s.channel c with st := .running, slot := some k } ∧ t.plu.lastGranted = c ∧
      t.settle.visits = s.settle.visits ++ [{ channel := c, shop := (s.channel c).cur, slot := k }] ∧
      { t with channels := s.channels, plu.slots := s.plu.slots, plu.lastGranted := s.plu.lastGranted,
               settle.visits := s.settle.visits } = s) ∧
  (∀ s : State,
    (s.canReserve .general 2 = false ∨ (∀ k, k ≤ 15 → s.slot k ≠ .free) ∨ (∀ c, c ≤ 3 → (s.channel c).st ≠ .waitSlot)) →
    exec .slotGrant s = .next s)

/-- A visit with its two reservations rolls the shop if it is behind; it claims a closing bank that then stands OWED (EMITTED with
the next tag, the slot filled with its deadline, PAY queued, one PAY_EMIT entry) and otherwise releases its slot; its channel
advances and, at terminal count, CHANNEL_TC is raised; slots are then granted; the journal's attentions follow the pair granted and the
entries appended. Without the reservations the visit is not made (R134, R153, R154, R163, R164, R180, R181). That grants follow in the same step is the model's choice (log 26), that a channel with a mask
pending then enters IDLE its inference (log 28). -/
def Obligations.AVisitClaimsAnOwedBank : Prop :=
  ∀ (s : State) (v : Visit) (rest : List Visit) (r : ShopRecord) (c : Channel),
    s.nextWork = some .visit → s.settle.visits = v :: rest →
    r = (if s.behind v.shop = true then (s.rollFor v.shop).shop else s.shop v.shop) → c = s.channel v.channel →
    (s.canReserve .general 2 = true → ∃ m : State, exec .channelVisit s = .next m.grantSlots ∧
      onlyRaises s m [1, 4, 5, 7] ∧ (c.remaining = 0 → m.attn.pending.getLsbD 7 = true) ∧
      settleFault s m (s.behind v.shop && rollFull s v.shop) ∧
      marksFollow s m 2 ((if s.behind v.shop = true then 1 else 0) + if r.closing.state = .owed then 1 else 0) ∧
      m.store.houseRec = (if s.behind v.shop = true then
        houseAfter s.store.houseRec (s.store.house.has v.shop) (s.rollFor v.shop).entry.commission (s.rollFor v.shop).entry.net
        else s.store.houseRec) ∧
      (if r.closing.state = .owed then
        shopWritten s m v.shop { r with closing := { r.closing with state := .emitted, tag := some s.store.nextTag } } ∧
        slotWritten s m v.slot
          (.filled { tag := s.store.nextTag, shop := v.shop, period := r.closing.period, amount := r.closing.amount,
                     deadline := s.time + BitVec.ofNat 32 (s.store.settings.answerTimeout * 1000), sent := false,
                     expired := false }) ∧
        m.store.nextTag = (if s.store.nextTag = 65535 then 1 else s.store.nextTag + 1) ∧
        m.plu.payList = s.plu.payList ++ [v.slot] ∧
        channelWritten s m v.channel
          (Channel.advance { c with emitted := (c.emitted + 1) % 4294967296 } (s.setup v.channel) true) ∧
        m.settle =
          { s.settle with
            visits := rest, visitsHigher := false, wait := waitAfter s, openPayouts := s.settle.openPayouts + 1,
            unrolled := if s.behind v.shop = true then s.settle.unrolled - 1 else s.settle.unrolled } ∧
        (s.behind v.shop = false →
          entryJoins s m s.settle.period
            (.payEmit s.store.nextTag v.shop r.closing.period r.closing.amount v.channel)) ∧
        (s.behind v.shop = true →
          m.store.ring =
            ({ seq := s.store.nextToWrite + 1, time := s.time, period := s.settle.period,
               body := .payEmit s.store.nextTag v.shop r.closing.period r.closing.amount v.channel } ::
             { seq := s.store.nextToWrite, time := s.time, period := s.settle.period,
               body := .roll (s.rollFor v.shop).entry } :: s.store.ring).take 16384 ∧
          pointersPass s m 2)
      else
        (if s.behind v.shop = true then shopWritten s m v.shop r else m.store.shops = s.store.shops) ∧
        slotWritten s m v.slot .free ∧ m.store.nextTag = s.store.nextTag ∧ m.plu.payList = s.plu.payList ∧
        channelWritten s m v.channel (Channel.advance c (s.setup v.channel) false) ∧
        m.settle =
          { s.settle with
            visits := rest, visitsHigher := false, wait := waitAfter s,
            unrolled := if s.behind v.shop = true then s.settle.unrolled - 1 else s.settle.unrolled } ∧
        (if s.behind v.shop = true then entryJoins s m s.settle.period (.roll (s.rollFor v.shop).entry) else noEntry s m)) ∧
      { m with plu.slots := s.plu.slots, plu.payList := s.plu.payList, settle := s.settle, channels := s.channels,
               store.shops := s.store.shops, store.houseRec := s.store.houseRec, store.nextTag := s.store.nextTag,
               store.ring := s.store.ring, store.nextToWrite := s.store.nextToWrite, journal := s.journal,
               attn.pending := s.attn.pending } = s) ∧
    (s.canReserve .general 2 = false → ∃ t, exec .channelVisit s = .next t ∧ slotWritten s t v.slot .free ∧
      channelWritten s t v.channel
        (if c.maskPending = true then { c with st := .idle, maskPending := false, slot := none }
        else { c with st := .waitSlot, slot := none }) ∧
      t.settle = { s.settle with visits := rest, visitsHigher := false, wait := waitAfter s } ∧
      { t with plu.slots := s.plu.slots, channels := s.channels, settle := s.settle } = s)

/-- A channel after its visit: visits count up, a DEMAND claim uses one credit; before the end of the pass it moves one shop in its
direction and walks, or is IDLE with a mask pending; at terminal count TC is set and it is DONE and masked, or with auto-init
reloads and waits for the close, walks on a pass pending, or is IDLE with a mask pending. The advance notice changes only channels
that are unmasked with auto-init: WAIT_CLOSE walks, a channel on a pass notes the pass pending (R145, R146, R149, R155 to R157; that
all the notice's requests are posted before any is granted is the model's choice, log 27). -/
def Obligations.AChannelAdvancesOrReachesTerminalCount : Prop :=
  (∀ (v d : Channel) (u : ChannelSetup) (claimed : Bool),
      d = { v with visits := (v.visits + 1) % 4294967296, slot := none,
                   credit := if claimed = true ∧ v.mode = .demand then v.credit - 1 else v.credit } →
      (0 < v.remaining →
        (v.maskPending = false →
          v.advance u claimed =
            walking { d with remaining := v.remaining - 1,
                             cur := if v.dir = .ascending then v.cur + 1 else v.cur - 1 }) ∧
        (v.maskPending = true →
          v.advance u claimed =
            { d with remaining := v.remaining - 1, cur := if v.dir = .ascending then v.cur + 1 else v.cur - 1, st := .idle,
                     maskPending := false })) ∧
      (v.remaining = 0 → v.auto = false →
        v.advance u claimed = { d with tc := true, st := .done, mask := true, maskPending := false }) ∧
      (v.remaining = 0 → v.auto = true → v.maskPending = true →
        v.advance u claimed =
          { d with tc := true, cur := u.baseShop, remaining := u.baseCount, dir := u.dir, mode := u.mode, auto := u.auto,
                   st := .idle, maskPending := false }) ∧
      (v.remaining = 0 → v.auto = true → v.maskPending = false → v.passPending = true →
        v.advance u claimed =
          walking { d with tc := true, cur := u.baseShop, remaining := u.baseCount, dir := u.dir, mode := u.mode,
                           auto := u.auto, passPending := false }) ∧
      (v.remaining = 0 → v.auto = true → v.maskPending = false → v.passPending = false →
        v.advance u claimed =
          { d with tc := true, cur := u.baseShop, remaining := u.baseCount, dir := u.dir, mode := u.mode, auto := u.auto,
                   st := .waitClose })) ∧
  (∀ s : State, ∃ m : State, s.advanceNotice = m.grantSlots ∧
    (∀ c, c ≤ 3 → m.channel c =
      (if (s.channel c).mask = true ∨ (s.channel c).auto = false ∨ (s.channel c).st = .idle ∨ (s.channel c).st = .done then
        s.channel c
      else if (s.channel c).st = .waitClose then walking (s.channel c)
      else { s.channel c with passPending := true })) ∧
    (∀ c, 3 < c → m.channel c = s.channel c) ∧ { m with channels := s.channels } = s)

/-- Outside recovery, without the warning and with no answer of the bank still at work, the head bank frame is taken: DONE and BACK are
handed to the Settlement Unit, PULL adds credit, up to 255, and releases a channel in WAIT_PULL; a shop above 511, reason 0,
channel above 3 or count 0 is stray. Otherwise no frame is taken (R158, R165, R166, R174). That grants follow in the same step is
the model's choice (log 26). -/
def Obligations.BankFramesAreTakenInOrder : Prop :=
  (∀ s : State,
    (s.pfw = true ∨ s.ledger.mode = .recovering ∨ s.payLink.queue = [] ∨
      (∃ tag shop period, Answer.done tag shop period ∈ s.settle.answers) ∨
      (∃ tag shop period reason, Answer.back tag shop period reason ∈ s.settle.answers)) →
    exec .bankFrameTaken s = .next s ∧ exec .pull s = .next s) ∧
  (∀ (s : State) (f : Frame) (rest : List Frame), s.pfw = false → s.ledger.mode ≠ .recovering →
    (∀ a ∈ s.settle.answers, ∃ slot tag, a = .deadline slot tag) → s.payLink.queue = f :: rest →
    (f.kind = 0x91 → fieldAt f.body 2 2 ≤ 511 →
      exec .bankFrameTaken s = .next
        { s with payLink.queue := rest,
                 settle.answers := s.settle.answers ++
                   [.done (fieldAt f.body 0 2) (fieldAt f.body 2 2) (fieldAt f.body 4 2)] }) ∧
    (f.kind = 0x92 → fieldAt f.body 2 2 ≤ 511 → fieldAt f.body 6 1 ≠ 0 →
      exec .bankFrameTaken s = .next
        { s with payLink.queue := rest,
                 settle.answers := s.settle.answers ++
                   [.back (fieldAt f.body 0 2) (fieldAt f.body 2 2) (fieldAt f.body 4 2) (fieldAt f.body 6 1)] }) ∧
    (((f.kind = 0x91 ∧ 511 < fieldAt f.body 2 2) ∨
        (f.kind = 0x92 ∧ (511 < fieldAt f.body 2 2 ∨ fieldAt f.body 6 1 = 0))) →
      exec .bankFrameTaken s = .next { s with payLink.queue := rest, plu.stray := (s.plu.stray + 1) % 4294967296 }) ∧
    (f.kind = 0x93 → (3 < fieldAt f.body 0 1 ∨ fieldAt f.body 1 1 = 0) →
      exec .pull s = .next { s with payLink.queue := rest, plu.stray := (s.plu.stray + 1) % 4294967296 }) ∧
    (∀ v : Channel, f.kind = 0x93 → fieldAt f.body 0 1 ≤ 3 → 0 < fieldAt f.body 1 1 →
      v = { s.channel (fieldAt f.body 0 1) with
            credit := min 255 ((s.channel (fieldAt f.body 0 1)).credit + fieldAt f.body 1 1) } →
      ∃ m : State, exec .pull s = .next m.grantSlots ∧ m.payLink = { s.payLink with queue := rest } ∧
        channelWritten s m (fieldAt f.body 0 1) (if v.st = .waitPull then walking v else v) ∧
        { m with payLink := s.payLink, channels := s.channels } = s))

/-- A DONE whose payout is FILLED makes the bank SETTLED and adds its amount to the settled total; a BACK makes it RETURNED, adds its
amount to the carry within its range and raises PAYOUT_RETURNED; each closes the payout with one PAY_DONE or PAY_BACK entry, frees
the slot and withdraws a PAY that still waits, and a saturation raises SETTLE_FAULT. Late, it does the same to an IN_DOUBT shop and
is counted; else, and always with a blank store, it is stray (R111, R126, R165 to R169, R172). That grants follow in the same step
is the model's choice (log 26). -/
def Obligations.AnswersSettleOrReturnThePayout : Prop :=
  (∀ (s : State) (tag shop period : Nat) (rest : List Answer) (r : ShopRecord),
    s.nextWork = some .answer → s.settle.answers = .done tag shop period :: rest → r = s.shop shop →
    (∀ (k : Nat) (p : Payout), filledFirst s k tag p → p.shop = shop → p.period = period → s.canReserve .whole 1 = true →
      ∃ m : State, exec .doneAnswer s = .next m.grantSlots ∧
        shopWritten s m shop { r with closing := { r.closing with state := .settled } } ∧
        m.store.houseRec = settledHouse s.store.houseRec r.closing.amount ∧
        oneEntry s m s.settle.period (.payDone tag shop r.closing.period r.closing.amount false) ∧
        slotWritten s m k .free ∧ m.plu.payList = s.plu.payList.filter (fun x => decide (x ≠ k)) ∧
        m.plu.late = s.plu.late ∧ m.plu.stray = s.plu.stray ∧ m.plu.lastGranted = s.plu.lastGranted ∧
        m.settle = { s.settle with answers := rest, wait := waitAfter s, openPayouts := s.settle.openPayouts - 1 } ∧
        m.channels = s.channels ∧ m.store.nextTag = s.store.nextTag ∧
        settleFault s m (decide (9223372036854775807 < s.store.houseRec.settled + r.closing.amount)) ∧
        onlyRaises s m [1, 4, 5] ∧ settleFrame s m) ∧
    (notFilled s tag → r.closing.state = .inDoubt → r.closing.period = period → r.closing.tag = some tag →
      s.canReserve .whole 1 = true →
      ∃ t, exec .doneAnswer s = .next t ∧ shopWritten s t shop { r with closing := { r.closing with state := .settled } } ∧
        t.store.houseRec = settledHouse s.store.houseRec r.closing.amount ∧
        oneEntry s t s.settle.period (.payDone tag shop r.closing.period r.closing.amount true) ∧
        t.plu = { s.plu with late := (s.plu.late + 1) % 4294967296 } ∧
        t.settle = { s.settle with answers := rest, wait := waitAfter s, openPayouts := s.settle.openPayouts - 1 } ∧
        t.channels = s.channels ∧ t.store.nextTag = s.store.nextTag ∧
        settleFault s t (decide (9223372036854775807 < s.store.houseRec.settled + r.closing.amount)) ∧
        onlyRaises s t [1, 4, 5] ∧ settleFrame s t) ∧
    ((s.store.signature = false ∨ (∃ k p, filledFirst s k tag p ∧ (p.shop ≠ shop ∨ p.period ≠ period)) ∨
        (notFilled s tag ∧ ¬(r.closing.state = .inDoubt ∧ r.closing.period = period ∧ r.closing.tag = some tag))) →
      exec .doneAnswer s = .next
        { s with settle.answers := rest, settle.wait := waitAfter s, plu.stray := (s.plu.stray + 1) % 4294967296 })) ∧
  (∀ (s : State) (tag shop period reason : Nat) (rest : List Answer) (r : ShopRecord),
    s.nextWork = some .answer → s.settle.answers = .back tag shop period reason :: rest → r = s.shop shop →
    (∀ (k : Nat) (p : Payout), filledFirst s k tag p → p.shop = shop → p.period = period → s.canReserve .whole 1 = true →
      ∃ m : State, exec .backAnswer s = .next m.grantSlots ∧ shopWritten s m shop (returnedShop r) ∧
        m.store.houseRec = s.store.houseRec ∧
        oneEntry s m s.settle.period (.payBack tag shop r.closing.period r.closing.amount reason false) ∧
        slotWritten s m k .free ∧ m.plu.payList = s.plu.payList.filter (fun x => decide (x ≠ k)) ∧
        m.plu.late = s.plu.late ∧ m.plu.stray = s.plu.stray ∧ m.plu.lastGranted = s.plu.lastGranted ∧
        m.settle = { s.settle with answers := rest, wait := waitAfter s, openPayouts := s.settle.openPayouts - 1 } ∧
        m.channels = s.channels ∧ m.store.nextTag = s.store.nextTag ∧ m.attn.pending.getLsbD 3 = true ∧
        settleFault s m (returnedShop.carryFull (r.carry + r.closing.amount)) ∧ onlyRaises s m [1, 3, 4, 5] ∧ settleFrame s m) ∧
    (notFilled s tag → r.closing.state = .inDoubt → r.closing.period = period → r.closing.tag = some tag →
      s.canReserve .whole 1 = true →
      ∃ t, exec .backAnswer s = .next t ∧ shopWritten s t shop (returnedShop r) ∧ t.store.houseRec = s.store.houseRec ∧
        oneEntry s t s.settle.period (.payBack tag shop r.closing.period r.closing.amount reason true) ∧
        t.plu = { s.plu with late := (s.plu.late + 1) % 4294967296 } ∧
        t.settle = { s.settle with answers := rest, wait := waitAfter s, openPayouts := s.settle.openPayouts - 1 } ∧
        t.channels = s.channels ∧ t.store.nextTag = s.store.nextTag ∧ t.attn.pending.getLsbD 3 = true ∧
        settleFault s t (returnedShop.carryFull (r.carry + r.closing.amount)) ∧ onlyRaises s t [1, 3, 4, 5] ∧ settleFrame s t) ∧
    ((s.store.signature = false ∨ (∃ k p, filledFirst s k tag p ∧ (p.shop ≠ shop ∨ p.period ≠ period)) ∨
        (notFilled s tag ∧ ¬(r.closing.state = .inDoubt ∧ r.closing.period = period ∧ r.closing.tag = some tag))) →
      exec .backAnswer s = .next
        { s with settle.answers := rest, settle.wait := waitAfter s, plu.stray := (s.plu.stray + 1) % 4294967296 }))

/-- A FILLED slot whose deadline is reached hands over one expiry, and none before it, none a second time, and none under the warning (the
last is the model's inference, log 40). Taken while the slot still holds the tag, it makes the shop
IN_DOUBT with one PAY_DOUBT entry, raises PAYOUT_IN_DOUBT and frees the slot, the payout staying open; taken afterwards it is
discarded (R70, R134, R170, R171). That grants follow in the same step is the model's choice (log 26). -/
def Obligations.DeadlinesPutPayoutsInDoubt : Prop :=
  (∀ (s : State) (k : Nat) (p : Payout), s.pfw = false → s.slot k = .filled p → p.expired = false →
    (s.time - p.deadline).toNat < 2147483648 →
    ∃ t, exec (.payDeadlineReached k) s = .next t ∧ slotWritten s t k (.filled { p with expired := true }) ∧
      t.settle.answers = s.settle.answers ++ [.deadline k p.tag] ∧
      { t with plu.slots := s.plu.slots, settle.answers := s.settle.answers } = s) ∧
  (∀ (s : State) (k : Nat),
    (s.pfw = true ∨ ∀ p, s.slot k = .filled p → p.expired = true ∨ 2147483648 ≤ (s.time - p.deadline).toNat) →
    exec (.payDeadlineReached k) s = .next s) ∧
  (∀ (s : State) (k tag : Nat) (rest : List Answer), s.nextWork = some .answer → s.settle.answers = .deadline k tag :: rest →
    (∀ (p : Payout) (r : ShopRecord), s.slot k = .filled p → p.tag = tag → r = s.shop p.shop → s.canReserve .whole 1 = true →
      ∃ m : State, exec .deadlineExpiry s = .next m.grantSlots ∧
        shopWritten s m p.shop { r with closing := { r.closing with state := .inDoubt } } ∧
        m.store.houseRec = s.store.houseRec ∧
        oneEntry s m s.settle.period (.payDoubt tag p.shop r.closing.period r.closing.amount .deadline) ∧
        slotWritten s m k .free ∧ m.plu.payList = s.plu.payList.filter (fun x => decide (x ≠ k)) ∧
        m.plu.late = s.plu.late ∧ m.plu.stray = s.plu.stray ∧ m.plu.lastGranted = s.plu.lastGranted ∧
        m.settle = { s.settle with answers := rest, wait := waitAfter s } ∧ m.channels = s.channels ∧
        m.store.nextTag = s.store.nextTag ∧ m.attn.pending.getLsbD 2 = true ∧ onlyRaises s m [2, 4, 5] ∧ settleFrame s m) ∧
    ((∀ p, s.slot k = .filled p → p.tag ≠ tag) →
      exec .deadlineExpiry s = .next { s with settle.answers := rest, settle.wait := waitAfter s }))

/-! ### Journal stream, attention, recovery (chapters 3, 7, 10, 11) -/

/-- At a mark of a running stream with a frame place free and entries left, one STREAM frame is formed from the written entries at
next to stream, in sequence order, as many as fit up to 4 and 250 body bytes, and next to stream passes them; else the mark
passes without effect (R186). That a mark takes one interval off the count is the model's choice (log 31). -/
def Obligations.AStreamFrameIsFormedAtAMark : Prop :=
  ∀ s : State, s.journal.streamOn = true → s.journal.interval ≤ s.journal.streamCount →
    ((s.pfw = true ∨ s.officeLink.streamPlace ≠ none ∨ s.nextWrite ≤ s.journal.nextStream) →
      exec .streamMark s = .next { s with journal.streamCount := s.journal.streamCount - s.journal.interval }) ∧
    (∀ e : JournalEntry, s.pfw = false → s.officeLink.streamPlace = none → s.journal.nextStream < s.nextWrite →
      s.entry s.journal.nextStream = some e →
      ∃ es : List JournalEntry, es.head? = some e ∧ es.length ≤ 4 ∧
        1 + (es.map fun x => (entryBytes x).length).sum ≤ 250 ∧ s.journal.nextStream + es.length ≤ s.nextWrite ∧
        (∀ i, i < es.length → s.entry (s.journal.nextStream + i) = es[i]?) ∧
        (∀ x, es.length < 4 → s.journal.nextStream + es.length < s.nextWrite →
          s.entry (s.journal.nextStream + es.length) = some x →
          250 < 1 + (es.map fun y => (entryBytes y).length).sum + (entryBytes x).length) ∧
        exec .streamMark s = .next
          { s with journal.streamCount := s.journal.streamCount - s.journal.interval,
                   journal.nextStream := s.journal.nextStream + es.length, officeLink.streamPlace := some es })

/-- With no source in service and the ATTN place empty, a pending unmasked source is chosen: the lowest in FIXED, else the first
after the rotating lowest; its pending flag is cleared, its frame placed, and it is in service, or in AUTOMATIC_END becomes
the rotating lowest at once; nothing is chosen while PFW is asserted, while a source is in service or the ATTN place is occupied, or with
no source pending and unmasked (R192, R198). -/
def Obligations.AttentionIsChosenByMode : Prop :=
  (∀ s : State,
    (s.pfw = true ∨ s.attn.inService ≠ none ∨ s.officeLink.attnPlace ≠ none ∨
      ∀ n, n ≤ 7 → s.attn.pending.getLsbD n = true → s.attn.mask.getLsbD n = true) → exec .attnChoice s = .next s) ∧
  ∀ s : State, s.attn.inService = none → s.officeLink.attnPlace = none →
    (∀ n : Nat, s.pfw = false → n ≤ 7 → s.attn.pending.getLsbD n = true → s.attn.mask.getLsbD n = false →
      (s.attn.mode = .fixed → (∀ j, j < n → s.attn.pending.getLsbD j = true → s.attn.mask.getLsbD j = true) →
        exec .attnChoice s = .next
          { s with attn.pending := s.attn.pending &&& ~~~(1#8 <<< n), attn.inService := some n,
                   officeLink.attnPlace := some n }) ∧
      (∀ d, d ≤ 7 → n = (s.attn.lowest + 1 + d) % 8 →
        (∀ j, j < d → s.attn.pending.getLsbD ((s.attn.lowest + 1 + j) % 8) = true →
          s.attn.mask.getLsbD ((s.attn.lowest + 1 + j) % 8) = true) →
        (s.attn.mode = .rotating →
          exec .attnChoice s = .next
            { s with attn.pending := s.attn.pending &&& ~~~(1#8 <<< n), attn.inService := some n,
                     officeLink.attnPlace := some n }) ∧
        (s.attn.mode = .automaticEnd →
          exec .attnChoice s = .next
            { s with attn.pending := s.attn.pending &&& ~~~(1#8 <<< n), attn.lowest := n,
                     officeLink.attnPlace := some n })))

/-- The card pass takes the next serial: a sound record with held amounts is rewritten without them and counted, one without is
left, and a faulty one is left and entered in the fault list (R41, R46, R52, R53). -/
def Obligations.TheCardPassReleasesHolds : Prop :=
  ∀ (s : State) (serial : Nat) (r : CardRecord), passes s → s.recovery.cardCursor < s.cap →
    serial = s.recovery.cardCursor → r = s.card serial →
    (faulty r (s.rangeProgram serial) = false → r.held = 0 → r.holdCount = 0 →
      exec .cardPassRecord s = .next { s with recovery.cardCursor := serial + 1 }) ∧
    (faulty r (s.rangeProgram serial) = false → (r.held ≠ 0 ∨ r.holdCount ≠ 0) →
      ∃ t, exec .cardPassRecord s = .next t ∧ cardWritten s t serial { r with held := 0, holdCount := 0, checkOk := true } ∧
        t.recovery = { s.recovery with cardCursor := serial + 1, rewritten := s.recovery.rewritten + 1,
                                       released := s.recovery.released + r.held } ∧
        { t with store.cards := s.store.cards, recovery := s.recovery } = s) ∧
    (faulty r (s.rangeProgram serial) = true → serial ∈ s.ledger.faults →
      exec .cardPassRecord s = .next { s with recovery.cardCursor := serial + 1 }) ∧
    (faulty r (s.rangeProgram serial) = true → serial ∉ s.ledger.faults →
      ∃ t, exec .cardPassRecord s = .next t ∧
        (s.ledger.faults.length < 16 → t.ledger = { s.ledger with faults := s.ledger.faults ++ [serial] }) ∧
        (16 ≤ s.ledger.faults.length → t.ledger = { s.ledger with faultOverflow := true }) ∧
        t.recovery = { s.recovery with cardCursor := serial + 1 } ∧ t.attn.pending.getLsbD 0 = true ∧ onlyRaises s t [0] ∧
        { t with ledger := s.ledger, recovery := s.recovery, attn.pending := s.attn.pending } = s)

/-- The recovery pass makes the lowest EMITTED shop IN_DOUBT with one PAY_DOUBT entry of cause RECOVERY; with the last of them it
makes the unrolled and the open payout count from the records and raises PAYOUT_IN_DOUBT (R141; that the counts are made at
that moment is the model's choice, log 25). -/
def Obligations.TheRecoveryPassDoubtsEmittedShops : Prop :=
  ∀ (s : State) (k : Nat) (r : ShopRecord), passes s → k ≤ 511 → r = s.shop k → r.closing.state = .emitted →
    (∀ j, j < k → (s.shop j).closing.state ≠ .emitted) → s.canReserve .whole 1 = true →
    ∃ t, exec .recoveryDoubt s = .next t ∧ shopWritten s t k { r with closing := { r.closing with state := .inDoubt } } ∧
      oneEntry s t s.settle.period
        (.payDoubt (r.closing.tag.getD 0) k r.closing.period r.closing.amount .recovery) ∧
      t.recovery = { s.recovery with doubted := s.recovery.doubted + 1, counted := t.recovery.counted } ∧
      onlyRaises s t [2, 4, 5] ∧
      ((∃ j, j ≤ 511 ∧ j ≠ k ∧ (s.shop j).closing.state = .emitted) →
        t.settle = s.settle ∧ t.recovery.counted = s.recovery.counted) ∧
      (s.recovery.counted = false → (∀ j, j ≤ 511 → j ≠ k → (s.shop j).closing.state ≠ .emitted) →
        t.recovery.counted = true ∧ t.attn.pending.getLsbD 2 = true ∧
        t.settle =
          { s.settle with
            unrolled := ((List.range 512).filter fun j => decide ((s.shop j).bank.period < s.settle.period)).length,
            openPayouts :=
              ((List.range 512).filter fun j => decide (j = k ∨ (s.shop j).closing.state = .inDoubt)).length }) ∧
      { t with settle := s.settle, recovery := s.recovery, store.shops := s.store.shops, store.ring := s.store.ring,
               store.nextToWrite := s.store.nextToWrite, journal := s.journal, attn.pending := s.attn.pending } = s

/-- After a reset the oldest entry above the accrual mark that posts an accrual yields it again: SOLD from ACTIVATE and LOAD,
REDEEMED from REDEEM and CAPTURE, REFUNDED from REFUND, CASHED from CASHOUT, UNCLAIMED from a CLOSE_CARD with an amount; it is
applied as from the queue, its shop rolled first if behind, and the mark moves to its entry; a saturation raises SETTLE_FAULT.
Without a reservation for the roll the pass holds at that entry; none is replayed while a shop is EMITTED (R111, R114, R117, R124,
R135, R141, R142). That the first replay makes the counts, if they have not been made, is the model's choice (log 25). -/
def Obligations.AccrualsAreReplayed : Prop :=
  (∀ card seq lane terminal shop amount balance, effectOfEntry (.activate card seq lane terminal shop amount balance) =
    some (.sold shop amount)) ∧
  (∀ card seq lane terminal shop amount balance, effectOfEntry (.load card seq lane terminal shop amount balance) =
    some (.sold shop amount)) ∧
  (∀ card seq shop lane terminal program rate amount,
    effectOfEntry (.redeem card seq shop lane terminal program rate amount) = some (.redeemed shop amount rate)) ∧
  (∀ card seq ref shop program held amount rate,
    effectOfEntry (.capture card seq ref shop program held amount rate) = some (.redeemed shop amount rate)) ∧
  (∀ card seq capture shop lane terminal original amount rate period refunded,
    effectOfEntry (.refund card seq capture shop lane terminal original amount rate period refunded) =
      some (.refunded original amount rate)) ∧
  (∀ card seq shop lane terminal amount, effectOfEntry (.cashout card seq shop lane terminal amount) =
    some (.cashed shop amount)) ∧
  (∀ card seq amount, effectOfEntry (.closeCard card seq amount) =
    if 0 < amount then some (.unclaimed amount) else none) ∧
  (∀ (s : State) (e : JournalEntry) (eff : Effect), passes s → (∀ k, k ≤ 511 → (s.shop k).closing.state ≠ .emitted) →
    replayNext s e eff →
    (∀ (k : Nat) (bank : OpenBank) (full : Bool), accrues (s.shop k).bank eff k bank full →
      s.settle.period ≤ (s.shop k).bank.period →
      ∃ t, exec .accrualReplay s = .next t ∧ shopWritten s t k (accruedShop (s.shop k) bank full) ∧
        t.store.houseRec = { s.store.houseRec with mark := e.seq } ∧ t.settle = countedSettle s ∧
        t.recovery = { s.recovery with replayed := s.recovery.replayed + 1, counted := true } ∧ countsRaised s t ∧
        settleFault s t full ∧ onlyRaises s t (countSources s ++ [1]) ∧
        { t with settle := s.settle, recovery := s.recovery, store.shops := s.store.shops,
                 store.houseRec := s.store.houseRec, attn.pending := s.attn.pending } = s) ∧
    (∀ (k : Nat) (bank : OpenBank) (full : Bool), accrues (s.rollFor k).shop.bank eff k bank full →
      (s.shop k).bank.period < s.settle.period → s.canReserve .general 1 = true →
      ∃ t, exec .accrualReplay s = .next t ∧ shopWritten s t k (accruedShop (s.rollFor k).shop bank full) ∧
        t.store.houseRec =
          { houseAfter s.store.houseRec (s.store.house.has k) (s.rollFor k).entry.commission (s.rollFor k).entry.net with
            mark := e.seq } ∧
        oneEntry s t s.settle.period (.roll (s.rollFor k).entry) ∧
        t.settle = { countedSettle s with unrolled := (countedSettle s).unrolled - 1 } ∧
        t.recovery = { s.recovery with replayed := s.recovery.replayed + 1, counted := true } ∧ countsRaised s t ∧
        settleFault s t (full || rollFull s k) ∧ onlyRaises s t (countSources s ++ [1, 4, 5]) ∧
        { t with settle := s.settle, recovery := s.recovery, store.shops := s.store.shops,
                 store.houseRec := s.store.houseRec, store.ring := s.store.ring,
                 store.nextToWrite := s.store.nextToWrite, journal := s.journal, attn.pending := s.attn.pending } = s) ∧
    (∀ k, eff.shop = some k → (s.shop k).bank.period < s.settle.period → s.canReserve .general 1 = false →
      ∃ t, exec .accrualReplay s = .next t ∧ onlyCounts s t) ∧
    (∀ amount, eff = .unclaimed amount →
      ∃ t, exec .accrualReplay s = .next t ∧
        t.store.houseRec =
          { s.store.houseRec with
            unclaimed := min 9223372036854775807 (s.store.houseRec.unclaimed + amount), mark := e.seq,
            sat := s.store.houseRec.sat || decide (9223372036854775807 < s.store.houseRec.unclaimed + amount) } ∧
        t.settle = countedSettle s ∧
        t.recovery = { s.recovery with replayed := s.recovery.replayed + 1, counted := true } ∧ countsRaised s t ∧
        settleFault s t (decide (9223372036854775807 < s.store.houseRec.unclaimed + amount)) ∧
        onlyRaises s t (countSources s ++ [1]) ∧
        { t with settle := s.settle, recovery := s.recovery, store.houseRec := s.store.houseRec,
                 attn.pending := s.attn.pending } = s)) ∧
  (∀ s : State, passes s → passesDone s → ∃ t, exec .accrualReplay s = .next t ∧ onlyCounts s t) ∧
  (∀ (s : State) (k : Nat), k ≤ 511 → (s.shop k).closing.state = .emitted → exec .accrualReplay s = .next s)

/-- Recovery waits for both passes; over a blank store and at a spent numbering it ends in CONFIG without an entry, also where the
Settlement Unit's pass ends short of an EMITTED shop or of a replay's roll; with the passes complete RESTART is appended from the
whole ring with the reset cause and the passes' counts and the ledger is OPEN or CONFIG by the open flag; with the ring full it stays
RECOVERING; the journal's two attentions are re-armed (R47, R141, R142, R179, R181, R182). That RECOVERY_END makes the unrolled and the
open payout count, with PAYOUT_IN_DOUBT, where no command before it has, is the model's choice (log 25), and that a pass ended at an
EMITTED shop makes no counts and raises no PAYOUT_IN_DOUBT (log 36). -/
def Obligations.RecoveryEndsWithRestart : Prop :=
  (∀ s : State, s.ledger.mode = .recovering → s.pfw = false → s.store.signature = false →
    ∃ t, exec .recoveryEnd s = .next t ∧ t.ledger = { s.ledger with mode := .config } ∧ noEntry s t ∧ rearmed s t 0 ∧
      onlyRaises s t [4, 5] ∧ { t with ledger := s.ledger, journal := s.journal, attn.pending := s.attn.pending } = s) ∧
  (∀ s : State, passes s → s.cap ≤ s.recovery.cardCursor → passesDone s → 4294967296 ≤ s.store.nextToWrite →
    ∃ t, exec .recoveryEnd s = .next t ∧ endsInConfig s t) ∧
  (∀ s : State, passes s → s.cap ≤ s.recovery.cardCursor → passesDone s → s.canReserve .whole 1 = true →
    ∃ t, exec .recoveryEnd s = .next t ∧
      t.ledger = { s.ledger with mode := if s.store.openFlag = true then .opened else .config } ∧
      entryJoins s t s.settle.period
        (.restart s.office.resetCause s.recovery.rewritten s.recovery.released s.recovery.doubted s.recovery.replayed) ∧
      t.settle = countedSettle s ∧ t.recovery = { s.recovery with counted := true } ∧ countsRaised s t ∧ rearmed s t 1 ∧
      onlyRaises s t (countSources s ++ [4, 5]) ∧
      { t with ledger := s.ledger, settle := s.settle, recovery := s.recovery, store.ring := s.store.ring,
               store.nextToWrite := s.store.nextToWrite, journal := s.journal, attn.pending := s.attn.pending } = s) ∧
  (∀ s : State, passes s → s.cap ≤ s.recovery.cardCursor → passesDone s → 16384 ≤ s.unack + s.journal.reserved →
    s.store.nextToWrite + s.journal.reserved < 4294967296 → ∃ t, exec .recoveryEnd s = .next t ∧ onlyCounts s t) ∧
  (∀ s : State, passes s → s.cap ≤ s.recovery.cardCursor → (∃ k, k ≤ 511 ∧ (s.shop k).closing.state = .emitted) →
    4294967296 ≤ s.store.nextToWrite →
    ∃ t, exec .recoveryEnd s = .next t ∧ t.ledger = { s.ledger with mode := .config } ∧ noEntry s t ∧ rearmed s t 0 ∧
      onlyRaises s t [4, 5] ∧ { t with ledger := s.ledger, journal := s.journal, attn.pending := s.attn.pending } = s) ∧
  (∀ (s : State) (e : JournalEntry) (eff : Effect) (k : Nat), passes s → s.cap ≤ s.recovery.cardCursor →
    (∀ j, j ≤ 511 → (s.shop j).closing.state ≠ .emitted) → replayNext s e eff → eff.shop = some k →
    (s.shop k).bank.period < s.settle.period → 4294967296 ≤ s.store.nextToWrite →
    ∃ t, exec .recoveryEnd s = .next t ∧ endsInConfig s t) ∧
  (∀ s : State, passes s →
    (s.recovery.cardCursor < s.cap → exec .recoveryEnd s = .next s) ∧
    (s.store.nextToWrite + s.journal.reserved < 4294967296 →
      (∃ k, k ≤ 511 ∧ (s.shop k).closing.state = .emitted) → exec .recoveryEnd s = .next s) ∧
    (∀ (e : JournalEntry) (eff : Effect), (∀ j, j ≤ 511 → (s.shop j).closing.state ≠ .emitted) → replayNext s e eff →
      (s.store.nextToWrite + s.journal.reserved < 4294967296 ∨
        ∀ k, eff.shop = some k → s.settle.period ≤ (s.shop k).bank.period) → exec .recoveryEnd s = .next s))

/-! ### Office requests (chapters 2, 3, 7, 8, 10, 11) -/

/-- An answer echoes the office tag and the kind of its request and waits in the answer place, behind one already there; when it is
handed over the Office Unit takes the next request, none after RESTART and none while PFW is asserted (R16, R187, R197, R198;
that it is taken at once is the model's choice, log 12). -/
def Obligations.OfficeAnswersEchoTheirRequest : Prop :=
  ∀ (s : State) (f : Frame) (code : OfficeCode) (data : List Byte), s.office.inFlight = some { frame := f, answer := none } →
    (∀ a, s.officeLink.answerPlace = some a →
      s.answerOffice code data =
        { s with
          office.inFlight :=
            some { frame := f, answer := some { tag := fieldAt f.body 0 2, kind := f.kind, code := code, data := data } } }) ∧
    (s.officeLink.answerPlace = none →
      (s.officeLink.queue = [] ∨ s.office.restartTaken = true ∨ s.pfw = true) →
      s.answerOffice code data =
        { s with
          office.inFlight := none,
          officeLink.answerPlace := some { tag := fieldAt f.body 0 2, kind := f.kind, code := code, data := data },
          officeLink.ready := s.officeLink.ready ++ [.answer] }) ∧
    (∀ g rest, s.officeLink.answerPlace = none → s.officeLink.queue = g :: rest → s.office.restartTaken = false →
      s.pfw = false →
      s.answerOffice code data =
        { s with
          office.inFlight := some { frame := g, answer := none }, officeLink.queue := rest,
          officeLink.answerPlace := some { tag := fieldAt f.body 0 2, kind := f.kind, code := code, data := data },
          officeLink.ready := s.officeLink.ready ++ [.answer] })

/-- LANE_UP puts the receiver of lane 0 to 3 in HUNT with no consecutive errors, whatever its state and the ledger's, keeps counts and
queued work, and is answered DONE; any other link is refused BAD_VALUE (R8). -/
def Obligations.LaneUpResynchronisesALane : Prop :=
  ∀ (s : State) (b : List Byte), s.officeBody 0x61 = some b →
    (fieldAt b 2 1 ≤ 3 →
      exec .laneUp s = .next
        ((s.setLane (fieldAt b 2 1) { s.lane (fieldAt b 2 1) with rx := .hunt, consecutive := 0 }).done [])) ∧
    (3 < fieldAt b 2 1 → exec .laneUp s = .next (s.refuse .badValue))

/-- The requests the Office Unit answers itself in every ledger state: LANE_STATUS, READ_STATUS, RESTART, READ_SNAP, BAD_REQUEST for
a request that is not well-formed; ATTN_MASK replaces the mask; ATTN_END ends the service of the named source or, non-specific,
of the one in service, which becomes the rotating lowest; ATTN_MODE sets the mode, AUTOMATIC_END ending a service at once (R4, R18,
R166, R187, R190, R193 to R195, R197). The widths 12.1 does not list, the packing of the source flags and the eight slots
without a count byte (log 23) and the next tag over a blank store (log 8, log 29) are the model's choice; an absent source (log 23),
a pointer past the numbering (log 22) and the time left past a deadline (log 24) are free values. -/
def Obligations.TheOfficeUnitAnswersItsOwnRequests : Prop :=
  (∀ (s : State) (b : List Byte), s.officeBody 0x62 = some b →
    (fieldAt b 2 1 ≤ 3 → fieldAt b 3 1 = 0 →
      exec .laneStatus s = .next (s.done
        (bytesOf 1 (s.lane (fieldAt b 2 1)).rx.code ++ bytesOf 4 (s.lane (fieldAt b 2 1)).taken ++
          bytesOf 4 (s.lane (fieldAt b 2 1)).framing ++ bytesOf 1 (s.lane (fieldAt b 2 1)).consecutive ++
          bytesOf 4 (s.lane (fieldAt b 2 1)).busyCount ++ bytesOf 4 (s.lane (fieldAt b 2 1)).overflows ++
          bytesOf 1 (s.lane (fieldAt b 2 1)).queue.length ++
          bytesOf 1 ((s.lane (fieldAt b 2 1)).queue.filter fun e => decide (e.stage = .waiting)).length ++
          bytesOf 1 ((s.lane (fieldAt b 2 1)).queue.filter fun e => decide (e.stage = .taken)).length ++
          bytesOf 1 ((s.lane (fieldAt b 2 1)).queue.filter
            fun e => decide (e.stage ≠ .waiting) && decide (e.stage ≠ .taken)).length))) ∧
    (fieldAt b 2 1 = 4 → fieldAt b 3 1 = 0 →
      exec .laneStatus s = .next (s.done
        (bytesOf 1 s.officeLink.rx.code ++ bytesOf 4 s.officeLink.taken ++ bytesOf 4 s.officeLink.framing ++
          bytesOf 4 s.officeLink.busyCount ++ bytesOf 4 s.officeLink.overflows ++
          bytesOf 1 s.officeLink.queue.length))) ∧
    (fieldAt b 2 1 = 5 → fieldAt b 3 1 ≤ 1 →
      exec .laneStatus s = .next (s.done
        (bytesOf 1 s.payLink.rx.code ++ bytesOf 4 s.payLink.taken ++ bytesOf 4 s.payLink.framing ++
          bytesOf 4 s.payLink.unknown ++ bytesOf 4 s.payLink.overruns ++ bytesOf 1 s.payLink.queue.length ++
          bytesOf 4 s.plu.late ++ bytesOf 4 s.plu.stray ++ bytesOf 2 s.store.nextTag ++
          bytesOf 1 ((List.range 16).filter fun k => decide (s.slot k = .free)).length ++
          bytesOf 1 ((List.range 16).filter fun k => (s.slot k).isGranted).length ++
          bytesOf 1 ((List.range 16).filter fun k => (s.slot k).isFilled).length ++
          (List.range 8).flatMap fun i => slotBytes s.time (s.slot (8 * fieldAt b 3 1 + i))))) ∧
    ((5 < fieldAt b 2 1 ∨ 1 < fieldAt b 3 1 ∨ (fieldAt b 3 1 = 1 ∧ fieldAt b 2 1 ≠ 5)) →
      exec .laneStatus s = .next (s.refuse .badValue))) ∧
  (∀ (s : State) (b : List Byte), s.officeBody 0x46 = some b →
    exec .readStatus s = .next (s.done
      (bytesOf 1 s.ledger.mode.code ++ bytesOf 2 s.ledger.period ++ bytesOf 3 s.cap ++ flagByte s.store.signature ++
        bytesOf 2 s.settle.unrolled ++ bytesOf 2 s.settle.openPayouts ++ s.pointers ++ bytesOf 2 s.journal.reserved ++
        s.streamSettings ++ bytesOf 1 s.ledger.faults.length ++ s.ledger.faults.flatMap (bytesOf 3) ++
        flagByte s.ledger.faultOverflow ++ s.attn.bytesMode ++ bytesOf 1 s.attn.lowest ++
        bytesOf 1 s.office.resetCause.code))) ∧
  (∀ (s : State) (b : List Byte), s.officeBody 0x47 = some b →
    exec .restart s = .next (State.done { s with office.restartTaken := true } [])) ∧
  (∀ (s : State) (b : List Byte), s.officeBody 0x45 = some b →
    (s.office.latch = none → exec .readSnap s = .next (s.refuse .empty)) ∧
    (∀ c, s.office.latch = some c →
      exec .readSnap s = .next (State.done { s with office.latch := none }
        (bytesOf 2 c.shop ++ shopBytes c.record ++ bytesOf 2 c.period ++ bytesOf 4 c.time.toNat)))) ∧
  (∀ (s : State) (f : Frame), s.officeRequest = some f → officeWellFormed f = false →
    exec .officeBadRequest s = .next (s.refuse .badRequest)) ∧
  (∀ (s : State) (b : List Byte) (t : State), s.officeBody 0x5E = some b →
    t = { s with attn.mask := BitVec.ofNat 8 (fieldAt b 2 1) } →
    exec .attnMask s = .next (t.done t.attn.bytesMode)) ∧
  (∀ (s : State) (b : List Byte), s.officeBody 0x5F = some b →
    (∀ (n : Nat) (t : State), s.attn.inService = some n → (fieldAt b 2 1 = n ∧ n ≤ 7 ∨ fieldAt b 2 1 = 255) →
      t = { s with attn.inService := none, attn.lowest := n } → exec .attnEnd s = .next (t.done t.attn.bytes)) ∧
    (s.attn.inService = none → (fieldAt b 2 1 ≤ 7 ∨ fieldAt b 2 1 = 255) →
      exec .attnEnd s = .next (s.refuse .wrongState)) ∧
    (∀ n, s.attn.inService = some n → fieldAt b 2 1 ≤ 7 → fieldAt b 2 1 ≠ n →
      exec .attnEnd s = .next (s.refuse .wrongState)) ∧
    (7 < fieldAt b 2 1 → fieldAt b 2 1 ≠ 255 → exec .attnEnd s = .next (s.refuse .badValue))) ∧
  (∀ (s : State) (b : List Byte), s.officeBody 0x60 = some b →
    (∀ t : State, ((fieldAt b 2 1 = 0 ∧ t = { s with attn.mode := .fixed }) ∨
        (fieldAt b 2 1 = 1 ∧ t = { s with attn.mode := .rotating }) ∨
        (fieldAt b 2 1 = 2 ∧ s.attn.inService = none ∧ t = { s with attn.mode := .automaticEnd }) ∨
        (∃ n, fieldAt b 2 1 = 2 ∧ s.attn.inService = some n ∧
          t = { s with attn.mode := .automaticEnd, attn.inService := none, attn.lowest := n })) →
      exec .attnMode s = .next (t.done t.attn.bytesMode)) ∧
    (2 < fieldAt b 2 1 → exec .attnMode s = .next (s.refuse .badValue)))

/-- JOURNAL_READ returns a retained entry at or above oldest unacknowledged and below next to write, else EMPTY; JOURNAL_ACK
acknowledges through its sequence, clamped to the last written, drags next to stream, and is always DONE with the pointers;
STREAM_SET stores its settings and restarts the count (R181, R183, R184, R185). A flag byte that is neither 0 nor 1 is refused by the
model's choice (log 18); a pointer past the numbering is a free value (log 22). -/
def Obligations.JournalRequests : Prop :=
  (∀ (s : State) (b : List Byte), s.officeBody 0x5B = some b →
    (∀ e, s.oldest ≤ fieldAt b 2 4 → fieldAt b 2 4 < s.nextWrite → s.entry (fieldAt b 2 4) = some e →
      exec .journalRead s = .next (s.done (entryBytes e))) ∧
    ((fieldAt b 2 4 < s.oldest ∨ s.nextWrite ≤ fieldAt b 2 4) → exec .journalRead s = .next (s.refuse .empty))) ∧
  (∀ (s t : State) (b : List Byte) (v : Nat), s.officeBody 0x5C = some b → v = min (fieldAt b 2 4) (s.nextWrite - 1) →
    (s.oldest ≤ v →
      t = { s with store.oldestUnack := v + 1, journal.nextStream := max s.journal.nextStream (v + 1),
                   journal.highHeld := s.journal.highHeld && decide (12288 ≤ s.nextWrite - (v + 1)),
                   journal.fullHeld := s.journal.fullHeld && decide (16336 ≤ s.nextWrite - (v + 1) + s.journal.reserved) } →
      exec .journalAck s = .next (t.done t.pointers)) ∧
    (v < s.oldest → exec .journalAck s = .next (s.done s.pointers))) ∧
  (∀ (s : State) (b : List Byte), s.officeBody 0x5D = some b →
    (∀ (t : State) (on : Bool) (unit : StreamUnit),
      ((fieldAt b 2 1 = 0 ∧ on = false) ∨ (fieldAt b 2 1 = 1 ∧ on = true)) →
      ((fieldAt b 3 1 = 0 ∧ unit = .milliseconds) ∨ (fieldAt b 3 1 = 1 ∧ unit = .entries)) →
      t = { s with journal.streamOn := on, journal.unit := unit,
                   journal.interval := if fieldAt b 4 2 = 0 then 1 else fieldAt b 4 2, journal.streamCount := 0 } →
      exec .streamSet s = .next (t.done t.streamSettings)) ∧
    ((1 < fieldAt b 2 1 ∨ 1 < fieldAt b 3 1) → exec .streamSet s = .next (s.refuse .badValue)))

/-- READ_TABLE returns an entry as stored; WRITE_TABLE of segment flags, house range, binding and settings stores the entry, clamped
where the table says so, and returns it as stored; an unknown table, an index or length outside its table, a binding address 0
or 255 or shop above 511 and an unknown priority are refused BAD_VALUE, and everything over a blank store WRONG_STATE (R21, R22,
R23, R30, R32, R33, R36). That any row of WRITE_TABLE refuses an unknown table is log 17's, the order of the two refusals log 16's,
and a flag byte that is neither 0 nor 1 log 18's choice. -/
def Obligations.TablesAreReadAndWritten : Prop :=
  (∀ (s : State) (b : List Byte) (i : Nat) (entry : List Byte), s.officeBody 0x59 = some b → s.store.signature = true →
    i = fieldAt b 3 2 →
    (((fieldAt b 2 1 = 1 ∧ i ≤ 7 ∧ entry = programBytes (s.program i)) ∨
        (fieldAt b 2 1 = 2 ∧ i ≤ 31 ∧ entry = acceptBytes (s.acceptRow i)) ∨
        (fieldAt b 2 1 = 3 ∧ i = 0 ∧ entry = houseBytes s.store.house) ∨
        (fieldAt b 2 1 = 4 ∧ i ≤ 511 ∧ entry = bindingBytes (s.binding i)) ∨
        (fieldAt b 2 1 = 5 ∧ i = 0 ∧ entry = settingsBytes s.store.settings)) →
      exec .readTable s = .next (s.done (bytesOf 1 (fieldAt b 2 1) ++ bytesOf 2 i ++ entry))) ∧
    ((fieldAt b 2 1 = 0 ∨ 5 < fieldAt b 2 1 ∨ (fieldAt b 2 1 = 1 ∧ 7 < i) ∨ (fieldAt b 2 1 = 2 ∧ 31 < i) ∨
        (fieldAt b 2 1 = 4 ∧ 511 < i) ∨ ((fieldAt b 2 1 = 3 ∨ fieldAt b 2 1 = 5) ∧ 0 < i)) →
      exec .readTable s = .next (s.refuse .badValue))) ∧
  (∀ (s : State) (b : List Byte) (i : Nat), s.officeBody 0x5A = some b → s.store.signature = true → i = fieldAt b 3 2 →
    (fieldAt b 2 1 = 2 → i ≤ 31 → b.length = 13 →
      ∃ (row : AcceptRow) (t : State), exec .writeTableAccept s = .next (t.done (bytesOf 1 2 ++ bytesOf 2 i ++ acceptBytes row)) ∧
        (∀ p, p ≤ 7 → row.re.getLsbD p = (b.getD (5 + p) 0).getLsbD 0 ∧ row.le.getLsbD p = (b.getD (5 + p) 0).getLsbD 1 ∧
          row.xe.getLsbD p = (b.getD (5 + p) 0).getLsbD 2) ∧
        t.acceptRow i = row ∧ (∀ j, j ≠ i → t.acceptRow j = s.acceptRow j) ∧
        { t with store.accept := s.store.accept } = s) ∧
    (∀ t : State, fieldAt b 2 1 = 3 → i = 0 → b.length = 9 →
      t = { s with store.house := { start := min 511 (fieldAt b 5 2), stop := min 512 (fieldAt b 7 2) } } →
      exec .writeTableHouse s = .next (t.done (bytesOf 1 3 ++ bytesOf 2 0 ++ houseBytes t.store.house))) ∧
    (∀ x : Binding, fieldAt b 2 1 = 4 → i ≤ 511 → b.length = 9 → fieldAt b 5 1 ≠ 0 → fieldAt b 5 1 ≠ 255 →
      fieldAt b 6 2 ≤ 511 → fieldAt b 8 1 ≤ 1 →
      x = { address := fieldAt b 5 1, shop := fieldAt b 6 2, enabled := decide (fieldAt b 8 1 = 1) } →
      ∃ t : State, exec .writeTableBinding s = .next (t.done (bytesOf 1 4 ++ bytesOf 2 i ++ bindingBytes x)) ∧
        t.binding i = x ∧ (∀ j, j ≠ i → t.binding j = s.binding j) ∧ { t with store.bindings := s.store.bindings } = s) ∧
    (fieldAt b 2 1 = 4 → i ≤ 511 → b.length = 9 →
      (fieldAt b 5 1 = 0 ∨ fieldAt b 5 1 = 255 ∨ 511 < fieldAt b 6 2) →
      exec .writeTableBinding s = .next (s.refuse .badValue)) ∧
    (∀ (t : State) (p : SlotPriority), fieldAt b 2 1 = 5 → i = 0 → b.length = 12 →
      ((fieldAt b 11 1 = 0 ∧ p = .fixed) ∨ (fieldAt b 11 1 = 1 ∧ p = .rotating)) →
      t = { s with store.settings := { payoutMin := min 100000 (fieldAt b 5 4),
                                       answerTimeout := min 600 (max 5 (fieldAt b 9 2)), priority := p } } →
      exec .writeTableSettings s = .next (t.done (bytesOf 1 5 ++ bytesOf 2 0 ++ settingsBytes t.store.settings))) ∧
    (fieldAt b 2 1 = 5 → i = 0 → b.length = 12 → 1 < fieldAt b 11 1 →
      exec .writeTableSettings s = .next (s.refuse .badValue)) ∧
    ((fieldAt b 2 1 = 2 ∧ (31 < i ∨ b.length ≠ 13)) → exec .writeTableAccept s = .next (s.refuse .badValue)) ∧
    ((fieldAt b 2 1 = 3 ∧ (0 < i ∨ b.length ≠ 9)) → exec .writeTableHouse s = .next (s.refuse .badValue)) ∧
    ((fieldAt b 2 1 = 4 ∧ (511 < i ∨ b.length ≠ 9)) → exec .writeTableBinding s = .next (s.refuse .badValue)) ∧
    ((fieldAt b 2 1 = 5 ∧ (0 < i ∨ b.length ≠ 12)) → exec .writeTableSettings s = .next (s.refuse .badValue)) ∧
    ((fieldAt b 2 1 = 1 ∧ (7 < i ∨ b.length ≠ 29)) → exec .writeTableProgram s = .next (s.refuse .badValue)) ∧
    (fieldAt b 2 1 = 1 → i ≤ 7 → b.length = 29 → 1 < fieldAt b 8 1 →
      exec .writeTableProgram s = .next (s.refuse .badValue)) ∧
    (fieldAt b 2 1 = 4 → i ≤ 511 → b.length = 9 → 1 < fieldAt b 8 1 →
      exec .writeTableBinding s = .next (s.refuse .badValue))) ∧
  (∀ (s : State) (b : List Byte), s.officeBody 0x59 = some b → s.store.signature = false →
    exec .readTable s = .next (s.refuse .wrongState)) ∧
  (∀ (s : State) (b : List Byte) (i : Instr) (code : Nat),
    (i, code) ∈ [(Instr.writeTableProgram, 1), (.writeTableAccept, 2), (.writeTableHouse, 3), (.writeTableBinding, 4),
      (.writeTableSettings, 5)] →
    s.officeBody 0x5A = some b →
    (s.store.signature = false → (fieldAt b 2 1 = code ∨ fieldAt b 2 1 = 0 ∨ 5 < fieldAt b 2 1) →
      exec i s = .next (s.refuse .wrongState)) ∧
    (s.store.signature = true → (fieldAt b 2 1 = 0 ∨ 5 < fieldAt b 2 1) → exec i s = .next (s.refuse .badValue)))

/-- A program write clamps every field but the boundary. In CONFIG with the open flag clear the boundary is clamped from the program
below up to CAP and raises every lower boundary above it, so that the boundaries stay non-decreasing; elsewhere a changed boundary
is refused WRONG_STATE and none moves (R25, R26, R27). -/
def Obligations.ProgramWritesKeepTheBoundariesInOrder : Prop :=
  ∀ (s : State) (b : List Byte) (k : Nat) (q : Program), s.officeBody 0x5A = some b → fieldAt b 2 1 = 1 →
    k = fieldAt b 3 2 → k ≤ 7 → b.length = 29 → s.store.signature = true → fieldAt b 8 1 ≤ 1 →
    q = { boundary := (s.program k).boundary, enabled := decide (fieldAt b 8 1 = 1),
          loadLimit := min 10000000 (max 100 (fieldAt b 9 4)),
          activationMin := min (min 10000000 (max 100 (fieldAt b 9 4))) (fieldAt b 13 4),
          rate := min 2000 (fieldAt b 17 2), lifetime := min 86400 (max 10 (fieldAt b 19 4)),
          maxHolds := min 8 (max 1 (fieldAt b 23 1)), refundWindow := min 255 (fieldAt b 24 1),
          ceiling := min 100000 (fieldAt b 25 4) } →
    ((s.ledger.mode ≠ .config ∨ s.store.openFlag = true) → fieldAt b 5 3 = (s.program k).boundary →
      ∃ t : State, exec .writeTableProgram s = .next (t.done (bytesOf 1 1 ++ bytesOf 2 k ++ programBytes q)) ∧
        t.program k = q ∧ (∀ j, j ≠ k → t.program j = s.program j) ∧ { t with store.programs := s.store.programs } = s) ∧
    ((s.ledger.mode ≠ .config ∨ s.store.openFlag = true) → fieldAt b 5 3 ≠ (s.program k).boundary →
      exec .writeTableProgram s = .next (s.refuse .wrongState)) ∧
    (∀ low new : Nat, s.ledger.mode = .config → s.store.openFlag = false →
      (∀ i j, i ≤ j → j ≤ 7 → (s.program i).boundary ≤ (s.program j).boundary) →
      low = (if k = 0 then 0 else (s.program (k - 1)).boundary) → low ≤ s.cap →
      new = max low (min s.cap (fieldAt b 5 3)) →
      ∃ t : State, exec .writeTableProgram s =
          .next (t.done (bytesOf 1 1 ++ bytesOf 2 k ++ programBytes { q with boundary := new })) ∧
        t.program k = { q with boundary := new } ∧ new ≤ s.cap ∧ (∀ j, j < k → t.program j = s.program j) ∧
        (∀ j, k < j → j ≤ 7 →
          t.program j = { s.program j with boundary := max (s.program j).boundary new }) ∧
        (∀ i j, i ≤ j → j ≤ 7 → (t.program i).boundary ≤ (t.program j).boundary) ∧
        { t with store.programs := s.store.programs } = s)

/-- FORMAT destroys the signature first and, complete, has written every table to its starting contents with the signature; OPEN_LEDGER
opens period 1 with one PERIOD entry; CLOSE_PERIOD, past its checks, pushes CLOSE and stays outstanding under its reservation; each is
refused WRONG_STATE in another ledger state, CLOSE_PERIOD then PERIOD_LIMIT in period 65,535 and ROLL_BUSY with shops unrolled, both
JOURNAL_FULL without a reservation, and CLOSE_PERIOD at once with a full accrual queue (R21, R44, R45, R48, R49, R110, R111, R130, R144,
R163, R178, R181). What becomes of copies and counts is the model's choice (log 29). -/
def Obligations.TheLedgerIsFormattedOpenedAndClosed : Prop :=
  (∀ (s : State) (b : List Byte), s.cardWork 0x43 = some b →
    (s.ledger.mode = .config →
      exec .format s = .next { s with store.signature := false, ledger.top := 0, ledger.formatting := true }) ∧
    (s.ledger.mode ≠ .config → exec .format s = .next (State.refuse { s with ledger.top := 0 } .wrongState))) ∧
  (∀ s : State, s.ledger.formatting = true → s.pfw = false →
    ∃ m : State, exec .formatComplete s = .next (m.done []) ∧ m.store.signature = true ∧ m.store.openFlag = false ∧
      m.store.periodWord = 0 ∧
      (∀ k, k < s.cap → m.card k =
        { state := .blank, suspend := none, program := none, balance := 0, held := 0, holdCount := 0, code := none,
          failures := 0, issuing := none, activation := none, lastUse := none, seq := 0, checkOk := true }) ∧
      (∀ k, s.cap ≤ k → m.card k = s.card k) ∧
      (∀ k, m.program k =
        { boundary := 0, enabled := false, loadLimit := 100, activationMin := 0, rate := 0, lifetime := 10, maxHolds := 1,
          refundWindow := 0, ceiling := 0 }) ∧
      (∀ k, m.acceptRow k = { re := 0, le := 0, xe := 0 }) ∧ m.store.house = { start := 0, stop := 0 } ∧
      (∀ k, m.binding k = { address := 0, shop := 0, enabled := false }) ∧
      m.store.settings = { payoutMin := 1000, answerTimeout := 60, priority := .fixed } ∧
      (∀ k, m.setup k = { baseShop := 0, baseCount := 511, dir := .ascending, mode := .block, auto := false }) ∧
      m.store.nextTag = 1 ∧
      (∀ k, m.shop k =
        { office := .vacant, debtLimit := 0, debtBar := false, sat := false,
          bank := { period := 1, g := 0, f := 0, s := 0, x := 0, q := 0 }, remainder := 0, carry := 0, missed := 0,
          closing := { period := 0, net := 0, commission := 0, state := .none, amount := 0, tag := none } }) ∧
      m.store.houseRec = { net := 0, unclaimed := 0, commission := 0, settled := 0, mark := 0, sat := false } ∧
      m.store.totals = { loaded := 0, refunded := 0, adjustedCredit := 0, adjustedDebit := 0, captured := 0,
                         cashedOut := 0, unclaimed := 0, float := 0 } ∧
      m.store.window = [] ∧ m.store.ring = [] ∧ m.store.nextToWrite = 1 ∧ m.store.oldestUnack = 1 ∧
      m.ledger = { s.ledger with period := 0, faults := [], faultOverflow := false, formatting := false } ∧
      m.journal = { s.journal with nextStream := 1, highHeld := false, fullHeld := false } ∧
      m.settle = { s.settle with period := 0, unrolled := 0, openPayouts := 0 } ∧
      { m with store := s.store, ledger := s.ledger, journal := s.journal, settle := s.settle } = s) ∧
  (∀ (s : State) (b : List Byte), s.cardWork 0x42 = some b →
    (s.ledger.mode = .config → s.store.signature = true → s.store.periodWord = 0 → s.canReserve .general 1 = true →
      ∃ m : State, exec .openLedger s = .next (m.done []) ∧ m.store.openFlag = true ∧ m.store.periodWord = 1 ∧
        m.ledger = { s.ledger with mode := .opened, period := 1, top := 0 } ∧ m.settle = { s.settle with period := 1 } ∧
        oneEntry s m 1 (.period 0 1) ∧ onlyRaises s m [4, 5] ∧
        { m with store.openFlag := s.store.openFlag, store.periodWord := s.store.periodWord, ledger := s.ledger,
                 settle := s.settle, store.ring := s.store.ring, store.nextToWrite := s.store.nextToWrite,
                 journal := s.journal, attn.pending := s.attn.pending } = s) ∧
    ((s.ledger.mode ≠ .config ∨ s.store.signature = false ∨ s.store.periodWord ≠ 0) →
      exec .openLedger s = .next (State.refuse { s with ledger.top := 0 } .wrongState)) ∧
    (s.ledger.mode = .config → s.store.signature = true → s.store.periodWord = 0 → s.canReserve .general 1 = false →
      exec .openLedger s = .next (State.refuse { s with ledger.top := 0 } .journalFull))) ∧
  (∀ (s : State) (b : List Byte), s.cardWork 0x41 = some b → 16 ≤ s.settle.accruals.length →
    exec .closePeriod s = .next (State.refuse { s with ledger.top := 0 } .journalFull)) ∧
  (∀ (s : State) (b : List Byte), s.cardWork 0x41 = some b → s.settle.accruals.length < 16 →
    (s.ledger.mode = .opened → s.ledger.period ≠ 65535 → s.settle.unrolled = 0 → s.canReserve .general 1 = true →
      ∃ t, exec .closePeriod s = .next t ∧ t.settle.accruals = s.settle.accruals ++ [.close s.ledger.period] ∧
        t.ledger = { s.ledger with top := 0, closeOutstanding := true } ∧
        t.journal.reserved = s.journal.reserved + 1 ∧ marksFollow s t 1 0 ∧ onlyRaises s t [4] ∧
        { t with ledger := s.ledger, settle.accruals := s.settle.accruals, journal.reserved := s.journal.reserved,
                 journal.fullHeld := s.journal.fullHeld, attn.pending := s.attn.pending } = s) ∧
    (s.ledger.mode ≠ .opened → exec .closePeriod s = .next (State.refuse { s with ledger.top := 0 } .wrongState)) ∧
    (s.ledger.mode = .opened → s.ledger.period ≠ 65535 → s.settle.unrolled = 0 → s.canReserve .general 1 = false →
      exec .closePeriod s = .next (State.refuse { s with ledger.top := 0 } .journalFull)) ∧
    (s.ledger.mode = .opened → s.ledger.period = 65535 →
      exec .closePeriod s = .next (State.refuse { s with ledger.top := 0 } .periodLimit)) ∧
    (s.ledger.mode = .opened → s.ledger.period ≠ 65535 → 0 < s.settle.unrolled →
      exec .closePeriod s = .next (State.refuse { s with ledger.top := 0 } .rollBusy)))

/-- The office's card requests on a sound record in OPEN: PROVISION makes a BLANK card STOCK; SUSPEND suspends an ACTIVE card or takes
over a LOCKOUT, and leaves one already suspended by the office; RESUME frees; CLOSE_CARD closes and moves the balance to unclaimed;
ADJUST moves the balance; READ_CARD and READ_TOTALS commit nothing. Else the first failing check names the refusal and nothing changes: by
the ledger state WRONG_STATE, without a program BAD_VALUE, by the fault list or a faulty record, which is noted, WRONG_STATE, by the fields
BAD_VALUE, by the card's state WRONG_STATE, HOLDS_OPEN or INSUFFICIENT, without a reservation, or CLOSE_CARD with a full accrual queue,
JOURNAL_FULL (R41, R42, R43, R47 to R49, R52, R53, R60 to R67). That READ_CARD shows the list as it
stands after its own read is the model's inference (log 35); a wrong program number shows as a mismatch (R29); a total outside its
range is a free value (log 21). -/
def Obligations.TheOfficeServesCards : Prop :=
  (∀ (s : State) (b : List Byte) (prog : Nat) (card : CardRecord), s.cardWork 0x4C = some b →
    soundCard s (fieldAt b 2 3) prog card → fieldAt b 5 2 ≤ 9999 → card.state = .blank → s.canReserve .general 1 = true →
    officeCommit .provision s (fieldAt b 2 3)
      { card with state := .stock, program := some prog, code := some (fieldAt b 5 2), failures := 0, balance := 0,
                  held := 0, holdCount := 0, seq := (card.seq + 1) % 16777216, checkOk := true }
      s.store.totals [] (.provision (fieldAt b 2 3) ((card.seq + 1) % 16777216) prog)) ∧
  (∀ (s : State) (b : List Byte) (prog : Nat) (card : CardRecord), s.cardWork 0x49 = some b →
    soundCard s (fieldAt b 2 3) prog card →
    (card.state = .suspended → card.suspend = some .office →
      exec .suspend s = .next (State.done { s with ledger.top := 0 } [])) ∧
    ((card.state = .active ∨ (card.state = .suspended ∧ card.suspend ≠ some .office)) → s.canReserve .general 1 = true →
      officeCommit .suspend s (fieldAt b 2 3)
        { card with state := .suspended, suspend := some .office, seq := (card.seq + 1) % 16777216, checkOk := true }
        s.store.totals []
        (.cardState (fieldAt b 2 3) ((card.seq + 1) % 16777216) .suspend .suspended (some .office) card.failures none))) ∧
  (∀ (s : State) (b : List Byte) (prog : Nat) (card : CardRecord), s.cardWork 0x4A = some b →
    soundCard s (fieldAt b 2 3) prog card → s.canReserve .general 1 = true →
    (card.state = .suspended →
      officeCommit .resume s (fieldAt b 2 3)
        { card with state := .active, suspend := none, failures := 0, seq := (card.seq + 1) % 16777216, checkOk := true }
        s.store.totals []
        (.cardState (fieldAt b 2 3) ((card.seq + 1) % 16777216) .resume .active none 0 none)) ∧
    (card.state = .stock → card.failures = 3 →
      officeCommit .resume s (fieldAt b 2 3)
        { card with failures := 0, seq := (card.seq + 1) % 16777216, checkOk := true } s.store.totals []
        (.cardState (fieldAt b 2 3) ((card.seq + 1) % 16777216) .resume .stock card.suspend 0 none))) ∧
  (∀ (s : State) (b : List Byte) (prog : Nat) (card : CardRecord), s.cardWork 0x4B = some b →
    soundCard s (fieldAt b 2 3) prog card → s.settle.accruals.length < 16 → card.state ≠ .blank → card.state ≠ .closed →
    card.holdCount = 0 → s.canReserve .general 1 = true →
    officeCommit .closeCard s (fieldAt b 2 3)
      { card with balance := 0, state := .closed, suspend := none, seq := (card.seq + 1) % 16777216, checkOk := true }
      (if card.balance = 0 then s.store.totals
      else { s.store.totals with unclaimed := totalAfter s.store.totals.unclaimed card.balance,
                                 float := totalAfter s.store.totals.float (-(card.balance : Int)) })
      (if card.balance = 0 then [] else [.money (.unclaimed card.balance) s.ledger.period s.store.nextToWrite])
      (.closeCard (fieldAt b 2 3) ((card.seq + 1) % 16777216) card.balance)) ∧
  (∀ (s : State) (b : List Byte) (prog amount : Nat) (card : CardRecord), s.cardWork 0x4D = some b →
    soundCard s (fieldAt b 2 3) prog card → amount = fieldAt b 6 4 → 0 < amount → amount ≤ 10000000 →
    (card.state = .active ∨ card.state = .suspended) → s.canReserve .general 1 = true →
    (fieldAt b 5 1 = 0 → card.balance + amount ≤ 2147483647 →
      officeCommit .adjust s (fieldAt b 2 3)
        { card with balance := card.balance + amount, seq := (card.seq + 1) % 16777216, checkOk := true }
        { s.store.totals with adjustedCredit := totalAfter s.store.totals.adjustedCredit amount,
                              float := totalAfter s.store.totals.float amount }
        [] (.adjust (fieldAt b 2 3) ((card.seq + 1) % 16777216) .credit amount)) ∧
    (fieldAt b 5 1 = 1 → amount ≤ card.balance - card.held →
      officeCommit .adjust s (fieldAt b 2 3)
        { card with balance := card.balance - amount, seq := (card.seq + 1) % 16777216, checkOk := true }
        { s.store.totals with adjustedDebit := totalAfter s.store.totals.adjustedDebit amount,
                              float := totalAfter s.store.totals.float (-(amount : Int)) }
        [] (.adjust (fieldAt b 2 3) ((card.seq + 1) % 16777216) .debit amount))) ∧
  (∀ (s : State) (b : List Byte), s.cardWork 0x40 = some b →
    (s.ledger.mode = .opened ∨ (s.ledger.mode = .config ∧ s.store.signature = true)) →
    exec .readTotals s = .next (State.done { s with ledger.top := 0 }
      (bytesOf 8 s.store.totals.loaded ++ bytesOf 8 s.store.totals.refunded ++ bytesOf 8 s.store.totals.adjustedCredit ++
        bytesOf 8 s.store.totals.adjustedDebit ++ bytesOf 8 s.store.totals.captured ++ bytesOf 8 s.store.totals.cashedOut ++
        bytesOf 8 s.store.totals.unclaimed ++ bytesOf 8 s.store.totals.float ++ bytesOf 2 s.ledger.period))) ∧
  (∀ (s : State) (b : List Byte) (prog : Nat), s.cardWork 0x48 = some b →
    (s.ledger.mode = .opened ∨ (s.ledger.mode = .config ∧ s.store.signature = true)) →
    s.lookup (fieldAt b 2 3) = some prog →
    ((faulty (s.card (fieldAt b 2 3)) (some prog) = false ∨ fieldAt b 2 3 ∈ s.ledger.faults) →
      exec .readCard s = .next (State.done { s with ledger.top := 0 }
        (cardFields (fieldAt b 2 3) (s.card (fieldAt b 2 3)) ++
          flagByte ((s.card (fieldAt b 2 3)).checkOk &&
            decide ((s.card (fieldAt b 2 3)).state = .blank ∨ (s.card (fieldAt b 2 3)).program = some prog)) ++
          flagByte (decide (fieldAt b 2 3 ∈ s.ledger.faults))))) ∧
    (faulty (s.card (fieldAt b 2 3)) (some prog) = true → fieldAt b 2 3 ∉ s.ledger.faults →
      ∃ m : State, exec .readCard s = .next (m.done
        (cardFields (fieldAt b 2 3) (s.card (fieldAt b 2 3)) ++ flagByte false ++
          flagByte (decide (s.ledger.faults.length < 16)))) ∧
        (s.ledger.faults.length < 16 →
          m.ledger = { s.ledger with top := 0, faults := s.ledger.faults ++ [fieldAt b 2 3] }) ∧
        (16 ≤ s.ledger.faults.length → m.ledger = { s.ledger with top := 0, faultOverflow := true }) ∧
        m.attn.pending.getLsbD 0 = true ∧ onlyRaises s m [0] ∧
        { m with ledger := s.ledger, attn.pending := s.attn.pending } = s)) ∧
  (∀ (s : State) (i : Instr) (kind : Nat) (b : List Byte) (code : OfficeCode), (i, kind) ∈ officeCardCommands →
    s.cardWork kind = some b → ¬ recordFaults s kind b → firstFailing (officeChecks s kind b) = some code →
    exec i s = .next (State.refuse { s with ledger.top := 0 } code)) ∧
  (∀ (s : State) (i : Instr) (kind : Nat) (b : List Byte), (i, kind) ∈ officeCardCommands → s.cardWork kind = some b →
    recordFaults s kind b →
    ∃ m : State, exec i s = .next (m.refuse .wrongState) ∧ faultNoted s m (fieldAt b 2 3) ∧
      onlyRaises s m (if fieldAt b 2 3 ∈ s.ledger.faults then [] else [0]) ∧
      { m with ledger := { m.ledger with top := s.ledger.top, faults := s.ledger.faults, faultOverflow := s.ledger.faultOverflow },
               attn.pending := s.attn.pending } = s ∧ m.ledger.top = 0)

/-- REWRITE_CARD repairs a faulted record: within the conditions of its fields, with no open hold and not out of CLOSED where the record
reads CLOSED, the supplied record is written with held and hold count 0 and the next card sequence, the difference to the balance as
read is booked as an adjustment, one CARD_STATE entry carries record and difference, and the serial leaves the fault list (R68). With
an open hold it is refused HOLDS_OPEN, else with a field outside its conditions BAD_VALUE, else out of CLOSED WRONG_STATE, else without
a reservation JOURNAL_FULL: nothing is written, and the fault is noted. A sound record is refused. The code and the place of the refusal
out of CLOSED are the model's choice (R42, log 46), and so is how the fields of a BLANK record are read (log 20); a total outside its
range is a free value (log 21). -/
def Obligations.RewriteRepairsAFaultedRecord : Prop :=
  ∀ (s : State) (b : List Byte) (serial prog : Nat), s.cardWork 0x4E = some b → serial = fieldAt b 2 3 →
    s.ledger.mode = .opened → s.lookup serial = some prog →
    (∀ (r c : CardRecord) (diff : Int), (serial ∈ s.ledger.faults ∨ faulty (s.card serial) (some prog) = true) →
      s.hasOpenHold serial = false → rewriteOfBody b = some r → suppliedSound r prog → ¬ leavesClosed (s.card serial) r →
      s.canReserve .general 1 = true →
      c = { r with held := 0, holdCount := 0, seq := (r.seq + 1) % 16777216, checkOk := true } →
      diff = (r.balance : Int) - ((s.card serial).balance : Int) →
      ∃ m : State, exec .rewriteCard s = .next (m.done []) ∧ cardWritten s m serial c ∧
        m.store.totals =
          (if 0 < diff then
            { s.store.totals with adjustedCredit := totalAfter s.store.totals.adjustedCredit diff,
                                  float := totalAfter s.store.totals.float diff }
          else if diff < 0 then
            { s.store.totals with adjustedDebit := totalAfter s.store.totals.adjustedDebit (-diff),
                                  float := totalAfter s.store.totals.float diff }
          else s.store.totals) ∧
        oneEntry s m s.ledger.period (.cardState serial c.seq .rewrite c.state c.suspend c.failures (some (c, diff))) ∧
        m.ledger = { s.ledger with
          top := 0, faults := s.ledger.faults.filter (fun x => decide (x ≠ serial)),
          faultOverflow := s.ledger.faultOverflow || (decide (serial ∉ s.ledger.faults) && decide (16 ≤ s.ledger.faults.length)) } ∧
        onlyRaises s m [0, 4, 5] ∧
        { m with ledger := s.ledger, store.cards := s.store.cards, store.totals := s.store.totals,
                 store.ring := s.store.ring, store.nextToWrite := s.store.nextToWrite, journal := s.journal,
                 attn.pending := s.attn.pending } = s) ∧
    (∀ code : OfficeCode, (serial ∈ s.ledger.faults ∨ faulty (s.card serial) (some prog) = true) →
      ((s.hasOpenHold serial = true ∧ code = .holdsOpen) ∨
        (s.hasOpenHold serial = false ∧
          ((∀ r, rewriteOfBody b = some r → ¬ suppliedSound r prog) ∧ code = .badValue ∨
            ∃ r, rewriteOfBody b = some r ∧ suppliedSound r prog ∧
              (leavesClosed (s.card serial) r ∧ code = .wrongState ∨
                ¬ leavesClosed (s.card serial) r ∧ s.canReserve .general 1 = false ∧ code = .journalFull)))) →
      ∃ m : State, exec .rewriteCard s = .next (m.refuse code) ∧ faultNoted s m serial ∧
        onlyRaises s m (if serial ∈ s.ledger.faults then [] else [0]) ∧
        { m with ledger := { m.ledger with top := s.ledger.top, faults := s.ledger.faults, faultOverflow := s.ledger.faultOverflow },
                 attn.pending := s.attn.pending } = s ∧ m.ledger.top = 0) ∧
    (serial ∉ s.ledger.faults → faulty (s.card serial) (some prog) = false →
      exec .rewriteCard s = .next (State.refuse { s with ledger.top := 0 } .wrongState))

/-- The office's requests on shop and house records: SET_SHOP rolls a shop behind, then stores state and limit; READ_SHOP and READ_HOUSE
return the records as stored; SNAP_SHOP fills the empty latch with the record, rolled if behind; RESOLVE ends an IN_DOUBT payout; a
shop above 511, an unknown office state and an unknown outcome are refused BAD_VALUE, a roll or a RESOLVE without a reservation
JOURNAL_FULL, and all WRONG_STATE while RECOVERING and with a blank store; a saturation, by the roll of SET_SHOP or SNAP_SHOP or by
RESOLVE, raises SETTLE_FAULT (R37, R111, R112, R124, R126, R136, R139 to R141, R173, R188,
R189). The model's choices: over a blank store WRONG_STATE comes before BAD_VALUE, whatever shop, office state or outcome the request
names (log 16); RESOLVE raises no attention of its own (R173), but R111's and R126's SETTLE_FAULT and R181's sources stand (log 44);
READ_SHOP counts in the sweep wait count and turns the rotation like all class 3
work (R137), although R139 has it change nothing, not even the sweep (log 47); the width of the accrual mark (log 23). An absent tag is
a free value (log 23). -/
def Obligations.TheOfficeServesShops : Prop :=
  (∀ (s : State) (b : List Byte) (k : Nat) (st : OfficeState), shopRequestServed s 0x52 b → k = fieldAt b 2 2 → k ≤ 511 →
    OfficeState.ofCode (fieldAt b 4 1) = some st →
    (s.behind k = false →
      exec .setShop s = .next (State.done
        ((requestServed s).setShop k { s.shop k with office := st, debtLimit := min 10000000 (fieldAt b 5 4) }) [])) ∧
    (s.behind k = true → s.canReserve .general 1 = true →
      ∃ m : State, exec .setShop s = .next (m.done []) ∧
        shopWritten s m k { (s.rollFor k).shop with office := st, debtLimit := min 10000000 (fieldAt b 5 4) } ∧
        m.store.houseRec =
          houseAfter s.store.houseRec (s.store.house.has k) (s.rollFor k).entry.commission (s.rollFor k).entry.net ∧
        oneEntry s m s.settle.period (.roll (s.rollFor k).entry) ∧
        m.settle = { (requestServed s).settle with unrolled := s.settle.unrolled - 1 } ∧
        settleFault s m (rollFull s k) ∧ onlyRaises s m [1, 4, 5] ∧
        m.channels = s.channels ∧ m.plu = s.plu ∧ m.store.nextTag = s.store.nextTag ∧ settleFrame s m) ∧
    (s.behind k = true → s.canReserve .general 1 = false →
      exec .setShop s = .next ((requestServed s).refuse .journalFull))) ∧
  (∀ (s : State) (b : List Byte), shopRequestServed s 0x52 b → (511 < fieldAt b 2 2 ∨ 3 < fieldAt b 4 1) →
    exec .setShop s = .next ((requestServed s).refuse .badValue)) ∧
  (∀ (s : State) (b : List Byte), shopRequestServed s 0x50 b → fieldAt b 2 2 ≤ 511 →
    exec .readShop s = .next ((requestServed s).done
      (shopBytes (s.shop (fieldAt b 2 2)) ++ bytesOf 2 s.settle.period ++ flagByte (s.behind (fieldAt b 2 2))))) ∧
  (∀ (s : State) (b : List Byte), shopRequestServed s 0x50 b → 511 < fieldAt b 2 2 →
    exec .readShop s = .next ((requestServed s).refuse .badValue)) ∧
  (∀ (s : State) (b : List Byte) (k : Nat), shopRequestServed s 0x51 b → k = fieldAt b 2 2 → k ≤ 511 →
    s.office.latch = none →
    (s.behind k = false →
      exec .snapShop s = .next (State.done
        { requestServed s with
          office.latch := some { shop := k, record := s.shop k, period := s.settle.period, time := s.time } } [])) ∧
    (s.behind k = true → s.canReserve .general 1 = true →
      ∃ m : State, exec .snapShop s = .next (m.done []) ∧
        m.office.latch = some { shop := k, record := (s.rollFor k).shop, period := s.settle.period, time := s.time } ∧
        shopWritten s m k (s.rollFor k).shop ∧
        m.store.houseRec =
          houseAfter s.store.houseRec (s.store.house.has k) (s.rollFor k).entry.commission (s.rollFor k).entry.net ∧
        oneEntry s m s.settle.period (.roll (s.rollFor k).entry) ∧
        m.settle = { (requestServed s).settle with unrolled := s.settle.unrolled - 1 } ∧
        settleFault s m (rollFull s k) ∧ onlyRaises s m [1, 4, 5] ∧ m.channels = s.channels ∧ m.plu = s.plu ∧
        m.store.nextTag = s.store.nextTag ∧ settleFrame s { m with office.latch := s.office.latch }) ∧
    (s.behind k = true → s.canReserve .general 1 = false →
      exec .snapShop s = .next ((requestServed s).refuse .journalFull))) ∧
  (∀ (s : State) (b : List Byte), shopRequestServed s 0x51 b → s.office.latch = none → 511 < fieldAt b 2 2 →
    exec .snapShop s = .next ((requestServed s).refuse .badValue)) ∧
  (∀ (s : State) (b : List Byte), s.officeBody 0x51 = some b → s.office.latch ≠ none →
    exec .snapShop s = .next (s.refuse .latchHeld)) ∧
  (∀ (s : State) (b : List Byte), shopRequestServed s 0x44 b →
    exec .readHouse s = .next ((requestServed s).done
      (intBytes 8 s.store.houseRec.net ++ bytesOf 8 s.store.houseRec.unclaimed ++ intBytes 8 s.store.houseRec.commission ++
        bytesOf 8 s.store.houseRec.settled ++ pointerBytes s.store.houseRec.mark ++ flagByte s.store.houseRec.sat))) ∧
  (∀ (s : State) (b : List Byte) (k : Nat) (r : ShopRecord), shopRequestServed s 0x53 b → k = fieldAt b 2 2 → k ≤ 511 →
    r = s.shop k →
    (r.closing.state = .inDoubt → s.canReserve .general 1 = true → fieldAt b 4 1 = 0 →
      ∃ m : State, exec .resolve s = .next (m.done []) ∧
        shopWritten s m k { r with closing := { r.closing with state := .settled } } ∧
        m.store.houseRec = settledHouse s.store.houseRec r.closing.amount ∧
        oneEntry s m s.settle.period
          (.resolve k r.closing.period (r.closing.tag.getD 0) r.closing.amount .settled) ∧
        m.settle = { (requestServed s).settle with openPayouts := s.settle.openPayouts - 1 } ∧
        settleFault s m (decide (9223372036854775807 < s.store.houseRec.settled + r.closing.amount)) ∧
        onlyRaises s m [1, 4, 5] ∧ m.channels = s.channels ∧ m.plu = s.plu ∧ m.store.nextTag = s.store.nextTag ∧
        settleFrame s m) ∧
    (r.closing.state = .inDoubt → s.canReserve .general 1 = true → fieldAt b 4 1 = 1 →
      ∃ m : State, exec .resolve s = .next (m.done []) ∧ shopWritten s m k (returnedShop r) ∧
        m.store.houseRec = s.store.houseRec ∧
        oneEntry s m s.settle.period
          (.resolve k r.closing.period (r.closing.tag.getD 0) r.closing.amount .returned) ∧
        m.settle = { (requestServed s).settle with openPayouts := s.settle.openPayouts - 1 } ∧
        settleFault s m (returnedShop.carryFull (r.carry + r.closing.amount)) ∧
        onlyRaises s m [1, 4, 5] ∧ m.channels = s.channels ∧ m.plu = s.plu ∧ m.store.nextTag = s.store.nextTag ∧
        settleFrame s m) ∧
    (r.closing.state = .inDoubt → s.canReserve .general 1 = false → fieldAt b 4 1 ≤ 1 →
      exec .resolve s = .next ((requestServed s).refuse .journalFull)) ∧
    (r.closing.state ≠ .inDoubt → fieldAt b 4 1 ≤ 1 → exec .resolve s = .next ((requestServed s).refuse .wrongState))) ∧
  (∀ (s : State) (b : List Byte), shopRequestServed s 0x53 b → (511 < fieldAt b 2 2 ∨ 1 < fieldAt b 4 1) →
    exec .resolve s = .next ((requestServed s).refuse .badValue)) ∧
  (∀ (s : State) (i : Instr) (kind : Nat) (b : List Byte), s.officeBody kind = some b → s.nextWork = some .request →
    s.store.signature = false →
    (i, kind) ∈ [(Instr.setShop, 0x52), (.readShop, 0x50), (.readHouse, 0x44), (.resolve, 0x53)] ∨
      (i = .snapShop ∧ kind = 0x51 ∧ s.office.latch = none) →
    exec i s = .next ((requestServed s).refuse .wrongState)) ∧
  (∀ (s : State) (i : Instr) (kind : Nat) (b : List Byte), s.officeBody kind = some b → s.ledger.mode = .recovering →
    (i, kind) ∈ [(Instr.setShop, 0x52), (.readShop, 0x50), (.readHouse, 0x44), (.resolve, 0x53)] ∨
      (i = .snapShop ∧ kind = 0x51 ∧ s.office.latch = none) →
    exec i s = .next (s.refuse .wrongState))

/-- The office's requests on a channel: SET_CHANNEL stores the clamped setup; ARM_CHANNEL loads the channel and lets it walk; STEP_CHANNEL
posts a slot request in WAIT_STEP alone; MASK and UNMASK act by state; CHANNEL_STATUS returns the TC flag and clears it; a channel
above 3 and an unknown direction, mode or action are refused BAD_VALUE, SET_CHANNEL over a blank store and the middle ones while
RECOVERING WRONG_STATE (R144, R146 to R150, R160, R161). An absent slot is a free value (log 23). The model's choices: the widths of
the remaining count and of the slot number (log 23), grants follow in the same step (log 26), WRONG_STATE before BAD_VALUE (log 16),
the refusal of a flag byte above 1 (log 18) and of an unknown action by either row (log 17). -/
def Obligations.TheOfficeServesChannels : Prop :=
  (∀ (s : State) (b : List Byte) (c : Nat) (dir : Direction) (mode : ChannelMode) (u : ChannelSetup),
    s.officeBody 0x54 = some b → s.store.signature = true → c = fieldAt b 2 1 → c ≤ 3 →
    Direction.ofCode (fieldAt b 7 1) = some dir → ChannelMode.ofCode (fieldAt b 8 1) = some mode → fieldAt b 9 1 ≤ 1 →
    u = { baseShop := min 511 (fieldAt b 3 2),
          baseCount := min (if dir = .ascending then 511 - min 511 (fieldAt b 3 2) else min 511 (fieldAt b 3 2))
            (min 511 (fieldAt b 5 2)),
          dir := dir, mode := mode, auto := decide (fieldAt b 9 1 = 1) } →
    ∃ t : State, exec .setChannel s = .next (t.done
        (bytesOf 2 u.baseShop ++ bytesOf 2 u.baseCount ++ bytesOf 1 u.dir.code ++ bytesOf 1 u.mode.code ++
          flagByte u.auto)) ∧
      t.setup c = u ∧ (∀ j, j ≠ c → t.setup j = s.setup j) ∧ { t with store.setups := s.store.setups } = s) ∧
  (∀ (s : State) (b : List Byte) (c : Nat) (v : Channel), s.officeBody 0x55 = some b → s.ledger.mode ≠ .recovering →
    c = fieldAt b 2 1 → c ≤ 3 → v = s.channel c →
    (v.st ≠ .running → v.st ≠ .waitSlot →
      ∃ m : State, exec .armChannel s = .next (m.grantSlots.done []) ∧
        channelWritten s m c
          (walking { v with cur := (s.setup c).baseShop, remaining := (s.setup c).baseCount, dir := (s.setup c).dir,
                            mode := (s.setup c).mode, auto := (s.setup c).auto, tc := false, passPending := false,
                            mask := false, maskPending := false }) ∧
        { m with channels := s.channels } = s) ∧
    ((v.st = .running ∨ v.st = .waitSlot) → exec .armChannel s = .next (s.refuse .wrongState))) ∧
  (∀ (s : State) (b : List Byte) (c : Nat) (v : Channel), s.officeBody 0x56 = some b → s.ledger.mode ≠ .recovering →
    c = fieldAt b 2 1 → c ≤ 3 → v = s.channel c →
    (v.st = .waitStep →
      ∃ m : State, exec .stepChannel s = .next (m.grantSlots.done []) ∧ channelWritten s m c { v with st := .waitSlot } ∧
        { m with channels := s.channels } = s) ∧
    (v.st ≠ .waitStep → exec .stepChannel s = .next (s.refuse .wrongState))) ∧
  (∀ (s : State) (b : List Byte) (c : Nat) (v w : Channel), s.officeBody 0x58 = some b → s.ledger.mode ≠ .recovering →
    c = fieldAt b 2 1 → c ≤ 3 → fieldAt b 3 1 = 0 → v = s.channel c →
    (((v.st = .idle ∨ v.st = .done) ∧ w = v) ∨ (v.st = .running ∧ w = { v with mask := true, maskPending := true }) ∨
      (v.st ∈ [.waitClose, .waitSlot, .waitStep, .waitPull] ∧ w = { v with st := .idle, mask := true })) →
    ∃ m : State, exec .maskChannelMask s = .next (m.done []) ∧ channelWritten s m c w ∧
      { m with channels := s.channels } = s) ∧
  (∀ (s : State) (b : List Byte) (c : Nat) (v : Channel), s.officeBody 0x58 = some b → s.ledger.mode ≠ .recovering →
    c = fieldAt b 2 1 → c ≤ 3 → fieldAt b 3 1 = 1 → v = s.channel c →
    (v.st = .idle → ∃ m : State, exec .maskChannelUnmask s = .next (m.grantSlots.done []) ∧
      channelWritten s m c (walking { v with mask := false }) ∧ { m with channels := s.channels } = s) ∧
    (v.st = .running → v.maskPending = true → ∃ m : State, exec .maskChannelUnmask s = .next (m.done []) ∧
      channelWritten s m c { v with mask := false, maskPending := false } ∧ { m with channels := s.channels } = s) ∧
    (v.st = .running → v.maskPending = false → ∃ m : State, exec .maskChannelUnmask s = .next (m.done []) ∧
      channelWritten s m c v ∧ { m with channels := s.channels } = s) ∧
    (v.st = .done → exec .maskChannelUnmask s = .next (s.refuse .wrongState)) ∧
    (v.st ∈ [.waitClose, .waitSlot, .waitStep, .waitPull] → exec .maskChannelUnmask s = .next (s.done []))) ∧
  (∀ (s : State) (b : List Byte) (c : Nat) (v : Channel) (u : ChannelSetup), s.officeBody 0x57 = some b →
    c = fieldAt b 2 1 → c ≤ 3 → v = s.channel c → u = s.setup c →
    ∃ m : State, exec .channelStatus s = .next (m.done
        (bytesOf 2 u.baseShop ++ bytesOf 2 u.baseCount ++ bytesOf 1 u.dir.code ++ bytesOf 1 u.mode.code ++
          flagByte u.auto ++ bytesOf 1 v.st.code ++ flagByte v.mask ++ flagByte v.maskPending ++ bytesOf 2 v.cur ++
          bytesOf 2 v.remaining ++ bytesOf 1 v.dir.code ++ bytesOf 1 v.mode.code ++ flagByte v.auto ++ flagByte v.tc ++
          flagByte v.passPending ++ bytesOf 1 v.credit ++ flagByte (decide (v.st = .waitSlot ∨ v.st = .running)) ++
          slotByte v.slot ++ bytesOf 4 v.visits ++ bytesOf 4 v.emitted)) ∧
      channelWritten s m c { v with tc := false } ∧ { m with channels := s.channels } = s) ∧
  (∀ (s : State) (b : List Byte), s.ledger.mode = .recovering →
    (s.officeBody 0x55 = some b → exec .armChannel s = .next (s.refuse .wrongState)) ∧
    (s.officeBody 0x56 = some b → exec .stepChannel s = .next (s.refuse .wrongState)) ∧
    (s.officeBody 0x58 = some b → fieldAt b 3 1 = 0 → exec .maskChannelMask s = .next (s.refuse .wrongState)) ∧
    (s.officeBody 0x58 = some b → fieldAt b 3 1 = 1 → exec .maskChannelUnmask s = .next (s.refuse .wrongState))) ∧
  (∀ (s : State) (b : List Byte), s.officeBody 0x54 = some b →
    (s.store.signature = false → exec .setChannel s = .next (s.refuse .wrongState)) ∧
    (s.store.signature = true →
      (3 < fieldAt b 2 1 ∨ 1 < fieldAt b 7 1 ∨ 2 < fieldAt b 8 1 ∨ 1 < fieldAt b 9 1) →
      exec .setChannel s = .next (s.refuse .badValue))) ∧
  (∀ (s : State) (b : List Byte), s.ledger.mode ≠ .recovering →
    (s.officeBody 0x55 = some b → 3 < fieldAt b 2 1 → exec .armChannel s = .next (s.refuse .badValue)) ∧
    (s.officeBody 0x56 = some b → 3 < fieldAt b 2 1 → exec .stepChannel s = .next (s.refuse .badValue)) ∧
    (s.officeBody 0x58 = some b → ((fieldAt b 3 1 = 0 ∧ 3 < fieldAt b 2 1) ∨ 1 < fieldAt b 3 1) →
      exec .maskChannelMask s = .next (s.refuse .badValue)) ∧
    (s.officeBody 0x58 = some b → ((fieldAt b 3 1 = 1 ∧ 3 < fieldAt b 2 1) ∨ 1 < fieldAt b 3 1) →
      exec .maskChannelUnmask s = .next (s.refuse .badValue))) ∧
  (∀ (s : State) (b : List Byte), s.officeBody 0x57 = some b → 3 < fieldAt b 2 1 →
    exec .channelStatus s = .next (s.refuse .badValue))

/-! ### Invariants -/

/-- The invariants of the journal, of the tables and queues, of the cards and of the settlement hold right after power-on. -/
def Obligations.InvariantsHoldAtReset : Prop :=
  State.reset.journalSound ∧ State.reset.tablesSound ∧ State.reset.withinCapacity ∧ State.reset.cardsSound ∧
    State.reset.settlementSound

/-- Every step keeps the journal sound: pointers in order, unacknowledged entries and reservations within the ring, reservations within
the numbering, and none outstanding between commands but that of an outstanding close (R131, R178, R179, R180). That the warning may
leave a reservation of work it cut short is the model's (log 42). -/
def Obligations.EveryStepKeepsTheJournalSound : Prop :=
  ∀ s t : State, s.journalSound → step s = .next t → t.journalSound

/-- Every step keeps every table in its canonical form and no queue or list above the places the spec gives it (R10, R16, R17, R53,
R93, R113, R137, R178). -/
def Obligations.EveryStepKeepsTablesAndQueues : Prop :=
  ∀ s t : State, s.tablesSound → s.withinCapacity → step s = .next t → t.tablesSound ∧ t.withinCapacity

/-- Every step that keeps the capacity keeps the cards sound: the float is the sum of all balances, each within its range; in OPEN a
sound card off the fault list has held exactly its open holds, at most 8 and never above its balance; the expiry queue and the
waiting requests name every open hold once; the card pass leaves nothing held; the open flag is set from OPEN_LEDGER on (R41, R43
to R47, R53, R60, R71 to R79). -/
def Obligations.EveryStepKeepsTheCardsSound : Prop :=
  ∀ s t : State, s.cardsSound → (∀ c rest, s.pending = .powerOnReset c :: rest → c.cards = s.cap) → step s = .next t →
    t.cardsSound

/-- Every step keeps the settlement sound: the unrolled count is the number of shops behind, none of them below the cursor; the open
payout count is the number of shops EMITTED or IN_DOUBT; in OPEN a shop is EMITTED exactly when one slot holds its tag; GRANTED slots,
RUNNING channels and the visits, at most four, hold each other; passes stay within the shops; both copies of the period are the stored
one, which an outstanding CLOSE names (R43, R110, R129, R131, R134, R135, R138, R144, R151, R153, R154, R162). -/
def Obligations.EveryStepKeepsTheSettlementSound : Prop :=
  ∀ s t : State, s.journalSound → s.settlementSound → step s = .next t → t.settlementSound
end

