-- ==== Sys2Proof/Laws/Table.lean ====
section
/-! SUPPORT. Laws of the sparse tables: read after write, writes keep the canonical form; the least number a search finds. -/

namespace Sys2Proof.Machine

variable {α : Type}

@[simp] theorem Table.read_nil (d : α) (k : Nat) : Table.read d [] k = d := rfl

theorem Table.read_drop_same (d : α) (t : Table α) (k : Nat) : Table.read d (Table.drop t k) k = d := by
  induction t with
  | nil => rfl
  | cons e t ih =>
    obtain ⟨k', v⟩ := e
    by_cases h : k = k'
    · simp [Table.drop, h]; rw [← h]; exact ih
    · simp [Table.drop, Table.read, h, ih]

theorem Table.read_drop_ne (d : α) (t : Table α) {j k : Nat} (h : j ≠ k) :
    Table.read d (Table.drop t k) j = Table.read d t j := by
  induction t with
  | nil => rfl
  | cons e t ih =>
    obtain ⟨k', v⟩ := e
    by_cases hk : k = k'
    · subst hk
      simp only [Table.drop, if_true, Table.read, if_neg h]
      exact ih
    · simp only [Table.drop, if_neg hk, Table.read, ih]

theorem Table.read_insert_same (d : α) (t : Table α) (k : Nat) (v : α) (h : ∀ w, (k, w) ∉ t) :
    Table.read d (Table.insert t k v) k = v := by
  induction t with
  | nil => simp [Table.insert, Table.read]
  | cons e t ih =>
    obtain ⟨k', v'⟩ := e
    have hne : k ≠ k' := by
      rintro rfl
      exact h v' (by simp)
    by_cases hlt : k < k'
    · simp [Table.insert, Table.read, hlt]
    · simp only [Table.insert, if_neg hlt, Table.read, if_neg hne]
      exact ih (fun w hw => h w (by simp [hw]))

theorem Table.read_insert_ne (d : α) (t : Table α) {j k : Nat} (v : α) (h : j ≠ k) :
    Table.read d (Table.insert t k v) j = Table.read d t j := by
  induction t with
  | nil => simp [Table.insert, Table.read, h]
  | cons e t ih =>
    obtain ⟨k', v'⟩ := e
    by_cases hlt : k < k'
    · simp [Table.insert, Table.read, hlt, h]
    · simp only [Table.insert, if_neg hlt, Table.read, ih]

theorem Table.mem_drop (t : Table α) (k : Nat) (w : α) : (k, w) ∉ Table.drop t k := by
  induction t with
  | nil => simp [Table.drop]
  | cons e t ih =>
    obtain ⟨k', v⟩ := e
    by_cases hk : k = k'
    · simp [Table.drop, hk]; rw [← hk]; exact ih
    · simp [Table.drop, hk, ih]

/-- Reading a key just written gives what was written. -/
@[simp] theorem Table.read_write_same [DecidableEq α] (d : α) (t : Table α) (k : Nat) (v : α) :
    Table.read d (Table.write d t k v) k = v := by
  unfold Table.write
  split
  · rename_i h
    rw [Table.read_drop_same, h]
  · exact Table.read_insert_same d _ k v (fun w => Table.mem_drop t k w)

/-- A write leaves every other key alone. -/
theorem Table.read_write_ne [DecidableEq α] (d : α) (t : Table α) {j k : Nat} (v : α) (h : j ≠ k) :
    Table.read d (Table.write d t k v) j = Table.read d t j := by
  unfold Table.write
  split
  · exact Table.read_drop_ne d t h
  · rw [Table.read_insert_ne d _ v h, Table.read_drop_ne d t h]

theorem Table.rising_weaken {b c : Nat} (h : c ≤ b) : ∀ t : Table α, Table.rising (some b) t = true →
    Table.rising (some c) t = true
  | [], _ => rfl
  | (k, v) :: t, hr => by
    simp only [Table.rising, Bool.and_eq_true, decide_eq_true_eq] at hr ⊢
    exact ⟨by omega, hr.2⟩

theorem Table.rising_of_some {b : Nat} : ∀ t : Table α, Table.rising (some b) t = true → Table.rising none t = true
  | [], _ => rfl
  | (k, v) :: t, hr => by
    simp only [Table.rising, Bool.and_eq_true] at hr ⊢
    exact hr.2

theorem Table.rising_drop : ∀ (b : Option Nat) (t : Table α) (k : Nat), Table.rising b t = true →
    Table.rising b (Table.drop t k) = true
  | _, [], _, _ => by simp [Table.drop, Table.rising]
  | none, (k', v) :: t, k, h => by
    simp only [Table.rising] at h
    by_cases hk : k = k'
    · simp only [Table.drop, if_pos hk]
      exact Table.rising_of_some _ (Table.rising_drop (some k') t k h)
    · simp only [Table.drop, if_neg hk, Table.rising]
      exact Table.rising_drop (some k') t k h
  | some b, (k', v) :: t, k, h => by
    simp only [Table.rising, Bool.and_eq_true, decide_eq_true_eq] at h
    by_cases hk : k = k'
    · simp only [Table.drop, if_pos hk]
      exact Table.rising_weaken (Nat.le_of_lt h.1) _ (Table.rising_drop (some k') t k h.2)
    · simp only [Table.drop, if_neg hk, Table.rising, Bool.and_eq_true, decide_eq_true_eq]
      exact ⟨h.1, Table.rising_drop (some k') t k h.2⟩

theorem Table.rising_insert_some (v : α) : ∀ (b : Nat) (t : Table α) (k : Nat), b < k → (∀ w, (k, w) ∉ t) →
    Table.rising (some b) t = true → Table.rising (some b) (Table.insert t k v) = true
  | b, [], k, hb, _, _ => by simp [Table.insert, Table.rising, hb]
  | b, (k', v') :: t, k, hb, hm, h => by
    simp only [Table.rising, Bool.and_eq_true, decide_eq_true_eq] at h
    have hne : k ≠ k' := by
      rintro rfl
      exact hm v' (by simp)
    by_cases hlt : k < k'
    · simp [Table.insert, Table.rising, hlt, hb, h.2]
    · simp only [Table.insert, if_neg hlt, Table.rising, Bool.and_eq_true, decide_eq_true_eq]
      exact ⟨h.1, Table.rising_insert_some v k' t k (by omega) (fun w hw => hm w (by simp [hw])) h.2⟩

theorem Table.rising_insert (v : α) : ∀ (t : Table α) (k : Nat), (∀ w, (k, w) ∉ t) → Table.rising none t = true →
    Table.rising none (Table.insert t k v) = true
  | [], k, _, _ => by simp [Table.insert, Table.rising]
  | (k', v') :: t, k, hm, h => by
    simp only [Table.rising] at h
    have hne : k ≠ k' := by
      rintro rfl
      exact hm v' (by simp)
    by_cases hlt : k < k'
    · simp [Table.insert, Table.rising, hlt, h]
    · simp only [Table.insert, if_neg hlt, Table.rising]
      exact Table.rising_insert_some v k' t k (by omega) (fun w hw => hm w (by simp [hw])) h

theorem Table.all_drop (p : Nat × α → Bool) (t : Table α) (k : Nat) (h : t.all p = true) :
    List.all (Table.drop t k) p = true := by
  induction t with
  | nil => rfl
  | cons e t ih =>
    obtain ⟨k', v⟩ := e
    simp only [List.all_cons, Bool.and_eq_true] at h
    by_cases hk : k = k'
    · simp only [Table.drop, if_pos hk]
      exact ih h.2
    · simp only [Table.drop, if_neg hk, List.all_cons, h.1, ih h.2, Bool.and_self]

theorem Table.all_insert (p : Nat × α → Bool) (t : Table α) (k : Nat) (v : α) (hv : p (k, v) = true)
    (h : t.all p = true) : List.all (Table.insert t k v) p = true := by
  induction t with
  | nil => simp [Table.insert, hv]
  | cons e t ih =>
    obtain ⟨k', v'⟩ := e
    simp only [List.all_cons, Bool.and_eq_true] at h
    by_cases hlt : k < k'
    · simp [Table.insert, hlt, hv, h.1, h.2]
    · simp [Table.insert, hlt, h.1, ih h.2]

/-- An empty table is in the canonical form. -/
@[simp] theorem Table.wf_nil [DecidableEq α] (d : α) : Table.wf d ([] : Table α) = true := rfl

/-- Every write keeps the canonical form. -/
theorem Table.wf_write [DecidableEq α] (d : α) (t : Table α) (k : Nat) (v : α) (h : Table.wf d t = true) :
    Table.wf d (Table.write d t k v) = true := by
  simp only [Table.wf, Bool.and_eq_true] at h ⊢
  unfold Table.write
  split
  · exact ⟨Table.rising_drop none t k h.1, Table.all_drop _ t k h.2⟩
  · rename_i hv
    refine ⟨Table.rising_insert v _ k (fun w => Table.mem_drop t k w) (Table.rising_drop none t k h.1), ?_⟩
    exact Table.all_insert _ _ k v (by simpa using hv) (Table.all_drop _ t k h.2)

theorem Table.rising_filter (p : Nat × α → Bool) : ∀ (b : Option Nat) (t : Table α), Table.rising b t = true →
    Table.rising b (t.filter p) = true
  | _, [], _ => by simp [Table.rising]
  | none, (k, v) :: t, h => by
    simp only [Table.rising] at h
    by_cases hp : p (k, v) = true
    · simp only [List.filter_cons, if_pos hp, Table.rising]
      exact Table.rising_filter p (some k) t h
    · simp only [List.filter_cons, if_neg hp]
      exact Table.rising_of_some _ (Table.rising_filter p (some k) t h)
  | some b, (k, v) :: t, h => by
    simp only [Table.rising, Bool.and_eq_true, decide_eq_true_eq] at h
    by_cases hp : p (k, v) = true
    · simp only [List.filter_cons, if_pos hp, Table.rising, Bool.and_eq_true, decide_eq_true_eq]
      exact ⟨h.1, Table.rising_filter p (some k) t h.2⟩
    · simp only [List.filter_cons, if_neg hp]
      exact Table.rising_weaken (Nat.le_of_lt h.1) _ (Table.rising_filter p (some k) t h.2)

/-- Dropping entries keeps the canonical form. -/
theorem Table.wf_filter [DecidableEq α] (d : α) (p : Nat × α → Bool) (t : Table α) (h : Table.wf d t = true) :
    Table.wf d (t.filter p) = true := by
  simp only [Table.wf, Bool.and_eq_true] at h ⊢
  refine ⟨Table.rising_filter p none t h.1, ?_⟩
  rw [List.all_eq_true] at h ⊢
  intro e he
  exact h.2 e (List.mem_of_mem_filter he)

/-- A search that succeeds finds the least number of its range that satisfies the predicate. -/
theorem firstFrom_spec (p : Nat → Bool) : ∀ n i k, firstFrom p n i = some k →
    i ≤ k ∧ k < i + n ∧ p k = true ∧ ∀ j, i ≤ j → j < k → p j = false
  | 0, i, k, h => by simp [firstFrom] at h
  | n + 1, i, k, h => by
    unfold firstFrom at h
    split at h
    · rename_i hp
      cases h
      exact ⟨le_refl _, by omega, hp, fun j h1 h2 => absurd h1 (by omega)⟩
    · rename_i hp
      obtain ⟨h1, h2, h3, h4⟩ := firstFrom_spec p n (i + 1) k h
      refine ⟨by omega, by omega, h3, fun j hj hk => ?_⟩
      rcases Nat.eq_or_lt_of_le hj with rfl | hlt
      · simpa using hp
      · exact h4 j hlt hk

/-- A search that fails: no number of its range satisfies the predicate. -/
theorem firstFrom_none (p : Nat → Bool) : ∀ n i, firstFrom p n i = none → ∀ j, i ≤ j → j < i + n → p j = false
  | 0, i, _, j, h1, h2 => absurd h1 (by omega)
  | n + 1, i, h, j, h1, h2 => by
    unfold firstFrom at h
    split at h
    · cases h
    · rename_i hp
      rcases Nat.eq_or_lt_of_le h1 with rfl | hlt
      · simpa using hp
      · exact firstFrom_none p n (i + 1) h j hlt (by omega)

end Sys2Proof.Machine
end

