-- ==== Sys2Proof/Laws/State.lean ====
section
/-! SUPPORT. One lemma per field per update of State: what each single-entry write, raise and give-back leaves. -/

namespace Sys2Proof.Machine

/-! ### setLane -/

@[simp] theorem State.setLane_pfw (s : State) (l : Nat) (v : Lane) : (s.setLane l v).pfw = s.pfw := rfl
@[simp] theorem State.setLane_cap (s : State) (l : Nat) (v : Lane) : (s.setLane l v).cap = s.cap := rfl
@[simp] theorem State.setLane_time (s : State) (l : Nat) (v : Lane) : (s.setLane l v).time = s.time := rfl
@[simp] theorem State.setLane_lanes (s : State) (l : Nat) (v : Lane) : (s.setLane l v).lanes = Table.write Lane.initial s.lanes l v := rfl
@[simp] theorem State.setLane_officeLink (s : State) (l : Nat) (v : Lane) : (s.setLane l v).officeLink = s.officeLink := rfl
@[simp] theorem State.setLane_payLink (s : State) (l : Nat) (v : Lane) : (s.setLane l v).payLink = s.payLink := rfl
@[simp] theorem State.setLane_ledger (s : State) (l : Nat) (v : Lane) : (s.setLane l v).ledger = s.ledger := rfl
@[simp] theorem State.setLane_holds (s : State) (l : Nat) (v : Lane) : (s.setLane l v).holds = s.holds := rfl
@[simp] theorem State.setLane_expiryQ (s : State) (l : Nat) (v : Lane) : (s.setLane l v).expiryQ = s.expiryQ := rfl
@[simp] theorem State.setLane_waiting (s : State) (l : Nat) (v : Lane) : (s.setLane l v).waiting = s.waiting := rfl
@[simp] theorem State.setLane_recovery (s : State) (l : Nat) (v : Lane) : (s.setLane l v).recovery = s.recovery := rfl
@[simp] theorem State.setLane_settle (s : State) (l : Nat) (v : Lane) : (s.setLane l v).settle = s.settle := rfl
@[simp] theorem State.setLane_channels (s : State) (l : Nat) (v : Lane) : (s.setLane l v).channels = s.channels := rfl
@[simp] theorem State.setLane_plu (s : State) (l : Nat) (v : Lane) : (s.setLane l v).plu = s.plu := rfl
@[simp] theorem State.setLane_journal (s : State) (l : Nat) (v : Lane) : (s.setLane l v).journal = s.journal := rfl
@[simp] theorem State.setLane_office (s : State) (l : Nat) (v : Lane) : (s.setLane l v).office = s.office := rfl
@[simp] theorem State.setLane_attn (s : State) (l : Nat) (v : Lane) : (s.setLane l v).attn = s.attn := rfl
@[simp] theorem State.setLane_store (s : State) (l : Nat) (v : Lane) : (s.setLane l v).store = s.store := rfl
@[simp] theorem State.setLane_pending (s : State) (l : Nat) (v : Lane) : (s.setLane l v).pending = s.pending := rfl
@[simp] theorem State.setLane_warnings (s : State) (l : Nat) (v : Lane) : (s.setLane l v).warnings = s.warnings := rfl
@[simp] theorem State.setLane_lane_same (s : State) (l : Nat) (v : Lane) : (s.setLane l v).lane l = v :=
  Table.read_write_same _ _ _ _
theorem State.setLane_lane_ne (s : State) {j : Nat} (l : Nat) (v : Lane) (h : j ≠ l) : (s.setLane l v).lane j = s.lane j :=
  Table.read_write_ne _ _ _ h
@[simp] theorem State.setLane_holdSlot (s : State) (l : Nat) (v : Lane) (j : Nat) : (s.setLane l v).holdSlot j = s.holdSlot j := rfl
@[simp] theorem State.setLane_channel (s : State) (l : Nat) (v : Lane) (j : Nat) : (s.setLane l v).channel j = s.channel j := rfl
@[simp] theorem State.setLane_slot (s : State) (l : Nat) (v : Lane) (j : Nat) : (s.setLane l v).slot j = s.slot j := rfl
@[simp] theorem State.setLane_card (s : State) (l : Nat) (v : Lane) (j : Nat) : (s.setLane l v).card j = s.card j := rfl
@[simp] theorem State.setLane_shop (s : State) (l : Nat) (v : Lane) (j : Nat) : (s.setLane l v).shop j = s.shop j := rfl
@[simp] theorem State.setLane_program (s : State) (l : Nat) (v : Lane) (j : Nat) : (s.setLane l v).program j = s.program j := rfl
@[simp] theorem State.setLane_acceptRow (s : State) (l : Nat) (v : Lane) (j : Nat) : (s.setLane l v).acceptRow j = s.acceptRow j := rfl
@[simp] theorem State.setLane_binding (s : State) (l : Nat) (v : Lane) (j : Nat) : (s.setLane l v).binding j = s.binding j := rfl
@[simp] theorem State.setLane_setup (s : State) (l : Nat) (v : Lane) (j : Nat) : (s.setLane l v).setup j = s.setup j := rfl
@[simp] theorem State.setLane_nextWrite (s : State) (l : Nat) (v : Lane) : (s.setLane l v).nextWrite = s.nextWrite := rfl
@[simp] theorem State.setLane_oldest (s : State) (l : Nat) (v : Lane) : (s.setLane l v).oldest = s.oldest := rfl
@[simp] theorem State.setLane_unack (s : State) (l : Nat) (v : Lane) : (s.setLane l v).unack = s.unack := rfl
@[simp] theorem State.setLane_behind (s : State) (l : Nat) (v : Lane) (j : Nat) : (s.setLane l v).behind j = s.behind j := rfl

/-! ### setHoldSlot -/

@[simp] theorem State.setHoldSlot_pfw (s : State) (k : Nat) (v : HoldSlot) : (s.setHoldSlot k v).pfw = s.pfw := rfl
@[simp] theorem State.setHoldSlot_cap (s : State) (k : Nat) (v : HoldSlot) : (s.setHoldSlot k v).cap = s.cap := rfl
@[simp] theorem State.setHoldSlot_time (s : State) (k : Nat) (v : HoldSlot) : (s.setHoldSlot k v).time = s.time := rfl
@[simp] theorem State.setHoldSlot_lanes (s : State) (k : Nat) (v : HoldSlot) : (s.setHoldSlot k v).lanes = s.lanes := rfl
@[simp] theorem State.setHoldSlot_officeLink (s : State) (k : Nat) (v : HoldSlot) : (s.setHoldSlot k v).officeLink = s.officeLink := rfl
@[simp] theorem State.setHoldSlot_payLink (s : State) (k : Nat) (v : HoldSlot) : (s.setHoldSlot k v).payLink = s.payLink := rfl
@[simp] theorem State.setHoldSlot_ledger (s : State) (k : Nat) (v : HoldSlot) : (s.setHoldSlot k v).ledger = s.ledger := rfl
@[simp] theorem State.setHoldSlot_holds (s : State) (k : Nat) (v : HoldSlot) : (s.setHoldSlot k v).holds = Table.write HoldSlot.initial s.holds k v := rfl
@[simp] theorem State.setHoldSlot_expiryQ (s : State) (k : Nat) (v : HoldSlot) : (s.setHoldSlot k v).expiryQ = s.expiryQ := rfl
@[simp] theorem State.setHoldSlot_waiting (s : State) (k : Nat) (v : HoldSlot) : (s.setHoldSlot k v).waiting = s.waiting := rfl
@[simp] theorem State.setHoldSlot_recovery (s : State) (k : Nat) (v : HoldSlot) : (s.setHoldSlot k v).recovery = s.recovery := rfl
@[simp] theorem State.setHoldSlot_settle (s : State) (k : Nat) (v : HoldSlot) : (s.setHoldSlot k v).settle = s.settle := rfl
@[simp] theorem State.setHoldSlot_channels (s : State) (k : Nat) (v : HoldSlot) : (s.setHoldSlot k v).channels = s.channels := rfl
@[simp] theorem State.setHoldSlot_plu (s : State) (k : Nat) (v : HoldSlot) : (s.setHoldSlot k v).plu = s.plu := rfl
@[simp] theorem State.setHoldSlot_journal (s : State) (k : Nat) (v : HoldSlot) : (s.setHoldSlot k v).journal = s.journal := rfl
@[simp] theorem State.setHoldSlot_office (s : State) (k : Nat) (v : HoldSlot) : (s.setHoldSlot k v).office = s.office := rfl
@[simp] theorem State.setHoldSlot_attn (s : State) (k : Nat) (v : HoldSlot) : (s.setHoldSlot k v).attn = s.attn := rfl
@[simp] theorem State.setHoldSlot_store (s : State) (k : Nat) (v : HoldSlot) : (s.setHoldSlot k v).store = s.store := rfl
@[simp] theorem State.setHoldSlot_pending (s : State) (k : Nat) (v : HoldSlot) : (s.setHoldSlot k v).pending = s.pending := rfl
@[simp] theorem State.setHoldSlot_warnings (s : State) (k : Nat) (v : HoldSlot) : (s.setHoldSlot k v).warnings = s.warnings := rfl
@[simp] theorem State.setHoldSlot_lane (s : State) (k : Nat) (v : HoldSlot) (j : Nat) : (s.setHoldSlot k v).lane j = s.lane j := rfl
@[simp] theorem State.setHoldSlot_holdSlot_same (s : State) (k : Nat) (v : HoldSlot) : (s.setHoldSlot k v).holdSlot k = v :=
  Table.read_write_same _ _ _ _
theorem State.setHoldSlot_holdSlot_ne (s : State) {j : Nat} (k : Nat) (v : HoldSlot) (h : j ≠ k) : (s.setHoldSlot k v).holdSlot j = s.holdSlot j :=
  Table.read_write_ne _ _ _ h
@[simp] theorem State.setHoldSlot_channel (s : State) (k : Nat) (v : HoldSlot) (j : Nat) : (s.setHoldSlot k v).channel j = s.channel j := rfl
@[simp] theorem State.setHoldSlot_slot (s : State) (k : Nat) (v : HoldSlot) (j : Nat) : (s.setHoldSlot k v).slot j = s.slot j := rfl
@[simp] theorem State.setHoldSlot_card (s : State) (k : Nat) (v : HoldSlot) (j : Nat) : (s.setHoldSlot k v).card j = s.card j := rfl
@[simp] theorem State.setHoldSlot_shop (s : State) (k : Nat) (v : HoldSlot) (j : Nat) : (s.setHoldSlot k v).shop j = s.shop j := rfl
@[simp] theorem State.setHoldSlot_program (s : State) (k : Nat) (v : HoldSlot) (j : Nat) : (s.setHoldSlot k v).program j = s.program j := rfl
@[simp] theorem State.setHoldSlot_acceptRow (s : State) (k : Nat) (v : HoldSlot) (j : Nat) : (s.setHoldSlot k v).acceptRow j = s.acceptRow j := rfl
@[simp] theorem State.setHoldSlot_binding (s : State) (k : Nat) (v : HoldSlot) (j : Nat) : (s.setHoldSlot k v).binding j = s.binding j := rfl
@[simp] theorem State.setHoldSlot_setup (s : State) (k : Nat) (v : HoldSlot) (j : Nat) : (s.setHoldSlot k v).setup j = s.setup j := rfl
@[simp] theorem State.setHoldSlot_nextWrite (s : State) (k : Nat) (v : HoldSlot) : (s.setHoldSlot k v).nextWrite = s.nextWrite := rfl
@[simp] theorem State.setHoldSlot_oldest (s : State) (k : Nat) (v : HoldSlot) : (s.setHoldSlot k v).oldest = s.oldest := rfl
@[simp] theorem State.setHoldSlot_unack (s : State) (k : Nat) (v : HoldSlot) : (s.setHoldSlot k v).unack = s.unack := rfl
@[simp] theorem State.setHoldSlot_behind (s : State) (k : Nat) (v : HoldSlot) (j : Nat) : (s.setHoldSlot k v).behind j = s.behind j := rfl

/-! ### setChannel -/

@[simp] theorem State.setChannel_pfw (s : State) (c : Nat) (v : Channel) : (s.setChannel c v).pfw = s.pfw := rfl
@[simp] theorem State.setChannel_cap (s : State) (c : Nat) (v : Channel) : (s.setChannel c v).cap = s.cap := rfl
@[simp] theorem State.setChannel_time (s : State) (c : Nat) (v : Channel) : (s.setChannel c v).time = s.time := rfl
@[simp] theorem State.setChannel_lanes (s : State) (c : Nat) (v : Channel) : (s.setChannel c v).lanes = s.lanes := rfl
@[simp] theorem State.setChannel_officeLink (s : State) (c : Nat) (v : Channel) : (s.setChannel c v).officeLink = s.officeLink := rfl
@[simp] theorem State.setChannel_payLink (s : State) (c : Nat) (v : Channel) : (s.setChannel c v).payLink = s.payLink := rfl
@[simp] theorem State.setChannel_ledger (s : State) (c : Nat) (v : Channel) : (s.setChannel c v).ledger = s.ledger := rfl
@[simp] theorem State.setChannel_holds (s : State) (c : Nat) (v : Channel) : (s.setChannel c v).holds = s.holds := rfl
@[simp] theorem State.setChannel_expiryQ (s : State) (c : Nat) (v : Channel) : (s.setChannel c v).expiryQ = s.expiryQ := rfl
@[simp] theorem State.setChannel_waiting (s : State) (c : Nat) (v : Channel) : (s.setChannel c v).waiting = s.waiting := rfl
@[simp] theorem State.setChannel_recovery (s : State) (c : Nat) (v : Channel) : (s.setChannel c v).recovery = s.recovery := rfl
@[simp] theorem State.setChannel_settle (s : State) (c : Nat) (v : Channel) : (s.setChannel c v).settle = s.settle := rfl
@[simp] theorem State.setChannel_channels (s : State) (c : Nat) (v : Channel) : (s.setChannel c v).channels = Table.write Channel.initial s.channels c v := rfl
@[simp] theorem State.setChannel_plu (s : State) (c : Nat) (v : Channel) : (s.setChannel c v).plu = s.plu := rfl
@[simp] theorem State.setChannel_journal (s : State) (c : Nat) (v : Channel) : (s.setChannel c v).journal = s.journal := rfl
@[simp] theorem State.setChannel_office (s : State) (c : Nat) (v : Channel) : (s.setChannel c v).office = s.office := rfl
@[simp] theorem State.setChannel_attn (s : State) (c : Nat) (v : Channel) : (s.setChannel c v).attn = s.attn := rfl
@[simp] theorem State.setChannel_store (s : State) (c : Nat) (v : Channel) : (s.setChannel c v).store = s.store := rfl
@[simp] theorem State.setChannel_pending (s : State) (c : Nat) (v : Channel) : (s.setChannel c v).pending = s.pending := rfl
@[simp] theorem State.setChannel_warnings (s : State) (c : Nat) (v : Channel) : (s.setChannel c v).warnings = s.warnings := rfl
@[simp] theorem State.setChannel_lane (s : State) (c : Nat) (v : Channel) (j : Nat) : (s.setChannel c v).lane j = s.lane j := rfl
@[simp] theorem State.setChannel_holdSlot (s : State) (c : Nat) (v : Channel) (j : Nat) : (s.setChannel c v).holdSlot j = s.holdSlot j := rfl
@[simp] theorem State.setChannel_channel_same (s : State) (c : Nat) (v : Channel) : (s.setChannel c v).channel c = v :=
  Table.read_write_same _ _ _ _
theorem State.setChannel_channel_ne (s : State) {j : Nat} (c : Nat) (v : Channel) (h : j ≠ c) : (s.setChannel c v).channel j = s.channel j :=
  Table.read_write_ne _ _ _ h
@[simp] theorem State.setChannel_slot (s : State) (c : Nat) (v : Channel) (j : Nat) : (s.setChannel c v).slot j = s.slot j := rfl
@[simp] theorem State.setChannel_card (s : State) (c : Nat) (v : Channel) (j : Nat) : (s.setChannel c v).card j = s.card j := rfl
@[simp] theorem State.setChannel_shop (s : State) (c : Nat) (v : Channel) (j : Nat) : (s.setChannel c v).shop j = s.shop j := rfl
@[simp] theorem State.setChannel_program (s : State) (c : Nat) (v : Channel) (j : Nat) : (s.setChannel c v).program j = s.program j := rfl
@[simp] theorem State.setChannel_acceptRow (s : State) (c : Nat) (v : Channel) (j : Nat) : (s.setChannel c v).acceptRow j = s.acceptRow j := rfl
@[simp] theorem State.setChannel_binding (s : State) (c : Nat) (v : Channel) (j : Nat) : (s.setChannel c v).binding j = s.binding j := rfl
@[simp] theorem State.setChannel_setup (s : State) (c : Nat) (v : Channel) (j : Nat) : (s.setChannel c v).setup j = s.setup j := rfl
@[simp] theorem State.setChannel_nextWrite (s : State) (c : Nat) (v : Channel) : (s.setChannel c v).nextWrite = s.nextWrite := rfl
@[simp] theorem State.setChannel_oldest (s : State) (c : Nat) (v : Channel) : (s.setChannel c v).oldest = s.oldest := rfl
@[simp] theorem State.setChannel_unack (s : State) (c : Nat) (v : Channel) : (s.setChannel c v).unack = s.unack := rfl
@[simp] theorem State.setChannel_behind (s : State) (c : Nat) (v : Channel) (j : Nat) : (s.setChannel c v).behind j = s.behind j := rfl

/-! ### setSlot -/

@[simp] theorem State.setSlot_pfw (s : State) (k : Nat) (v : Slot) : (s.setSlot k v).pfw = s.pfw := rfl
@[simp] theorem State.setSlot_cap (s : State) (k : Nat) (v : Slot) : (s.setSlot k v).cap = s.cap := rfl
@[simp] theorem State.setSlot_time (s : State) (k : Nat) (v : Slot) : (s.setSlot k v).time = s.time := rfl
@[simp] theorem State.setSlot_lanes (s : State) (k : Nat) (v : Slot) : (s.setSlot k v).lanes = s.lanes := rfl
@[simp] theorem State.setSlot_officeLink (s : State) (k : Nat) (v : Slot) : (s.setSlot k v).officeLink = s.officeLink := rfl
@[simp] theorem State.setSlot_payLink (s : State) (k : Nat) (v : Slot) : (s.setSlot k v).payLink = s.payLink := rfl
@[simp] theorem State.setSlot_ledger (s : State) (k : Nat) (v : Slot) : (s.setSlot k v).ledger = s.ledger := rfl
@[simp] theorem State.setSlot_holds (s : State) (k : Nat) (v : Slot) : (s.setSlot k v).holds = s.holds := rfl
@[simp] theorem State.setSlot_expiryQ (s : State) (k : Nat) (v : Slot) : (s.setSlot k v).expiryQ = s.expiryQ := rfl
@[simp] theorem State.setSlot_waiting (s : State) (k : Nat) (v : Slot) : (s.setSlot k v).waiting = s.waiting := rfl
@[simp] theorem State.setSlot_recovery (s : State) (k : Nat) (v : Slot) : (s.setSlot k v).recovery = s.recovery := rfl
@[simp] theorem State.setSlot_settle (s : State) (k : Nat) (v : Slot) : (s.setSlot k v).settle = s.settle := rfl
@[simp] theorem State.setSlot_channels (s : State) (k : Nat) (v : Slot) : (s.setSlot k v).channels = s.channels := rfl
@[simp] theorem State.setSlot_plu_slots (s : State) (k : Nat) (v : Slot) :
    (s.setSlot k v).plu.slots = Table.write Slot.free s.plu.slots k v := rfl
@[simp] theorem State.setSlot_plu_payList (s : State) (k : Nat) (v : Slot) :
    (s.setSlot k v).plu.payList = s.plu.payList := rfl
@[simp] theorem State.setSlot_plu_lastGranted (s : State) (k : Nat) (v : Slot) :
    (s.setSlot k v).plu.lastGranted = s.plu.lastGranted := rfl
@[simp] theorem State.setSlot_plu_late (s : State) (k : Nat) (v : Slot) :
    (s.setSlot k v).plu.late = s.plu.late := rfl
@[simp] theorem State.setSlot_plu_stray (s : State) (k : Nat) (v : Slot) :
    (s.setSlot k v).plu.stray = s.plu.stray := rfl
@[simp] theorem State.setSlot_journal (s : State) (k : Nat) (v : Slot) : (s.setSlot k v).journal = s.journal := rfl
@[simp] theorem State.setSlot_office (s : State) (k : Nat) (v : Slot) : (s.setSlot k v).office = s.office := rfl
@[simp] theorem State.setSlot_attn (s : State) (k : Nat) (v : Slot) : (s.setSlot k v).attn = s.attn := rfl
@[simp] theorem State.setSlot_store (s : State) (k : Nat) (v : Slot) : (s.setSlot k v).store = s.store := rfl
@[simp] theorem State.setSlot_pending (s : State) (k : Nat) (v : Slot) : (s.setSlot k v).pending = s.pending := rfl
@[simp] theorem State.setSlot_warnings (s : State) (k : Nat) (v : Slot) : (s.setSlot k v).warnings = s.warnings := rfl
@[simp] theorem State.setSlot_lane (s : State) (k : Nat) (v : Slot) (j : Nat) : (s.setSlot k v).lane j = s.lane j := rfl
@[simp] theorem State.setSlot_holdSlot (s : State) (k : Nat) (v : Slot) (j : Nat) : (s.setSlot k v).holdSlot j = s.holdSlot j := rfl
@[simp] theorem State.setSlot_channel (s : State) (k : Nat) (v : Slot) (j : Nat) : (s.setSlot k v).channel j = s.channel j := rfl
@[simp] theorem State.setSlot_slot_same (s : State) (k : Nat) (v : Slot) : (s.setSlot k v).slot k = v :=
  Table.read_write_same _ _ _ _
theorem State.setSlot_slot_ne (s : State) {j : Nat} (k : Nat) (v : Slot) (h : j ≠ k) : (s.setSlot k v).slot j = s.slot j :=
  Table.read_write_ne _ _ _ h
@[simp] theorem State.setSlot_card (s : State) (k : Nat) (v : Slot) (j : Nat) : (s.setSlot k v).card j = s.card j := rfl
@[simp] theorem State.setSlot_shop (s : State) (k : Nat) (v : Slot) (j : Nat) : (s.setSlot k v).shop j = s.shop j := rfl
@[simp] theorem State.setSlot_program (s : State) (k : Nat) (v : Slot) (j : Nat) : (s.setSlot k v).program j = s.program j := rfl
@[simp] theorem State.setSlot_acceptRow (s : State) (k : Nat) (v : Slot) (j : Nat) : (s.setSlot k v).acceptRow j = s.acceptRow j := rfl
@[simp] theorem State.setSlot_binding (s : State) (k : Nat) (v : Slot) (j : Nat) : (s.setSlot k v).binding j = s.binding j := rfl
@[simp] theorem State.setSlot_setup (s : State) (k : Nat) (v : Slot) (j : Nat) : (s.setSlot k v).setup j = s.setup j := rfl
@[simp] theorem State.setSlot_nextWrite (s : State) (k : Nat) (v : Slot) : (s.setSlot k v).nextWrite = s.nextWrite := rfl
@[simp] theorem State.setSlot_oldest (s : State) (k : Nat) (v : Slot) : (s.setSlot k v).oldest = s.oldest := rfl
@[simp] theorem State.setSlot_unack (s : State) (k : Nat) (v : Slot) : (s.setSlot k v).unack = s.unack := rfl
@[simp] theorem State.setSlot_behind (s : State) (k : Nat) (v : Slot) (j : Nat) : (s.setSlot k v).behind j = s.behind j := rfl

/-! ### setCard -/

@[simp] theorem State.setCard_pfw (s : State) (k : Nat) (v : CardRecord) : (s.setCard k v).pfw = s.pfw := rfl
@[simp] theorem State.setCard_cap (s : State) (k : Nat) (v : CardRecord) : (s.setCard k v).cap = s.cap := rfl
@[simp] theorem State.setCard_time (s : State) (k : Nat) (v : CardRecord) : (s.setCard k v).time = s.time := rfl
@[simp] theorem State.setCard_lanes (s : State) (k : Nat) (v : CardRecord) : (s.setCard k v).lanes = s.lanes := rfl
@[simp] theorem State.setCard_officeLink (s : State) (k : Nat) (v : CardRecord) : (s.setCard k v).officeLink = s.officeLink := rfl
@[simp] theorem State.setCard_payLink (s : State) (k : Nat) (v : CardRecord) : (s.setCard k v).payLink = s.payLink := rfl
@[simp] theorem State.setCard_ledger (s : State) (k : Nat) (v : CardRecord) : (s.setCard k v).ledger = s.ledger := rfl
@[simp] theorem State.setCard_holds (s : State) (k : Nat) (v : CardRecord) : (s.setCard k v).holds = s.holds := rfl
@[simp] theorem State.setCard_expiryQ (s : State) (k : Nat) (v : CardRecord) : (s.setCard k v).expiryQ = s.expiryQ := rfl
@[simp] theorem State.setCard_waiting (s : State) (k : Nat) (v : CardRecord) : (s.setCard k v).waiting = s.waiting := rfl
@[simp] theorem State.setCard_recovery (s : State) (k : Nat) (v : CardRecord) : (s.setCard k v).recovery = s.recovery := rfl
@[simp] theorem State.setCard_settle (s : State) (k : Nat) (v : CardRecord) : (s.setCard k v).settle = s.settle := rfl
@[simp] theorem State.setCard_channels (s : State) (k : Nat) (v : CardRecord) : (s.setCard k v).channels = s.channels := rfl
@[simp] theorem State.setCard_plu (s : State) (k : Nat) (v : CardRecord) : (s.setCard k v).plu = s.plu := rfl
@[simp] theorem State.setCard_journal (s : State) (k : Nat) (v : CardRecord) : (s.setCard k v).journal = s.journal := rfl
@[simp] theorem State.setCard_office (s : State) (k : Nat) (v : CardRecord) : (s.setCard k v).office = s.office := rfl
@[simp] theorem State.setCard_attn (s : State) (k : Nat) (v : CardRecord) : (s.setCard k v).attn = s.attn := rfl
@[simp] theorem State.setCard_store_signature (s : State) (k : Nat) (v : CardRecord) :
    (s.setCard k v).store.signature = s.store.signature := rfl
@[simp] theorem State.setCard_store_openFlag (s : State) (k : Nat) (v : CardRecord) :
    (s.setCard k v).store.openFlag = s.store.openFlag := rfl
@[simp] theorem State.setCard_store_periodWord (s : State) (k : Nat) (v : CardRecord) :
    (s.setCard k v).store.periodWord = s.store.periodWord := rfl
@[simp] theorem State.setCard_store_cards (s : State) (k : Nat) (v : CardRecord) :
    (s.setCard k v).store.cards = Table.write CardRecord.blank s.store.cards k v := rfl
@[simp] theorem State.setCard_store_programs (s : State) (k : Nat) (v : CardRecord) :
    (s.setCard k v).store.programs = s.store.programs := rfl
@[simp] theorem State.setCard_store_accept (s : State) (k : Nat) (v : CardRecord) :
    (s.setCard k v).store.accept = s.store.accept := rfl
@[simp] theorem State.setCard_store_house (s : State) (k : Nat) (v : CardRecord) :
    (s.setCard k v).store.house = s.store.house := rfl
@[simp] theorem State.setCard_store_bindings (s : State) (k : Nat) (v : CardRecord) :
    (s.setCard k v).store.bindings = s.store.bindings := rfl
@[simp] theorem State.setCard_store_settings (s : State) (k : Nat) (v : CardRecord) :
    (s.setCard k v).store.settings = s.store.settings := rfl
@[simp] theorem State.setCard_store_setups (s : State) (k : Nat) (v : CardRecord) :
    (s.setCard k v).store.setups = s.store.setups := rfl
@[simp] theorem State.setCard_store_nextTag (s : State) (k : Nat) (v : CardRecord) :
    (s.setCard k v).store.nextTag = s.store.nextTag := rfl
@[simp] theorem State.setCard_store_shops (s : State) (k : Nat) (v : CardRecord) :
    (s.setCard k v).store.shops = s.store.shops := rfl
@[simp] theorem State.setCard_store_houseRec (s : State) (k : Nat) (v : CardRecord) :
    (s.setCard k v).store.houseRec = s.store.houseRec := rfl
@[simp] theorem State.setCard_store_totals (s : State) (k : Nat) (v : CardRecord) :
    (s.setCard k v).store.totals = s.store.totals := rfl
@[simp] theorem State.setCard_store_window (s : State) (k : Nat) (v : CardRecord) :
    (s.setCard k v).store.window = s.store.window := rfl
@[simp] theorem State.setCard_store_ring (s : State) (k : Nat) (v : CardRecord) :
    (s.setCard k v).store.ring = s.store.ring := rfl
@[simp] theorem State.setCard_store_nextToWrite (s : State) (k : Nat) (v : CardRecord) :
    (s.setCard k v).store.nextToWrite = s.store.nextToWrite := rfl
@[simp] theorem State.setCard_store_oldestUnack (s : State) (k : Nat) (v : CardRecord) :
    (s.setCard k v).store.oldestUnack = s.store.oldestUnack := rfl
@[simp] theorem State.setCard_pending (s : State) (k : Nat) (v : CardRecord) : (s.setCard k v).pending = s.pending := rfl
@[simp] theorem State.setCard_warnings (s : State) (k : Nat) (v : CardRecord) : (s.setCard k v).warnings = s.warnings := rfl
@[simp] theorem State.setCard_lane (s : State) (k : Nat) (v : CardRecord) (j : Nat) : (s.setCard k v).lane j = s.lane j := rfl
@[simp] theorem State.setCard_holdSlot (s : State) (k : Nat) (v : CardRecord) (j : Nat) : (s.setCard k v).holdSlot j = s.holdSlot j := rfl
@[simp] theorem State.setCard_channel (s : State) (k : Nat) (v : CardRecord) (j : Nat) : (s.setCard k v).channel j = s.channel j := rfl
@[simp] theorem State.setCard_slot (s : State) (k : Nat) (v : CardRecord) (j : Nat) : (s.setCard k v).slot j = s.slot j := rfl
@[simp] theorem State.setCard_card_same (s : State) (k : Nat) (v : CardRecord) : (s.setCard k v).card k = v :=
  Table.read_write_same _ _ _ _
theorem State.setCard_card_ne (s : State) {j : Nat} (k : Nat) (v : CardRecord) (h : j ≠ k) : (s.setCard k v).card j = s.card j :=
  Table.read_write_ne _ _ _ h
@[simp] theorem State.setCard_shop (s : State) (k : Nat) (v : CardRecord) (j : Nat) : (s.setCard k v).shop j = s.shop j := rfl
@[simp] theorem State.setCard_program (s : State) (k : Nat) (v : CardRecord) (j : Nat) : (s.setCard k v).program j = s.program j := rfl
@[simp] theorem State.setCard_acceptRow (s : State) (k : Nat) (v : CardRecord) (j : Nat) : (s.setCard k v).acceptRow j = s.acceptRow j := rfl
@[simp] theorem State.setCard_binding (s : State) (k : Nat) (v : CardRecord) (j : Nat) : (s.setCard k v).binding j = s.binding j := rfl
@[simp] theorem State.setCard_setup (s : State) (k : Nat) (v : CardRecord) (j : Nat) : (s.setCard k v).setup j = s.setup j := rfl
@[simp] theorem State.setCard_nextWrite (s : State) (k : Nat) (v : CardRecord) : (s.setCard k v).nextWrite = s.nextWrite := rfl
@[simp] theorem State.setCard_oldest (s : State) (k : Nat) (v : CardRecord) : (s.setCard k v).oldest = s.oldest := rfl
@[simp] theorem State.setCard_unack (s : State) (k : Nat) (v : CardRecord) : (s.setCard k v).unack = s.unack := rfl
@[simp] theorem State.setCard_behind (s : State) (k : Nat) (v : CardRecord) (j : Nat) : (s.setCard k v).behind j = s.behind j := rfl

/-! ### setShop -/

@[simp] theorem State.setShop_pfw (s : State) (k : Nat) (v : ShopRecord) : (s.setShop k v).pfw = s.pfw := rfl
@[simp] theorem State.setShop_cap (s : State) (k : Nat) (v : ShopRecord) : (s.setShop k v).cap = s.cap := rfl
@[simp] theorem State.setShop_time (s : State) (k : Nat) (v : ShopRecord) : (s.setShop k v).time = s.time := rfl
@[simp] theorem State.setShop_lanes (s : State) (k : Nat) (v : ShopRecord) : (s.setShop k v).lanes = s.lanes := rfl
@[simp] theorem State.setShop_officeLink (s : State) (k : Nat) (v : ShopRecord) : (s.setShop k v).officeLink = s.officeLink := rfl
@[simp] theorem State.setShop_payLink (s : State) (k : Nat) (v : ShopRecord) : (s.setShop k v).payLink = s.payLink := rfl
@[simp] theorem State.setShop_ledger (s : State) (k : Nat) (v : ShopRecord) : (s.setShop k v).ledger = s.ledger := rfl
@[simp] theorem State.setShop_holds (s : State) (k : Nat) (v : ShopRecord) : (s.setShop k v).holds = s.holds := rfl
@[simp] theorem State.setShop_expiryQ (s : State) (k : Nat) (v : ShopRecord) : (s.setShop k v).expiryQ = s.expiryQ := rfl
@[simp] theorem State.setShop_waiting (s : State) (k : Nat) (v : ShopRecord) : (s.setShop k v).waiting = s.waiting := rfl
@[simp] theorem State.setShop_recovery (s : State) (k : Nat) (v : ShopRecord) : (s.setShop k v).recovery = s.recovery := rfl
@[simp] theorem State.setShop_settle (s : State) (k : Nat) (v : ShopRecord) : (s.setShop k v).settle = s.settle := rfl
@[simp] theorem State.setShop_channels (s : State) (k : Nat) (v : ShopRecord) : (s.setShop k v).channels = s.channels := rfl
@[simp] theorem State.setShop_plu (s : State) (k : Nat) (v : ShopRecord) : (s.setShop k v).plu = s.plu := rfl
@[simp] theorem State.setShop_journal (s : State) (k : Nat) (v : ShopRecord) : (s.setShop k v).journal = s.journal := rfl
@[simp] theorem State.setShop_office (s : State) (k : Nat) (v : ShopRecord) : (s.setShop k v).office = s.office := rfl
@[simp] theorem State.setShop_attn (s : State) (k : Nat) (v : ShopRecord) : (s.setShop k v).attn = s.attn := rfl
@[simp] theorem State.setShop_store_signature (s : State) (k : Nat) (v : ShopRecord) :
    (s.setShop k v).store.signature = s.store.signature := rfl
@[simp] theorem State.setShop_store_openFlag (s : State) (k : Nat) (v : ShopRecord) :
    (s.setShop k v).store.openFlag = s.store.openFlag := rfl
@[simp] theorem State.setShop_store_periodWord (s : State) (k : Nat) (v : ShopRecord) :
    (s.setShop k v).store.periodWord = s.store.periodWord := rfl
@[simp] theorem State.setShop_store_cards (s : State) (k : Nat) (v : ShopRecord) :
    (s.setShop k v).store.cards = s.store.cards := rfl
@[simp] theorem State.setShop_store_programs (s : State) (k : Nat) (v : ShopRecord) :
    (s.setShop k v).store.programs = s.store.programs := rfl
@[simp] theorem State.setShop_store_accept (s : State) (k : Nat) (v : ShopRecord) :
    (s.setShop k v).store.accept = s.store.accept := rfl
@[simp] theorem State.setShop_store_house (s : State) (k : Nat) (v : ShopRecord) :
    (s.setShop k v).store.house = s.store.house := rfl
@[simp] theorem State.setShop_store_bindings (s : State) (k : Nat) (v : ShopRecord) :
    (s.setShop k v).store.bindings = s.store.bindings := rfl
@[simp] theorem State.setShop_store_settings (s : State) (k : Nat) (v : ShopRecord) :
    (s.setShop k v).store.settings = s.store.settings := rfl
@[simp] theorem State.setShop_store_setups (s : State) (k : Nat) (v : ShopRecord) :
    (s.setShop k v).store.setups = s.store.setups := rfl
@[simp] theorem State.setShop_store_nextTag (s : State) (k : Nat) (v : ShopRecord) :
    (s.setShop k v).store.nextTag = s.store.nextTag := rfl
@[simp] theorem State.setShop_store_shops (s : State) (k : Nat) (v : ShopRecord) :
    (s.setShop k v).store.shops = Table.write ShopRecord.initial s.store.shops k v := rfl
@[simp] theorem State.setShop_store_houseRec (s : State) (k : Nat) (v : ShopRecord) :
    (s.setShop k v).store.houseRec = s.store.houseRec := rfl
@[simp] theorem State.setShop_store_totals (s : State) (k : Nat) (v : ShopRecord) :
    (s.setShop k v).store.totals = s.store.totals := rfl
@[simp] theorem State.setShop_store_window (s : State) (k : Nat) (v : ShopRecord) :
    (s.setShop k v).store.window = s.store.window := rfl
@[simp] theorem State.setShop_store_ring (s : State) (k : Nat) (v : ShopRecord) :
    (s.setShop k v).store.ring = s.store.ring := rfl
@[simp] theorem State.setShop_store_nextToWrite (s : State) (k : Nat) (v : ShopRecord) :
    (s.setShop k v).store.nextToWrite = s.store.nextToWrite := rfl
@[simp] theorem State.setShop_store_oldestUnack (s : State) (k : Nat) (v : ShopRecord) :
    (s.setShop k v).store.oldestUnack = s.store.oldestUnack := rfl
@[simp] theorem State.setShop_pending (s : State) (k : Nat) (v : ShopRecord) : (s.setShop k v).pending = s.pending := rfl
@[simp] theorem State.setShop_warnings (s : State) (k : Nat) (v : ShopRecord) : (s.setShop k v).warnings = s.warnings := rfl
@[simp] theorem State.setShop_lane (s : State) (k : Nat) (v : ShopRecord) (j : Nat) : (s.setShop k v).lane j = s.lane j := rfl
@[simp] theorem State.setShop_holdSlot (s : State) (k : Nat) (v : ShopRecord) (j : Nat) : (s.setShop k v).holdSlot j = s.holdSlot j := rfl
@[simp] theorem State.setShop_channel (s : State) (k : Nat) (v : ShopRecord) (j : Nat) : (s.setShop k v).channel j = s.channel j := rfl
@[simp] theorem State.setShop_slot (s : State) (k : Nat) (v : ShopRecord) (j : Nat) : (s.setShop k v).slot j = s.slot j := rfl
@[simp] theorem State.setShop_card (s : State) (k : Nat) (v : ShopRecord) (j : Nat) : (s.setShop k v).card j = s.card j := rfl
@[simp] theorem State.setShop_shop_same (s : State) (k : Nat) (v : ShopRecord) : (s.setShop k v).shop k = v :=
  Table.read_write_same _ _ _ _
theorem State.setShop_shop_ne (s : State) {j : Nat} (k : Nat) (v : ShopRecord) (h : j ≠ k) : (s.setShop k v).shop j = s.shop j :=
  Table.read_write_ne _ _ _ h
@[simp] theorem State.setShop_program (s : State) (k : Nat) (v : ShopRecord) (j : Nat) : (s.setShop k v).program j = s.program j := rfl
@[simp] theorem State.setShop_acceptRow (s : State) (k : Nat) (v : ShopRecord) (j : Nat) : (s.setShop k v).acceptRow j = s.acceptRow j := rfl
@[simp] theorem State.setShop_binding (s : State) (k : Nat) (v : ShopRecord) (j : Nat) : (s.setShop k v).binding j = s.binding j := rfl
@[simp] theorem State.setShop_setup (s : State) (k : Nat) (v : ShopRecord) (j : Nat) : (s.setShop k v).setup j = s.setup j := rfl
@[simp] theorem State.setShop_nextWrite (s : State) (k : Nat) (v : ShopRecord) : (s.setShop k v).nextWrite = s.nextWrite := rfl
@[simp] theorem State.setShop_oldest (s : State) (k : Nat) (v : ShopRecord) : (s.setShop k v).oldest = s.oldest := rfl
@[simp] theorem State.setShop_unack (s : State) (k : Nat) (v : ShopRecord) : (s.setShop k v).unack = s.unack := rfl

/-! ### raise -/

@[simp] theorem State.raise_pfw (s : State) (src : Source) : (s.raise src).pfw = s.pfw := rfl
@[simp] theorem State.raise_cap (s : State) (src : Source) : (s.raise src).cap = s.cap := rfl
@[simp] theorem State.raise_time (s : State) (src : Source) : (s.raise src).time = s.time := rfl
@[simp] theorem State.raise_lanes (s : State) (src : Source) : (s.raise src).lanes = s.lanes := rfl
@[simp] theorem State.raise_officeLink (s : State) (src : Source) : (s.raise src).officeLink = s.officeLink := rfl
@[simp] theorem State.raise_payLink (s : State) (src : Source) : (s.raise src).payLink = s.payLink := rfl
@[simp] theorem State.raise_ledger (s : State) (src : Source) : (s.raise src).ledger = s.ledger := rfl
@[simp] theorem State.raise_holds (s : State) (src : Source) : (s.raise src).holds = s.holds := rfl
@[simp] theorem State.raise_expiryQ (s : State) (src : Source) : (s.raise src).expiryQ = s.expiryQ := rfl
@[simp] theorem State.raise_waiting (s : State) (src : Source) : (s.raise src).waiting = s.waiting := rfl
@[simp] theorem State.raise_recovery (s : State) (src : Source) : (s.raise src).recovery = s.recovery := rfl
@[simp] theorem State.raise_settle (s : State) (src : Source) : (s.raise src).settle = s.settle := rfl
@[simp] theorem State.raise_channels (s : State) (src : Source) : (s.raise src).channels = s.channels := rfl
@[simp] theorem State.raise_plu (s : State) (src : Source) : (s.raise src).plu = s.plu := rfl
@[simp] theorem State.raise_journal (s : State) (src : Source) : (s.raise src).journal = s.journal := rfl
@[simp] theorem State.raise_office (s : State) (src : Source) : (s.raise src).office = s.office := rfl
@[simp] theorem State.raise_attn_pending (s : State) (src : Source) :
    (s.raise src).attn.pending = s.attn.pending ||| sourceBit src.number := rfl
@[simp] theorem State.raise_attn_mask (s : State) (src : Source) :
    (s.raise src).attn.mask = s.attn.mask := rfl
@[simp] theorem State.raise_attn_inService (s : State) (src : Source) :
    (s.raise src).attn.inService = s.attn.inService := rfl
@[simp] theorem State.raise_attn_mode (s : State) (src : Source) :
    (s.raise src).attn.mode = s.attn.mode := rfl
@[simp] theorem State.raise_attn_lowest (s : State) (src : Source) :
    (s.raise src).attn.lowest = s.attn.lowest := rfl
@[simp] theorem State.raise_store (s : State) (src : Source) : (s.raise src).store = s.store := rfl
@[simp] theorem State.raise_pending (s : State) (src : Source) : (s.raise src).pending = s.pending := rfl
@[simp] theorem State.raise_warnings (s : State) (src : Source) : (s.raise src).warnings = s.warnings := rfl
@[simp] theorem State.raise_lane (s : State) (src : Source) (j : Nat) : (s.raise src).lane j = s.lane j := rfl
@[simp] theorem State.raise_holdSlot (s : State) (src : Source) (j : Nat) : (s.raise src).holdSlot j = s.holdSlot j := rfl
@[simp] theorem State.raise_channel (s : State) (src : Source) (j : Nat) : (s.raise src).channel j = s.channel j := rfl
@[simp] theorem State.raise_slot (s : State) (src : Source) (j : Nat) : (s.raise src).slot j = s.slot j := rfl
@[simp] theorem State.raise_card (s : State) (src : Source) (j : Nat) : (s.raise src).card j = s.card j := rfl
@[simp] theorem State.raise_shop (s : State) (src : Source) (j : Nat) : (s.raise src).shop j = s.shop j := rfl
@[simp] theorem State.raise_program (s : State) (src : Source) (j : Nat) : (s.raise src).program j = s.program j := rfl
@[simp] theorem State.raise_acceptRow (s : State) (src : Source) (j : Nat) : (s.raise src).acceptRow j = s.acceptRow j := rfl
@[simp] theorem State.raise_binding (s : State) (src : Source) (j : Nat) : (s.raise src).binding j = s.binding j := rfl
@[simp] theorem State.raise_setup (s : State) (src : Source) (j : Nat) : (s.raise src).setup j = s.setup j := rfl
@[simp] theorem State.raise_nextWrite (s : State) (src : Source) : (s.raise src).nextWrite = s.nextWrite := rfl
@[simp] theorem State.raise_oldest (s : State) (src : Source) : (s.raise src).oldest = s.oldest := rfl
@[simp] theorem State.raise_unack (s : State) (src : Source) : (s.raise src).unack = s.unack := rfl
@[simp] theorem State.raise_behind (s : State) (src : Source) (j : Nat) : (s.raise src).behind j = s.behind j := rfl

/-! ### giveBack -/

@[simp] theorem State.giveBack_pfw (s : State) (n : Nat) : (s.giveBack n).pfw = s.pfw := rfl
@[simp] theorem State.giveBack_cap (s : State) (n : Nat) : (s.giveBack n).cap = s.cap := rfl
@[simp] theorem State.giveBack_time (s : State) (n : Nat) : (s.giveBack n).time = s.time := rfl
@[simp] theorem State.giveBack_lanes (s : State) (n : Nat) : (s.giveBack n).lanes = s.lanes := rfl
@[simp] theorem State.giveBack_officeLink (s : State) (n : Nat) : (s.giveBack n).officeLink = s.officeLink := rfl
@[simp] theorem State.giveBack_payLink (s : State) (n : Nat) : (s.giveBack n).payLink = s.payLink := rfl
@[simp] theorem State.giveBack_ledger (s : State) (n : Nat) : (s.giveBack n).ledger = s.ledger := rfl
@[simp] theorem State.giveBack_holds (s : State) (n : Nat) : (s.giveBack n).holds = s.holds := rfl
@[simp] theorem State.giveBack_expiryQ (s : State) (n : Nat) : (s.giveBack n).expiryQ = s.expiryQ := rfl
@[simp] theorem State.giveBack_waiting (s : State) (n : Nat) : (s.giveBack n).waiting = s.waiting := rfl
@[simp] theorem State.giveBack_recovery (s : State) (n : Nat) : (s.giveBack n).recovery = s.recovery := rfl
@[simp] theorem State.giveBack_settle (s : State) (n : Nat) : (s.giveBack n).settle = s.settle := rfl
@[simp] theorem State.giveBack_channels (s : State) (n : Nat) : (s.giveBack n).channels = s.channels := rfl
@[simp] theorem State.giveBack_plu (s : State) (n : Nat) : (s.giveBack n).plu = s.plu := rfl
@[simp] theorem State.giveBack_journal_nextStream (s : State) (n : Nat) :
    (s.giveBack n).journal.nextStream = s.journal.nextStream := rfl
@[simp] theorem State.giveBack_journal_reserved (s : State) (n : Nat) :
    (s.giveBack n).journal.reserved = s.journal.reserved - n := rfl
@[simp] theorem State.giveBack_journal_highHeld (s : State) (n : Nat) :
    (s.giveBack n).journal.highHeld = s.journal.highHeld := rfl
@[simp] theorem State.giveBack_journal_fullHeld (s : State) (n : Nat) :
    (s.giveBack n).journal.fullHeld = s.journal.fullHeld := rfl
@[simp] theorem State.giveBack_journal_streamOn (s : State) (n : Nat) :
    (s.giveBack n).journal.streamOn = s.journal.streamOn := rfl
@[simp] theorem State.giveBack_journal_unit (s : State) (n : Nat) :
    (s.giveBack n).journal.unit = s.journal.unit := rfl
@[simp] theorem State.giveBack_journal_interval (s : State) (n : Nat) :
    (s.giveBack n).journal.interval = s.journal.interval := rfl
@[simp] theorem State.giveBack_journal_streamCount (s : State) (n : Nat) :
    (s.giveBack n).journal.streamCount = s.journal.streamCount := rfl
@[simp] theorem State.giveBack_office (s : State) (n : Nat) : (s.giveBack n).office = s.office := rfl
@[simp] theorem State.giveBack_attn (s : State) (n : Nat) : (s.giveBack n).attn = s.attn := rfl
@[simp] theorem State.giveBack_store (s : State) (n : Nat) : (s.giveBack n).store = s.store := rfl
@[simp] theorem State.giveBack_pending (s : State) (n : Nat) : (s.giveBack n).pending = s.pending := rfl
@[simp] theorem State.giveBack_warnings (s : State) (n : Nat) : (s.giveBack n).warnings = s.warnings := rfl
@[simp] theorem State.giveBack_lane (s : State) (n : Nat) (j : Nat) : (s.giveBack n).lane j = s.lane j := rfl
@[simp] theorem State.giveBack_holdSlot (s : State) (n : Nat) (j : Nat) : (s.giveBack n).holdSlot j = s.holdSlot j := rfl
@[simp] theorem State.giveBack_channel (s : State) (n : Nat) (j : Nat) : (s.giveBack n).channel j = s.channel j := rfl
@[simp] theorem State.giveBack_slot (s : State) (n : Nat) (j : Nat) : (s.giveBack n).slot j = s.slot j := rfl
@[simp] theorem State.giveBack_card (s : State) (n : Nat) (j : Nat) : (s.giveBack n).card j = s.card j := rfl
@[simp] theorem State.giveBack_shop (s : State) (n : Nat) (j : Nat) : (s.giveBack n).shop j = s.shop j := rfl
@[simp] theorem State.giveBack_program (s : State) (n : Nat) (j : Nat) : (s.giveBack n).program j = s.program j := rfl
@[simp] theorem State.giveBack_acceptRow (s : State) (n : Nat) (j : Nat) : (s.giveBack n).acceptRow j = s.acceptRow j := rfl
@[simp] theorem State.giveBack_binding (s : State) (n : Nat) (j : Nat) : (s.giveBack n).binding j = s.binding j := rfl
@[simp] theorem State.giveBack_setup (s : State) (n : Nat) (j : Nat) : (s.giveBack n).setup j = s.setup j := rfl
@[simp] theorem State.giveBack_nextWrite (s : State) (n : Nat) : (s.giveBack n).nextWrite = s.nextWrite := rfl
@[simp] theorem State.giveBack_oldest (s : State) (n : Nat) : (s.giveBack n).oldest = s.oldest := rfl
@[simp] theorem State.giveBack_unack (s : State) (n : Nat) : (s.giveBack n).unack = s.unack := rfl
@[simp] theorem State.giveBack_behind (s : State) (n : Nat) (j : Nat) : (s.giveBack n).behind j = s.behind j := rfl

/-! ### setTotals -/

@[simp] theorem State.setTotals_pfw (s : State) (v : Totals) : (s.setTotals v).pfw = s.pfw := rfl
@[simp] theorem State.setTotals_cap (s : State) (v : Totals) : (s.setTotals v).cap = s.cap := rfl
@[simp] theorem State.setTotals_time (s : State) (v : Totals) : (s.setTotals v).time = s.time := rfl
@[simp] theorem State.setTotals_lanes (s : State) (v : Totals) : (s.setTotals v).lanes = s.lanes := rfl
@[simp] theorem State.setTotals_officeLink (s : State) (v : Totals) : (s.setTotals v).officeLink = s.officeLink := rfl
@[simp] theorem State.setTotals_payLink (s : State) (v : Totals) : (s.setTotals v).payLink = s.payLink := rfl
@[simp] theorem State.setTotals_ledger (s : State) (v : Totals) : (s.setTotals v).ledger = s.ledger := rfl
@[simp] theorem State.setTotals_holds (s : State) (v : Totals) : (s.setTotals v).holds = s.holds := rfl
@[simp] theorem State.setTotals_expiryQ (s : State) (v : Totals) : (s.setTotals v).expiryQ = s.expiryQ := rfl
@[simp] theorem State.setTotals_waiting (s : State) (v : Totals) : (s.setTotals v).waiting = s.waiting := rfl
@[simp] theorem State.setTotals_recovery (s : State) (v : Totals) : (s.setTotals v).recovery = s.recovery := rfl
@[simp] theorem State.setTotals_settle (s : State) (v : Totals) : (s.setTotals v).settle = s.settle := rfl
@[simp] theorem State.setTotals_channels (s : State) (v : Totals) : (s.setTotals v).channels = s.channels := rfl
@[simp] theorem State.setTotals_plu (s : State) (v : Totals) : (s.setTotals v).plu = s.plu := rfl
@[simp] theorem State.setTotals_journal (s : State) (v : Totals) : (s.setTotals v).journal = s.journal := rfl
@[simp] theorem State.setTotals_office (s : State) (v : Totals) : (s.setTotals v).office = s.office := rfl
@[simp] theorem State.setTotals_attn (s : State) (v : Totals) : (s.setTotals v).attn = s.attn := rfl
@[simp] theorem State.setTotals_store_signature (s : State) (v : Totals) :
    (s.setTotals v).store.signature = s.store.signature := rfl
@[simp] theorem State.setTotals_store_openFlag (s : State) (v : Totals) :
    (s.setTotals v).store.openFlag = s.store.openFlag := rfl
@[simp] theorem State.setTotals_store_periodWord (s : State) (v : Totals) :
    (s.setTotals v).store.periodWord = s.store.periodWord := rfl
@[simp] theorem State.setTotals_store_cards (s : State) (v : Totals) :
    (s.setTotals v).store.cards = s.store.cards := rfl
@[simp] theorem State.setTotals_store_programs (s : State) (v : Totals) :
    (s.setTotals v).store.programs = s.store.programs := rfl
@[simp] theorem State.setTotals_store_accept (s : State) (v : Totals) :
    (s.setTotals v).store.accept = s.store.accept := rfl
@[simp] theorem State.setTotals_store_house (s : State) (v : Totals) :
    (s.setTotals v).store.house = s.store.house := rfl
@[simp] theorem State.setTotals_store_bindings (s : State) (v : Totals) :
    (s.setTotals v).store.bindings = s.store.bindings := rfl
@[simp] theorem State.setTotals_store_settings (s : State) (v : Totals) :
    (s.setTotals v).store.settings = s.store.settings := rfl
@[simp] theorem State.setTotals_store_setups (s : State) (v : Totals) :
    (s.setTotals v).store.setups = s.store.setups := rfl
@[simp] theorem State.setTotals_store_nextTag (s : State) (v : Totals) :
    (s.setTotals v).store.nextTag = s.store.nextTag := rfl
@[simp] theorem State.setTotals_store_shops (s : State) (v : Totals) :
    (s.setTotals v).store.shops = s.store.shops := rfl
@[simp] theorem State.setTotals_store_houseRec (s : State) (v : Totals) :
    (s.setTotals v).store.houseRec = s.store.houseRec := rfl
@[simp] theorem State.setTotals_store_totals (s : State) (v : Totals) :
    (s.setTotals v).store.totals = v := rfl
@[simp] theorem State.setTotals_store_window (s : State) (v : Totals) :
    (s.setTotals v).store.window = s.store.window := rfl
@[simp] theorem State.setTotals_store_ring (s : State) (v : Totals) :
    (s.setTotals v).store.ring = s.store.ring := rfl
@[simp] theorem State.setTotals_store_nextToWrite (s : State) (v : Totals) :
    (s.setTotals v).store.nextToWrite = s.store.nextToWrite := rfl
@[simp] theorem State.setTotals_store_oldestUnack (s : State) (v : Totals) :
    (s.setTotals v).store.oldestUnack = s.store.oldestUnack := rfl
@[simp] theorem State.setTotals_pending (s : State) (v : Totals) : (s.setTotals v).pending = s.pending := rfl
@[simp] theorem State.setTotals_warnings (s : State) (v : Totals) : (s.setTotals v).warnings = s.warnings := rfl
@[simp] theorem State.setTotals_lane (s : State) (v : Totals) (j : Nat) : (s.setTotals v).lane j = s.lane j := rfl
@[simp] theorem State.setTotals_holdSlot (s : State) (v : Totals) (j : Nat) : (s.setTotals v).holdSlot j = s.holdSlot j := rfl
@[simp] theorem State.setTotals_channel (s : State) (v : Totals) (j : Nat) : (s.setTotals v).channel j = s.channel j := rfl
@[simp] theorem State.setTotals_slot (s : State) (v : Totals) (j : Nat) : (s.setTotals v).slot j = s.slot j := rfl
@[simp] theorem State.setTotals_card (s : State) (v : Totals) (j : Nat) : (s.setTotals v).card j = s.card j := rfl
@[simp] theorem State.setTotals_shop (s : State) (v : Totals) (j : Nat) : (s.setTotals v).shop j = s.shop j := rfl
@[simp] theorem State.setTotals_program (s : State) (v : Totals) (j : Nat) : (s.setTotals v).program j = s.program j := rfl
@[simp] theorem State.setTotals_acceptRow (s : State) (v : Totals) (j : Nat) : (s.setTotals v).acceptRow j = s.acceptRow j := rfl
@[simp] theorem State.setTotals_binding (s : State) (v : Totals) (j : Nat) : (s.setTotals v).binding j = s.binding j := rfl
@[simp] theorem State.setTotals_setup (s : State) (v : Totals) (j : Nat) : (s.setTotals v).setup j = s.setup j := rfl
@[simp] theorem State.setTotals_nextWrite (s : State) (v : Totals) : (s.setTotals v).nextWrite = s.nextWrite := rfl
@[simp] theorem State.setTotals_oldest (s : State) (v : Totals) : (s.setTotals v).oldest = s.oldest := rfl
@[simp] theorem State.setTotals_unack (s : State) (v : Totals) : (s.setTotals v).unack = s.unack := rfl
@[simp] theorem State.setTotals_behind (s : State) (v : Totals) (j : Nat) : (s.setTotals v).behind j = s.behind j := rfl

/-! ### addWindow -/

@[simp] theorem State.addWindow_pfw (s : State) (v : CaptureRecord) : (s.addWindow v).pfw = s.pfw := rfl
@[simp] theorem State.addWindow_cap (s : State) (v : CaptureRecord) : (s.addWindow v).cap = s.cap := rfl
@[simp] theorem State.addWindow_time (s : State) (v : CaptureRecord) : (s.addWindow v).time = s.time := rfl
@[simp] theorem State.addWindow_lanes (s : State) (v : CaptureRecord) : (s.addWindow v).lanes = s.lanes := rfl
@[simp] theorem State.addWindow_officeLink (s : State) (v : CaptureRecord) : (s.addWindow v).officeLink = s.officeLink := rfl
@[simp] theorem State.addWindow_payLink (s : State) (v : CaptureRecord) : (s.addWindow v).payLink = s.payLink := rfl
@[simp] theorem State.addWindow_ledger (s : State) (v : CaptureRecord) : (s.addWindow v).ledger = s.ledger := rfl
@[simp] theorem State.addWindow_holds (s : State) (v : CaptureRecord) : (s.addWindow v).holds = s.holds := rfl
@[simp] theorem State.addWindow_expiryQ (s : State) (v : CaptureRecord) : (s.addWindow v).expiryQ = s.expiryQ := rfl
@[simp] theorem State.addWindow_waiting (s : State) (v : CaptureRecord) : (s.addWindow v).waiting = s.waiting := rfl
@[simp] theorem State.addWindow_recovery (s : State) (v : CaptureRecord) : (s.addWindow v).recovery = s.recovery := rfl
@[simp] theorem State.addWindow_settle (s : State) (v : CaptureRecord) : (s.addWindow v).settle = s.settle := rfl
@[simp] theorem State.addWindow_channels (s : State) (v : CaptureRecord) : (s.addWindow v).channels = s.channels := rfl
@[simp] theorem State.addWindow_plu (s : State) (v : CaptureRecord) : (s.addWindow v).plu = s.plu := rfl
@[simp] theorem State.addWindow_journal (s : State) (v : CaptureRecord) : (s.addWindow v).journal = s.journal := rfl
@[simp] theorem State.addWindow_office (s : State) (v : CaptureRecord) : (s.addWindow v).office = s.office := rfl
@[simp] theorem State.addWindow_attn (s : State) (v : CaptureRecord) : (s.addWindow v).attn = s.attn := rfl
@[simp] theorem State.addWindow_store_signature (s : State) (v : CaptureRecord) :
    (s.addWindow v).store.signature = s.store.signature := rfl
@[simp] theorem State.addWindow_store_openFlag (s : State) (v : CaptureRecord) :
    (s.addWindow v).store.openFlag = s.store.openFlag := rfl
@[simp] theorem State.addWindow_store_periodWord (s : State) (v : CaptureRecord) :
    (s.addWindow v).store.periodWord = s.store.periodWord := rfl
@[simp] theorem State.addWindow_store_cards (s : State) (v : CaptureRecord) :
    (s.addWindow v).store.cards = s.store.cards := rfl
@[simp] theorem State.addWindow_store_programs (s : State) (v : CaptureRecord) :
    (s.addWindow v).store.programs = s.store.programs := rfl
@[simp] theorem State.addWindow_store_accept (s : State) (v : CaptureRecord) :
    (s.addWindow v).store.accept = s.store.accept := rfl
@[simp] theorem State.addWindow_store_house (s : State) (v : CaptureRecord) :
    (s.addWindow v).store.house = s.store.house := rfl
@[simp] theorem State.addWindow_store_bindings (s : State) (v : CaptureRecord) :
    (s.addWindow v).store.bindings = s.store.bindings := rfl
@[simp] theorem State.addWindow_store_settings (s : State) (v : CaptureRecord) :
    (s.addWindow v).store.settings = s.store.settings := rfl
@[simp] theorem State.addWindow_store_setups (s : State) (v : CaptureRecord) :
    (s.addWindow v).store.setups = s.store.setups := rfl
@[simp] theorem State.addWindow_store_nextTag (s : State) (v : CaptureRecord) :
    (s.addWindow v).store.nextTag = s.store.nextTag := rfl
@[simp] theorem State.addWindow_store_shops (s : State) (v : CaptureRecord) :
    (s.addWindow v).store.shops = s.store.shops := rfl
@[simp] theorem State.addWindow_store_houseRec (s : State) (v : CaptureRecord) :
    (s.addWindow v).store.houseRec = s.store.houseRec := rfl
@[simp] theorem State.addWindow_store_totals (s : State) (v : CaptureRecord) :
    (s.addWindow v).store.totals = s.store.totals := rfl
@[simp] theorem State.addWindow_store_window (s : State) (v : CaptureRecord) :
    (s.addWindow v).store.window = addCapture s.store.window v := rfl
@[simp] theorem State.addWindow_store_ring (s : State) (v : CaptureRecord) :
    (s.addWindow v).store.ring = s.store.ring := rfl
@[simp] theorem State.addWindow_store_nextToWrite (s : State) (v : CaptureRecord) :
    (s.addWindow v).store.nextToWrite = s.store.nextToWrite := rfl
@[simp] theorem State.addWindow_store_oldestUnack (s : State) (v : CaptureRecord) :
    (s.addWindow v).store.oldestUnack = s.store.oldestUnack := rfl
@[simp] theorem State.addWindow_pending (s : State) (v : CaptureRecord) : (s.addWindow v).pending = s.pending := rfl
@[simp] theorem State.addWindow_warnings (s : State) (v : CaptureRecord) : (s.addWindow v).warnings = s.warnings := rfl
@[simp] theorem State.addWindow_lane (s : State) (v : CaptureRecord) (j : Nat) : (s.addWindow v).lane j = s.lane j := rfl
@[simp] theorem State.addWindow_holdSlot (s : State) (v : CaptureRecord) (j : Nat) : (s.addWindow v).holdSlot j = s.holdSlot j := rfl
@[simp] theorem State.addWindow_channel (s : State) (v : CaptureRecord) (j : Nat) : (s.addWindow v).channel j = s.channel j := rfl
@[simp] theorem State.addWindow_slot (s : State) (v : CaptureRecord) (j : Nat) : (s.addWindow v).slot j = s.slot j := rfl
@[simp] theorem State.addWindow_card (s : State) (v : CaptureRecord) (j : Nat) : (s.addWindow v).card j = s.card j := rfl
@[simp] theorem State.addWindow_shop (s : State) (v : CaptureRecord) (j : Nat) : (s.addWindow v).shop j = s.shop j := rfl
@[simp] theorem State.addWindow_program (s : State) (v : CaptureRecord) (j : Nat) : (s.addWindow v).program j = s.program j := rfl
@[simp] theorem State.addWindow_acceptRow (s : State) (v : CaptureRecord) (j : Nat) : (s.addWindow v).acceptRow j = s.acceptRow j := rfl
@[simp] theorem State.addWindow_binding (s : State) (v : CaptureRecord) (j : Nat) : (s.addWindow v).binding j = s.binding j := rfl
@[simp] theorem State.addWindow_setup (s : State) (v : CaptureRecord) (j : Nat) : (s.addWindow v).setup j = s.setup j := rfl
@[simp] theorem State.addWindow_nextWrite (s : State) (v : CaptureRecord) : (s.addWindow v).nextWrite = s.nextWrite := rfl
@[simp] theorem State.addWindow_oldest (s : State) (v : CaptureRecord) : (s.addWindow v).oldest = s.oldest := rfl
@[simp] theorem State.addWindow_unack (s : State) (v : CaptureRecord) : (s.addWindow v).unack = s.unack := rfl
@[simp] theorem State.addWindow_behind (s : State) (v : CaptureRecord) (j : Nat) : (s.addWindow v).behind j = s.behind j := rfl

end Sys2Proof.Machine
end

