-- ==== Sys2Proof/Laws/Ops.lean ====
section
/-! SUPPORT. One lemma for each shared operation that says all it can do, and the fields each leaves alone. -/

namespace Sys2Proof.Machine

/-- Raising a source touches the pending flags alone. -/
theorem State.raiseIf_frame (s : State) (b : Bool) (src : Source) :
    s.raiseIf b src = { s with attn := (s.raiseIf b src).attn } := by
  cases b <;> rfl

@[simp] theorem State.raiseIf_pfw (s : State) (b : Bool) (src : Source) : (s.raiseIf b src).pfw = s.pfw := by
  rw [State.raiseIf_frame]
@[simp] theorem State.raiseIf_cap (s : State) (b : Bool) (src : Source) : (s.raiseIf b src).cap = s.cap := by
  rw [State.raiseIf_frame]
@[simp] theorem State.raiseIf_time (s : State) (b : Bool) (src : Source) : (s.raiseIf b src).time = s.time := by
  rw [State.raiseIf_frame]
@[simp] theorem State.raiseIf_lanes (s : State) (b : Bool) (src : Source) : (s.raiseIf b src).lanes = s.lanes := by
  rw [State.raiseIf_frame]
@[simp] theorem State.raiseIf_officeLink (s : State) (b : Bool) (src : Source) : (s.raiseIf b src).officeLink = s.officeLink := by
  rw [State.raiseIf_frame]
@[simp] theorem State.raiseIf_payLink (s : State) (b : Bool) (src : Source) : (s.raiseIf b src).payLink = s.payLink := by
  rw [State.raiseIf_frame]
@[simp] theorem State.raiseIf_ledger (s : State) (b : Bool) (src : Source) : (s.raiseIf b src).ledger = s.ledger := by
  rw [State.raiseIf_frame]
@[simp] theorem State.raiseIf_holds (s : State) (b : Bool) (src : Source) : (s.raiseIf b src).holds = s.holds := by
  rw [State.raiseIf_frame]
@[simp] theorem State.raiseIf_expiryQ (s : State) (b : Bool) (src : Source) : (s.raiseIf b src).expiryQ = s.expiryQ := by
  rw [State.raiseIf_frame]
@[simp] theorem State.raiseIf_waiting (s : State) (b : Bool) (src : Source) : (s.raiseIf b src).waiting = s.waiting := by
  rw [State.raiseIf_frame]
@[simp] theorem State.raiseIf_recovery (s : State) (b : Bool) (src : Source) : (s.raiseIf b src).recovery = s.recovery := by
  rw [State.raiseIf_frame]
@[simp] theorem State.raiseIf_settle (s : State) (b : Bool) (src : Source) : (s.raiseIf b src).settle = s.settle := by
  rw [State.raiseIf_frame]
@[simp] theorem State.raiseIf_channels (s : State) (b : Bool) (src : Source) : (s.raiseIf b src).channels = s.channels := by
  rw [State.raiseIf_frame]
@[simp] theorem State.raiseIf_plu (s : State) (b : Bool) (src : Source) : (s.raiseIf b src).plu = s.plu := by
  rw [State.raiseIf_frame]
@[simp] theorem State.raiseIf_journal (s : State) (b : Bool) (src : Source) : (s.raiseIf b src).journal = s.journal := by
  rw [State.raiseIf_frame]
@[simp] theorem State.raiseIf_office (s : State) (b : Bool) (src : Source) : (s.raiseIf b src).office = s.office := by
  rw [State.raiseIf_frame]
@[simp] theorem State.raiseIf_store (s : State) (b : Bool) (src : Source) : (s.raiseIf b src).store = s.store := by
  rw [State.raiseIf_frame]
@[simp] theorem State.raiseIf_pending (s : State) (b : Bool) (src : Source) : (s.raiseIf b src).pending = s.pending := by
  rw [State.raiseIf_frame]
@[simp] theorem State.raiseIf_warnings (s : State) (b : Bool) (src : Source) : (s.raiseIf b src).warnings = s.warnings := by
  rw [State.raiseIf_frame]
@[simp] theorem State.raiseIf_lane (s : State) (b : Bool) (src : Source) (j : Nat) : (s.raiseIf b src).lane j = s.lane j := by
  rw [State.raiseIf_frame]; rfl
@[simp] theorem State.raiseIf_holdSlot (s : State) (b : Bool) (src : Source) (j : Nat) : (s.raiseIf b src).holdSlot j = s.holdSlot j := by
  rw [State.raiseIf_frame]; rfl
@[simp] theorem State.raiseIf_channel (s : State) (b : Bool) (src : Source) (j : Nat) : (s.raiseIf b src).channel j = s.channel j := by
  rw [State.raiseIf_frame]; rfl
@[simp] theorem State.raiseIf_slot (s : State) (b : Bool) (src : Source) (j : Nat) : (s.raiseIf b src).slot j = s.slot j := by
  rw [State.raiseIf_frame]; rfl
@[simp] theorem State.raiseIf_card (s : State) (b : Bool) (src : Source) (j : Nat) : (s.raiseIf b src).card j = s.card j := by
  rw [State.raiseIf_frame]; rfl
@[simp] theorem State.raiseIf_shop (s : State) (b : Bool) (src : Source) (j : Nat) : (s.raiseIf b src).shop j = s.shop j := by
  rw [State.raiseIf_frame]; rfl
@[simp] theorem State.raiseIf_program (s : State) (b : Bool) (src : Source) (j : Nat) : (s.raiseIf b src).program j = s.program j := by
  rw [State.raiseIf_frame]; rfl
@[simp] theorem State.raiseIf_acceptRow (s : State) (b : Bool) (src : Source) (j : Nat) : (s.raiseIf b src).acceptRow j = s.acceptRow j := by
  rw [State.raiseIf_frame]; rfl
@[simp] theorem State.raiseIf_binding (s : State) (b : Bool) (src : Source) (j : Nat) : (s.raiseIf b src).binding j = s.binding j := by
  rw [State.raiseIf_frame]; rfl
@[simp] theorem State.raiseIf_setup (s : State) (b : Bool) (src : Source) (j : Nat) : (s.raiseIf b src).setup j = s.setup j := by
  rw [State.raiseIf_frame]; rfl
@[simp] theorem State.raiseIf_nextWrite (s : State) (b : Bool) (src : Source) : (s.raiseIf b src).nextWrite = s.nextWrite := by
  rw [State.raiseIf_frame]; rfl
@[simp] theorem State.raiseIf_oldest (s : State) (b : Bool) (src : Source) : (s.raiseIf b src).oldest = s.oldest := by
  rw [State.raiseIf_frame]; rfl
@[simp] theorem State.raiseIf_unack (s : State) (b : Bool) (src : Source) : (s.raiseIf b src).unack = s.unack := by
  rw [State.raiseIf_frame]; rfl
@[simp] theorem State.raiseIf_behind (s : State) (b : Bool) (src : Source) (j : Nat) : (s.raiseIf b src).behind j = s.behind j := by
  rw [State.raiseIf_frame]; rfl

@[simp] theorem State.raiseIf_false (s : State) (src : Source) : s.raiseIf false src = s := rfl
@[simp] theorem State.raiseIf_true (s : State) (src : Source) : s.raiseIf true src = s.raise src := rfl

/-- The flag of one source. -/
theorem sourceBit_getLsbD (m n : Nat) (h : m < 8) : (sourceBit m).getLsbD n = decide (n = m) := by
  interval_cases m <;> simp only [sourceBit] <;> (by_cases hn : n < 8) <;>
    first
    | (interval_cases n <;> decide)
    | (rw [BitVec.getLsbD_of_ge _ _ (by omega)]; simp; omega)

/-- Raising a source sets its flag and no other (R191). -/
theorem State.raise_flag (s : State) (src : Source) (n : Nat) :
    (s.raise src).attn.pending.getLsbD n = (s.attn.pending.getLsbD n || decide (n = src.number)) := by
  have h : src.number < 8 := by cases src <;> decide
  simp [sourceBit_getLsbD _ _ h]

/-- Raising a listed source, or none, only raises listed sources. -/
theorem onlyRaises_raiseIf (s : State) (b : Bool) (src : Source) (l : List Nat) (h : src.number ∈ l) :
    onlyRaises s (s.raiseIf b src) l := by
  intro n
  cases b
  · simp
  · rw [State.raiseIf_true, State.raise_flag]
    refine ⟨fun hn => by simp [hn], fun hn => ?_⟩
    have : n ≠ src.number := fun e => hn (e ▸ h)
    simp [this]

/-- One may raise after another. -/
theorem onlyRaises_trans {s t u : State} {l : List Nat} (h1 : onlyRaises s t l) (h2 : onlyRaises t u l) :
    onlyRaises s u l :=
  fun n => ⟨fun h => (h2 n).1 ((h1 n).1 h), fun h => ((h2 n).2 h).trans ((h1 n).2 h)⟩

/-- What raises only some sources raises only more of them. -/
theorem onlyRaises_mono {s t : State} {l m : List Nat} (h : onlyRaises s t l) (hm : ∀ n ∈ l, n ∈ m) : onlyRaises s t m :=
  fun n => ⟨(h n).1, fun hn => (h n).2 (fun hl => hn (hm n hl))⟩

/-- Equal pending flags: nothing was raised. -/
theorem onlyRaises_of_eq {s t : State} (l : List Nat) (h : t.attn.pending = s.attn.pending) : onlyRaises s t l := by
  intro n
  simp [h]

/-! ### Journal -/

/-- The attention JOURNAL_HIGH of an append (R181). -/
def appendHigh (s : State) : Bool := s.unack + 1 == Config.highMark && !s.journal.highHeld

/-- An append touches the ring, the write pointer, the Journal Unit and JOURNAL_HIGH alone. -/
theorem State.append_frame (s : State) (p : Nat) (b : EntryBody) :
    s.append p b = { s with journal := (s.append p b).journal, attn := (s.append p b).attn, store := (s.append p b).store } := by
  unfold State.append
  dsimp only
  generalize (s.unack + 1 == Config.highMark && !s.journal.highHeld) = h
  cases h <;> rfl

@[simp] theorem State.append_pfw (s : State) (p : Nat) (b : EntryBody) : (s.append p b).pfw = s.pfw := by
  rw [State.append_frame]
@[simp] theorem State.append_cap (s : State) (p : Nat) (b : EntryBody) : (s.append p b).cap = s.cap := by
  rw [State.append_frame]
@[simp] theorem State.append_time (s : State) (p : Nat) (b : EntryBody) : (s.append p b).time = s.time := by
  rw [State.append_frame]
@[simp] theorem State.append_lanes (s : State) (p : Nat) (b : EntryBody) : (s.append p b).lanes = s.lanes := by
  rw [State.append_frame]
@[simp] theorem State.append_officeLink (s : State) (p : Nat) (b : EntryBody) : (s.append p b).officeLink = s.officeLink := by
  rw [State.append_frame]
@[simp] theorem State.append_payLink (s : State) (p : Nat) (b : EntryBody) : (s.append p b).payLink = s.payLink := by
  rw [State.append_frame]
@[simp] theorem State.append_ledger (s : State) (p : Nat) (b : EntryBody) : (s.append p b).ledger = s.ledger := by
  rw [State.append_frame]
@[simp] theorem State.append_holds (s : State) (p : Nat) (b : EntryBody) : (s.append p b).holds = s.holds := by
  rw [State.append_frame]
@[simp] theorem State.append_expiryQ (s : State) (p : Nat) (b : EntryBody) : (s.append p b).expiryQ = s.expiryQ := by
  rw [State.append_frame]
@[simp] theorem State.append_waiting (s : State) (p : Nat) (b : EntryBody) : (s.append p b).waiting = s.waiting := by
  rw [State.append_frame]
@[simp] theorem State.append_recovery (s : State) (p : Nat) (b : EntryBody) : (s.append p b).recovery = s.recovery := by
  rw [State.append_frame]
@[simp] theorem State.append_settle (s : State) (p : Nat) (b : EntryBody) : (s.append p b).settle = s.settle := by
  rw [State.append_frame]
@[simp] theorem State.append_channels (s : State) (p : Nat) (b : EntryBody) : (s.append p b).channels = s.channels := by
  rw [State.append_frame]
@[simp] theorem State.append_plu (s : State) (p : Nat) (b : EntryBody) : (s.append p b).plu = s.plu := by
  rw [State.append_frame]
@[simp] theorem State.append_office (s : State) (p : Nat) (b : EntryBody) : (s.append p b).office = s.office := by
  rw [State.append_frame]
@[simp] theorem State.append_pending (s : State) (p : Nat) (b : EntryBody) : (s.append p b).pending = s.pending := by
  rw [State.append_frame]
@[simp] theorem State.append_warnings (s : State) (p : Nat) (b : EntryBody) : (s.append p b).warnings = s.warnings := by
  rw [State.append_frame]
@[simp] theorem State.append_lane (s : State) (p : Nat) (b : EntryBody) (j : Nat) : (s.append p b).lane j = s.lane j := by
  rw [State.append_frame]; rfl
@[simp] theorem State.append_holdSlot (s : State) (p : Nat) (b : EntryBody) (j : Nat) : (s.append p b).holdSlot j = s.holdSlot j := by
  rw [State.append_frame]; rfl
@[simp] theorem State.append_channel (s : State) (p : Nat) (b : EntryBody) (j : Nat) : (s.append p b).channel j = s.channel j := by
  rw [State.append_frame]; rfl
@[simp] theorem State.append_slot (s : State) (p : Nat) (b : EntryBody) (j : Nat) : (s.append p b).slot j = s.slot j := by
  rw [State.append_frame]; rfl

@[simp] theorem State.append_store_signature (s : State) (p : Nat) (b : EntryBody) :
    (s.append p b).store.signature = s.store.signature := by
  unfold State.append
  dsimp only
  generalize (s.unack + 1 == Config.highMark && !s.journal.highHeld) = h
  cases h <;> rfl
@[simp] theorem State.append_store_openFlag (s : State) (p : Nat) (b : EntryBody) :
    (s.append p b).store.openFlag = s.store.openFlag := by
  unfold State.append
  dsimp only
  generalize (s.unack + 1 == Config.highMark && !s.journal.highHeld) = h
  cases h <;> rfl
@[simp] theorem State.append_store_periodWord (s : State) (p : Nat) (b : EntryBody) :
    (s.append p b).store.periodWord = s.store.periodWord := by
  unfold State.append
  dsimp only
  generalize (s.unack + 1 == Config.highMark && !s.journal.highHeld) = h
  cases h <;> rfl
@[simp] theorem State.append_store_cards (s : State) (p : Nat) (b : EntryBody) :
    (s.append p b).store.cards = s.store.cards := by
  unfold State.append
  dsimp only
  generalize (s.unack + 1 == Config.highMark && !s.journal.highHeld) = h
  cases h <;> rfl
@[simp] theorem State.append_store_programs (s : State) (p : Nat) (b : EntryBody) :
    (s.append p b).store.programs = s.store.programs := by
  unfold State.append
  dsimp only
  generalize (s.unack + 1 == Config.highMark && !s.journal.highHeld) = h
  cases h <;> rfl
@[simp] theorem State.append_store_accept (s : State) (p : Nat) (b : EntryBody) :
    (s.append p b).store.accept = s.store.accept := by
  unfold State.append
  dsimp only
  generalize (s.unack + 1 == Config.highMark && !s.journal.highHeld) = h
  cases h <;> rfl
@[simp] theorem State.append_store_house (s : State) (p : Nat) (b : EntryBody) :
    (s.append p b).store.house = s.store.house := by
  unfold State.append
  dsimp only
  generalize (s.unack + 1 == Config.highMark && !s.journal.highHeld) = h
  cases h <;> rfl
@[simp] theorem State.append_store_bindings (s : State) (p : Nat) (b : EntryBody) :
    (s.append p b).store.bindings = s.store.bindings := by
  unfold State.append
  dsimp only
  generalize (s.unack + 1 == Config.highMark && !s.journal.highHeld) = h
  cases h <;> rfl
@[simp] theorem State.append_store_settings (s : State) (p : Nat) (b : EntryBody) :
    (s.append p b).store.settings = s.store.settings := by
  unfold State.append
  dsimp only
  generalize (s.unack + 1 == Config.highMark && !s.journal.highHeld) = h
  cases h <;> rfl
@[simp] theorem State.append_store_setups (s : State) (p : Nat) (b : EntryBody) :
    (s.append p b).store.setups = s.store.setups := by
  unfold State.append
  dsimp only
  generalize (s.unack + 1 == Config.highMark && !s.journal.highHeld) = h
  cases h <;> rfl
@[simp] theorem State.append_store_nextTag (s : State) (p : Nat) (b : EntryBody) :
    (s.append p b).store.nextTag = s.store.nextTag := by
  unfold State.append
  dsimp only
  generalize (s.unack + 1 == Config.highMark && !s.journal.highHeld) = h
  cases h <;> rfl
@[simp] theorem State.append_store_shops (s : State) (p : Nat) (b : EntryBody) :
    (s.append p b).store.shops = s.store.shops := by
  unfold State.append
  dsimp only
  generalize (s.unack + 1 == Config.highMark && !s.journal.highHeld) = h
  cases h <;> rfl
@[simp] theorem State.append_store_houseRec (s : State) (p : Nat) (b : EntryBody) :
    (s.append p b).store.houseRec = s.store.houseRec := by
  unfold State.append
  dsimp only
  generalize (s.unack + 1 == Config.highMark && !s.journal.highHeld) = h
  cases h <;> rfl
@[simp] theorem State.append_store_totals (s : State) (p : Nat) (b : EntryBody) :
    (s.append p b).store.totals = s.store.totals := by
  unfold State.append
  dsimp only
  generalize (s.unack + 1 == Config.highMark && !s.journal.highHeld) = h
  cases h <;> rfl
@[simp] theorem State.append_store_window (s : State) (p : Nat) (b : EntryBody) :
    (s.append p b).store.window = s.store.window := by
  unfold State.append
  dsimp only
  generalize (s.unack + 1 == Config.highMark && !s.journal.highHeld) = h
  cases h <;> rfl
@[simp] theorem State.append_store_ring (s : State) (p : Nat) (b : EntryBody) :
    (s.append p b).store.ring = ({ seq := s.store.nextToWrite, time := s.time, period := p, body := b } :: s.store.ring).take Config.ringMax := by
  unfold State.append
  dsimp only
  generalize (s.unack + 1 == Config.highMark && !s.journal.highHeld) = h
  cases h <;> rfl
@[simp] theorem State.append_store_nextToWrite (s : State) (p : Nat) (b : EntryBody) :
    (s.append p b).store.nextToWrite = s.store.nextToWrite + 1 := by
  unfold State.append
  dsimp only
  generalize (s.unack + 1 == Config.highMark && !s.journal.highHeld) = h
  cases h <;> rfl
@[simp] theorem State.append_store_oldestUnack (s : State) (p : Nat) (b : EntryBody) :
    (s.append p b).store.oldestUnack = s.store.oldestUnack := by
  unfold State.append
  dsimp only
  generalize (s.unack + 1 == Config.highMark && !s.journal.highHeld) = h
  cases h <;> rfl
@[simp] theorem State.append_journal_nextStream (s : State) (p : Nat) (b : EntryBody) :
    (s.append p b).journal.nextStream = s.journal.nextStream := by
  unfold State.append
  dsimp only
  generalize (s.unack + 1 == Config.highMark && !s.journal.highHeld) = h
  cases h <;> rfl
@[simp] theorem State.append_journal_fullHeld (s : State) (p : Nat) (b : EntryBody) :
    (s.append p b).journal.fullHeld = s.journal.fullHeld := by
  unfold State.append
  dsimp only
  generalize (s.unack + 1 == Config.highMark && !s.journal.highHeld) = h
  cases h <;> rfl
@[simp] theorem State.append_journal_streamOn (s : State) (p : Nat) (b : EntryBody) :
    (s.append p b).journal.streamOn = s.journal.streamOn := by
  unfold State.append
  dsimp only
  generalize (s.unack + 1 == Config.highMark && !s.journal.highHeld) = h
  cases h <;> rfl
@[simp] theorem State.append_journal_unit (s : State) (p : Nat) (b : EntryBody) :
    (s.append p b).journal.unit = s.journal.unit := by
  unfold State.append
  dsimp only
  generalize (s.unack + 1 == Config.highMark && !s.journal.highHeld) = h
  cases h <;> rfl
@[simp] theorem State.append_journal_interval (s : State) (p : Nat) (b : EntryBody) :
    (s.append p b).journal.interval = s.journal.interval := by
  unfold State.append
  dsimp only
  generalize (s.unack + 1 == Config.highMark && !s.journal.highHeld) = h
  cases h <;> rfl
@[simp] theorem State.append_journal_reserved (s : State) (p : Nat) (b : EntryBody) :
    (s.append p b).journal.reserved = s.journal.reserved - 1 := by
  unfold State.append
  dsimp only
  generalize (s.unack + 1 == Config.highMark && !s.journal.highHeld) = h
  cases h <;> rfl
@[simp] theorem State.append_card (s : State) (p : Nat) (b : EntryBody) (j : Nat) : (s.append p b).card j = s.card j := by
  unfold State.append
  dsimp only
  generalize (s.unack + 1 == Config.highMark && !s.journal.highHeld) = h
  cases h <;> rfl
@[simp] theorem State.append_shop (s : State) (p : Nat) (b : EntryBody) (j : Nat) : (s.append p b).shop j = s.shop j := by
  unfold State.append
  dsimp only
  generalize (s.unack + 1 == Config.highMark && !s.journal.highHeld) = h
  cases h <;> rfl
@[simp] theorem State.append_program (s : State) (p : Nat) (b : EntryBody) (j : Nat) : (s.append p b).program j = s.program j := by
  unfold State.append
  dsimp only
  generalize (s.unack + 1 == Config.highMark && !s.journal.highHeld) = h
  cases h <;> rfl
@[simp] theorem State.append_acceptRow (s : State) (p : Nat) (b : EntryBody) (j : Nat) : (s.append p b).acceptRow j = s.acceptRow j := by
  unfold State.append
  dsimp only
  generalize (s.unack + 1 == Config.highMark && !s.journal.highHeld) = h
  cases h <;> rfl
@[simp] theorem State.append_binding (s : State) (p : Nat) (b : EntryBody) (j : Nat) : (s.append p b).binding j = s.binding j := by
  unfold State.append
  dsimp only
  generalize (s.unack + 1 == Config.highMark && !s.journal.highHeld) = h
  cases h <;> rfl
@[simp] theorem State.append_setup (s : State) (p : Nat) (b : EntryBody) (j : Nat) : (s.append p b).setup j = s.setup j := by
  unfold State.append
  dsimp only
  generalize (s.unack + 1 == Config.highMark && !s.journal.highHeld) = h
  cases h <;> rfl
@[simp] theorem State.append_behind (s : State) (p : Nat) (b : EntryBody) (j : Nat) :
    (s.append p b).behind j = s.behind j := by
  unfold State.append
  dsimp only
  generalize (s.unack + 1 == Config.highMark && !s.journal.highHeld) = h
  cases h <;> rfl

/-- An append raises JOURNAL_HIGH at most (R181). -/
theorem State.append_raises (s : State) (p : Nat) (b : EntryBody) : onlyRaises s (s.append p b) [4, 5] := by
  unfold State.append
  dsimp only
  generalize (s.unack + 1 == Config.highMark && !s.journal.highHeld) = h
  cases h
  · exact onlyRaises_of_eq _ rfl
  · exact onlyRaises_trans (onlyRaises_of_eq _ rfl) (onlyRaises_raiseIf _ true .journalHigh _ (by decide))

/-- Reservations are granted exactly when they could be; a grant raises the reserved count by n, may hold and raise
JOURNAL_FULL, and touches nothing else (R180, R181). -/
theorem State.reserve_spec (s : State) (cls : ResClass) (n : Nat) :
    (s.canReserve cls n = false ∧ s.reserve cls n = none) ∨
    (s.canReserve cls n = true ∧ ∃ t, s.reserve cls n = some t ∧
      t = { s with journal.reserved := s.journal.reserved + n, journal.fullHeld := t.journal.fullHeld,
                   attn.pending := t.attn.pending } ∧
      onlyRaises s t [4, 5]) := by
  cases h : s.canReserve cls n
  · exact Or.inl ⟨rfl, by simp [State.reserve, h]⟩
  · refine Or.inr ⟨rfl, ?_⟩
    obtain ⟨b, hb⟩ : ∃ b, s.reserve cls n = some (State.raiseIf
        { s with journal.reserved := s.journal.reserved + n, journal.fullHeld := s.journal.fullHeld || b } b .journalFull) :=
      ⟨s.crossesFull n, by simp only [State.reserve, h, if_true]⟩
    refine ⟨_, hb, ?_, ?_⟩
    · cases b <;> rfl
    · cases b
      · exact onlyRaises_of_eq _ rfl
      · exact onlyRaises_trans (onlyRaises_of_eq _ rfl) (onlyRaises_raiseIf _ true .journalFull _ (by decide))

/-- A granted request raises the reserved count, and JOURNAL_FULL where it crosses its mark; nothing else (R180, R181). -/
theorem State.reserve_eq {s t : State} {cls : ResClass} {n : Nat} (h : s.reserve cls n = some t) :
    s.canReserve cls n = true ∧
    t = State.raiseIf
      { s with journal.reserved := s.journal.reserved + n, journal.fullHeld := s.journal.fullHeld || fullRaised s n }
      (fullRaised s n) .journalFull := by
  unfold State.reserve at h
  split at h
  · next hc => cases h; exact ⟨hc, rfl⟩
  · cases h

/-- The attention of an append is raised exactly when it takes the unacknowledged count to its mark (R181). -/
theorem appendHigh_eq (s : State) : appendHigh s = highRaised s 1 := by
  unfold appendHigh highRaised Config.highMark
  rw [Bool.eq_iff_iff]
  simp only [Bool.and_eq_true, beq_iff_eq, decide_eq_true_eq]
  constructor
  · rintro ⟨h, hh⟩; exact ⟨⟨by omega, by omega⟩, hh⟩
  · rintro ⟨⟨h1, h2⟩, hh⟩; exact ⟨by omega, hh⟩

/-- An append uses one reservation and adds one entry; a stream counting entries counts it, and JOURNAL_HIGH follows (R177, R180, R181,
R186). -/
theorem State.append_spec (s : State) (p : Nat) (b : EntryBody) :
    entryJoins { s with journal.reserved := s.journal.reserved - 1 } (s.append p b) p b ∧ marksFollow s (s.append p b) 0 1 := by
  have hf : fullRaised s 0 = false := by
    unfold fullRaised
    simp only [Nat.add_zero, Bool.and_eq_false_imp, Bool.and_eq_true, decide_eq_true_eq, and_imp]
    intro h1 h2; omega
  have hh : (s.append p b).journal.highHeld = (s.journal.highHeld || highRaised s 1) := by
    rw [← appendHigh_eq]; unfold State.append appendHigh; simp
  have hp : (s.append p b).attn.pending = (s.raiseIf (highRaised s 1) .journalHigh).attn.pending := by
    rw [← appendHigh_eq]; unfold State.append appendHigh State.raiseIf; dsimp only; split <;> rfl
  refine ⟨⟨?_, ?_, ?_, ?_, ?_, ?_, ?_, ?_, ?_⟩, ?_, ?_, hh, ?_⟩
  all_goals try (simp; done)
  · simp [State.append]
  · simp [hf]
  · rw [hp, hf, Bool.or_false]
    cases highRaised s 1 <;> simp [State.raiseIf, State.raise, sourceBit, Source.number]
  · rw [hp]
    cases highRaised s 1 <;> simp [State.raiseIf, State.raise, sourceBit, Source.number]

/-- A grant of n reservations, and then k appends, move the journal's attentions as their marks say (R181). -/
theorem marksFollow_grant {s t v : State} {cls : ResClass} {n k : Nat} (h : s.reserve cls n = some t) (hm : marksFollow t v 0 k) :
    marksFollow s v n k := by
  obtain ⟨-, ht⟩ := State.reserve_eq h
  have hu : t.unack = s.unack := by rw [ht]; simp [State.unack, State.nextWrite, State.oldest]
  have hr : highRaised t k = highRaised s k := by unfold highRaised; rw [hu, ht]; simp
  have hz : fullRaised t 0 = false := by
    unfold fullRaised
    simp only [Nat.add_zero, Bool.and_eq_false_imp, Bool.and_eq_true, decide_eq_true_eq, and_imp]
    intro h1 h2; omega
  have hf : t.journal.fullHeld = (s.journal.fullHeld || fullRaised s n) := by rw [ht]; simp
  have hh : t.journal.highHeld = s.journal.highHeld := by rw [ht]; simp
  have h4 : t.attn.pending.getLsbD 4 = (s.attn.pending.getLsbD 4 || fullRaised s n) := by
    rw [ht]; cases fullRaised s n <;> simp [State.raiseIf, State.raise, sourceBit, Source.number]
  have h5 : t.attn.pending.getLsbD 5 = s.attn.pending.getLsbD 5 := by
    rw [ht]; cases fullRaised s n <;> simp [State.raiseIf, State.raise, sourceBit, Source.number]
  obtain ⟨m1, m2, m3, m4⟩ := hm
  exact ⟨by rw [m1, hf, hz, Bool.or_false], by rw [m2, h4, hz, Bool.or_false], by rw [m3, hh, hr], by rw [m4, h5, hr]⟩

/-- A reservation followed by the append of one entry leaves exactly one entry more, the reserved count as it was, and the journal's
attentions as their marks say (R180, R181). -/
theorem oneEntry_append {s t : State} {cls : ResClass} (h : s.reserve cls 1 = some t) (p : Nat) (b : EntryBody) :
    oneEntry s (t.append p b) p b := by
  refine ⟨?_, marksFollow_grant h (t.append_spec p b).2⟩
  obtain ⟨-, ht⟩ := State.reserve_eq h
  have := (t.append_spec p b).1
  simp only [entryJoins, pointersPass] at this ⊢
  rw [ht] at this ⊢
  simpa using this

/-! ### Office Unit -/

/-- Handing an answer over touches the answer place, its readiness and the request in flight alone (R16). -/
theorem State.officeHandOver_frame (s : State) :
    s.officeHandOver = { s with officeLink := (s.officeHandOver).officeLink, office := (s.officeHandOver).office } := by
  unfold State.officeHandOver
  split <;> rfl

@[simp] theorem State.officeHandOver_pfw (s : State) : (s.officeHandOver).pfw = s.pfw := by
  rw [State.officeHandOver_frame]
@[simp] theorem State.officeHandOver_cap (s : State) : (s.officeHandOver).cap = s.cap := by
  rw [State.officeHandOver_frame]
@[simp] theorem State.officeHandOver_time (s : State) : (s.officeHandOver).time = s.time := by
  rw [State.officeHandOver_frame]
@[simp] theorem State.officeHandOver_lanes (s : State) : (s.officeHandOver).lanes = s.lanes := by
  rw [State.officeHandOver_frame]
@[simp] theorem State.officeHandOver_payLink (s : State) : (s.officeHandOver).payLink = s.payLink := by
  rw [State.officeHandOver_frame]
@[simp] theorem State.officeHandOver_ledger (s : State) : (s.officeHandOver).ledger = s.ledger := by
  rw [State.officeHandOver_frame]
@[simp] theorem State.officeHandOver_holds (s : State) : (s.officeHandOver).holds = s.holds := by
  rw [State.officeHandOver_frame]
@[simp] theorem State.officeHandOver_expiryQ (s : State) : (s.officeHandOver).expiryQ = s.expiryQ := by
  rw [State.officeHandOver_frame]
@[simp] theorem State.officeHandOver_waiting (s : State) : (s.officeHandOver).waiting = s.waiting := by
  rw [State.officeHandOver_frame]
@[simp] theorem State.officeHandOver_recovery (s : State) : (s.officeHandOver).recovery = s.recovery := by
  rw [State.officeHandOver_frame]
@[simp] theorem State.officeHandOver_settle (s : State) : (s.officeHandOver).settle = s.settle := by
  rw [State.officeHandOver_frame]
@[simp] theorem State.officeHandOver_channels (s : State) : (s.officeHandOver).channels = s.channels := by
  rw [State.officeHandOver_frame]
@[simp] theorem State.officeHandOver_plu (s : State) : (s.officeHandOver).plu = s.plu := by
  rw [State.officeHandOver_frame]
@[simp] theorem State.officeHandOver_journal (s : State) : (s.officeHandOver).journal = s.journal := by
  rw [State.officeHandOver_frame]
@[simp] theorem State.officeHandOver_attn (s : State) : (s.officeHandOver).attn = s.attn := by
  rw [State.officeHandOver_frame]
@[simp] theorem State.officeHandOver_store (s : State) : (s.officeHandOver).store = s.store := by
  rw [State.officeHandOver_frame]
@[simp] theorem State.officeHandOver_pending (s : State) : (s.officeHandOver).pending = s.pending := by
  rw [State.officeHandOver_frame]
@[simp] theorem State.officeHandOver_warnings (s : State) : (s.officeHandOver).warnings = s.warnings := by
  rw [State.officeHandOver_frame]
@[simp] theorem State.officeHandOver_lane (s : State) (j : Nat) : (s.officeHandOver).lane j = s.lane j := by
  rw [State.officeHandOver_frame]; rfl
@[simp] theorem State.officeHandOver_holdSlot (s : State) (j : Nat) : (s.officeHandOver).holdSlot j = s.holdSlot j := by
  rw [State.officeHandOver_frame]; rfl
@[simp] theorem State.officeHandOver_channel (s : State) (j : Nat) : (s.officeHandOver).channel j = s.channel j := by
  rw [State.officeHandOver_frame]; rfl
@[simp] theorem State.officeHandOver_slot (s : State) (j : Nat) : (s.officeHandOver).slot j = s.slot j := by
  rw [State.officeHandOver_frame]; rfl
@[simp] theorem State.officeHandOver_card (s : State) (j : Nat) : (s.officeHandOver).card j = s.card j := by
  rw [State.officeHandOver_frame]; rfl
@[simp] theorem State.officeHandOver_shop (s : State) (j : Nat) : (s.officeHandOver).shop j = s.shop j := by
  rw [State.officeHandOver_frame]; rfl
@[simp] theorem State.officeHandOver_program (s : State) (j : Nat) : (s.officeHandOver).program j = s.program j := by
  rw [State.officeHandOver_frame]; rfl
@[simp] theorem State.officeHandOver_acceptRow (s : State) (j : Nat) : (s.officeHandOver).acceptRow j = s.acceptRow j := by
  rw [State.officeHandOver_frame]; rfl
@[simp] theorem State.officeHandOver_binding (s : State) (j : Nat) : (s.officeHandOver).binding j = s.binding j := by
  rw [State.officeHandOver_frame]; rfl
@[simp] theorem State.officeHandOver_setup (s : State) (j : Nat) : (s.officeHandOver).setup j = s.setup j := by
  rw [State.officeHandOver_frame]; rfl
@[simp] theorem State.officeHandOver_nextWrite (s : State) : (s.officeHandOver).nextWrite = s.nextWrite := by
  rw [State.officeHandOver_frame]; rfl
@[simp] theorem State.officeHandOver_oldest (s : State) : (s.officeHandOver).oldest = s.oldest := by
  rw [State.officeHandOver_frame]; rfl
@[simp] theorem State.officeHandOver_unack (s : State) : (s.officeHandOver).unack = s.unack := by
  rw [State.officeHandOver_frame]; rfl
@[simp] theorem State.officeHandOver_behind (s : State) (j : Nat) : (s.officeHandOver).behind j = s.behind j := by
  rw [State.officeHandOver_frame]; rfl

/-- Taking a request touches the office queue and the request in flight alone (R16). -/
theorem State.officeTake_frame (s : State) :
    s.officeTake = { s with officeLink := (s.officeTake).officeLink, office := (s.officeTake).office } := by
  unfold State.officeTake
  split
  · split <;> rfl
  · rfl

@[simp] theorem State.officeTake_pfw (s : State) : (s.officeTake).pfw = s.pfw := by
  rw [State.officeTake_frame]
@[simp] theorem State.officeTake_cap (s : State) : (s.officeTake).cap = s.cap := by
  rw [State.officeTake_frame]
@[simp] theorem State.officeTake_time (s : State) : (s.officeTake).time = s.time := by
  rw [State.officeTake_frame]
@[simp] theorem State.officeTake_lanes (s : State) : (s.officeTake).lanes = s.lanes := by
  rw [State.officeTake_frame]
@[simp] theorem State.officeTake_payLink (s : State) : (s.officeTake).payLink = s.payLink := by
  rw [State.officeTake_frame]
@[simp] theorem State.officeTake_ledger (s : State) : (s.officeTake).ledger = s.ledger := by
  rw [State.officeTake_frame]
@[simp] theorem State.officeTake_holds (s : State) : (s.officeTake).holds = s.holds := by
  rw [State.officeTake_frame]
@[simp] theorem State.officeTake_expiryQ (s : State) : (s.officeTake).expiryQ = s.expiryQ := by
  rw [State.officeTake_frame]
@[simp] theorem State.officeTake_waiting (s : State) : (s.officeTake).waiting = s.waiting := by
  rw [State.officeTake_frame]
@[simp] theorem State.officeTake_recovery (s : State) : (s.officeTake).recovery = s.recovery := by
  rw [State.officeTake_frame]
@[simp] theorem State.officeTake_settle (s : State) : (s.officeTake).settle = s.settle := by
  rw [State.officeTake_frame]
@[simp] theorem State.officeTake_channels (s : State) : (s.officeTake).channels = s.channels := by
  rw [State.officeTake_frame]
@[simp] theorem State.officeTake_plu (s : State) : (s.officeTake).plu = s.plu := by
  rw [State.officeTake_frame]
@[simp] theorem State.officeTake_journal (s : State) : (s.officeTake).journal = s.journal := by
  rw [State.officeTake_frame]
@[simp] theorem State.officeTake_attn (s : State) : (s.officeTake).attn = s.attn := by
  rw [State.officeTake_frame]
@[simp] theorem State.officeTake_store (s : State) : (s.officeTake).store = s.store := by
  rw [State.officeTake_frame]
@[simp] theorem State.officeTake_pending (s : State) : (s.officeTake).pending = s.pending := by
  rw [State.officeTake_frame]
@[simp] theorem State.officeTake_warnings (s : State) : (s.officeTake).warnings = s.warnings := by
  rw [State.officeTake_frame]
@[simp] theorem State.officeTake_lane (s : State) (j : Nat) : (s.officeTake).lane j = s.lane j := by
  rw [State.officeTake_frame]; rfl
@[simp] theorem State.officeTake_holdSlot (s : State) (j : Nat) : (s.officeTake).holdSlot j = s.holdSlot j := by
  rw [State.officeTake_frame]; rfl
@[simp] theorem State.officeTake_channel (s : State) (j : Nat) : (s.officeTake).channel j = s.channel j := by
  rw [State.officeTake_frame]; rfl
@[simp] theorem State.officeTake_slot (s : State) (j : Nat) : (s.officeTake).slot j = s.slot j := by
  rw [State.officeTake_frame]; rfl
@[simp] theorem State.officeTake_card (s : State) (j : Nat) : (s.officeTake).card j = s.card j := by
  rw [State.officeTake_frame]; rfl
@[simp] theorem State.officeTake_shop (s : State) (j : Nat) : (s.officeTake).shop j = s.shop j := by
  rw [State.officeTake_frame]; rfl
@[simp] theorem State.officeTake_program (s : State) (j : Nat) : (s.officeTake).program j = s.program j := by
  rw [State.officeTake_frame]; rfl
@[simp] theorem State.officeTake_acceptRow (s : State) (j : Nat) : (s.officeTake).acceptRow j = s.acceptRow j := by
  rw [State.officeTake_frame]; rfl
@[simp] theorem State.officeTake_binding (s : State) (j : Nat) : (s.officeTake).binding j = s.binding j := by
  rw [State.officeTake_frame]; rfl
@[simp] theorem State.officeTake_setup (s : State) (j : Nat) : (s.officeTake).setup j = s.setup j := by
  rw [State.officeTake_frame]; rfl
@[simp] theorem State.officeTake_nextWrite (s : State) : (s.officeTake).nextWrite = s.nextWrite := by
  rw [State.officeTake_frame]; rfl
@[simp] theorem State.officeTake_oldest (s : State) : (s.officeTake).oldest = s.oldest := by
  rw [State.officeTake_frame]; rfl
@[simp] theorem State.officeTake_unack (s : State) : (s.officeTake).unack = s.unack := by
  rw [State.officeTake_frame]; rfl
@[simp] theorem State.officeTake_behind (s : State) (j : Nat) : (s.officeTake).behind j = s.behind j := by
  rw [State.officeTake_frame]; rfl

/-- The Office Unit moves requests and answers between its queue, its place and the request in flight, and nothing else (R16). -/
theorem State.officeSettle_frame (s : State) :
    s.officeSettle = { s with officeLink := (s.officeSettle).officeLink, office := (s.officeSettle).office } := by
  unfold State.officeSettle
  rw [State.officeTake_frame, State.officeHandOver_frame]

@[simp] theorem State.officeSettle_pfw (s : State) : (s.officeSettle).pfw = s.pfw := by
  rw [State.officeSettle_frame]
@[simp] theorem State.officeSettle_cap (s : State) : (s.officeSettle).cap = s.cap := by
  rw [State.officeSettle_frame]
@[simp] theorem State.officeSettle_time (s : State) : (s.officeSettle).time = s.time := by
  rw [State.officeSettle_frame]
@[simp] theorem State.officeSettle_lanes (s : State) : (s.officeSettle).lanes = s.lanes := by
  rw [State.officeSettle_frame]
@[simp] theorem State.officeSettle_payLink (s : State) : (s.officeSettle).payLink = s.payLink := by
  rw [State.officeSettle_frame]
@[simp] theorem State.officeSettle_ledger (s : State) : (s.officeSettle).ledger = s.ledger := by
  rw [State.officeSettle_frame]
@[simp] theorem State.officeSettle_holds (s : State) : (s.officeSettle).holds = s.holds := by
  rw [State.officeSettle_frame]
@[simp] theorem State.officeSettle_expiryQ (s : State) : (s.officeSettle).expiryQ = s.expiryQ := by
  rw [State.officeSettle_frame]
@[simp] theorem State.officeSettle_waiting (s : State) : (s.officeSettle).waiting = s.waiting := by
  rw [State.officeSettle_frame]
@[simp] theorem State.officeSettle_recovery (s : State) : (s.officeSettle).recovery = s.recovery := by
  rw [State.officeSettle_frame]
@[simp] theorem State.officeSettle_settle (s : State) : (s.officeSettle).settle = s.settle := by
  rw [State.officeSettle_frame]
@[simp] theorem State.officeSettle_channels (s : State) : (s.officeSettle).channels = s.channels := by
  rw [State.officeSettle_frame]
@[simp] theorem State.officeSettle_plu (s : State) : (s.officeSettle).plu = s.plu := by
  rw [State.officeSettle_frame]
@[simp] theorem State.officeSettle_journal (s : State) : (s.officeSettle).journal = s.journal := by
  rw [State.officeSettle_frame]
@[simp] theorem State.officeSettle_attn (s : State) : (s.officeSettle).attn = s.attn := by
  rw [State.officeSettle_frame]
@[simp] theorem State.officeSettle_store (s : State) : (s.officeSettle).store = s.store := by
  rw [State.officeSettle_frame]
@[simp] theorem State.officeSettle_pending (s : State) : (s.officeSettle).pending = s.pending := by
  rw [State.officeSettle_frame]
@[simp] theorem State.officeSettle_warnings (s : State) : (s.officeSettle).warnings = s.warnings := by
  rw [State.officeSettle_frame]
@[simp] theorem State.officeSettle_lane (s : State) (j : Nat) : (s.officeSettle).lane j = s.lane j := by
  rw [State.officeSettle_frame]; rfl
@[simp] theorem State.officeSettle_holdSlot (s : State) (j : Nat) : (s.officeSettle).holdSlot j = s.holdSlot j := by
  rw [State.officeSettle_frame]; rfl
@[simp] theorem State.officeSettle_channel (s : State) (j : Nat) : (s.officeSettle).channel j = s.channel j := by
  rw [State.officeSettle_frame]; rfl
@[simp] theorem State.officeSettle_slot (s : State) (j : Nat) : (s.officeSettle).slot j = s.slot j := by
  rw [State.officeSettle_frame]; rfl
@[simp] theorem State.officeSettle_card (s : State) (j : Nat) : (s.officeSettle).card j = s.card j := by
  rw [State.officeSettle_frame]; rfl
@[simp] theorem State.officeSettle_shop (s : State) (j : Nat) : (s.officeSettle).shop j = s.shop j := by
  rw [State.officeSettle_frame]; rfl
@[simp] theorem State.officeSettle_program (s : State) (j : Nat) : (s.officeSettle).program j = s.program j := by
  rw [State.officeSettle_frame]; rfl
@[simp] theorem State.officeSettle_acceptRow (s : State) (j : Nat) : (s.officeSettle).acceptRow j = s.acceptRow j := by
  rw [State.officeSettle_frame]; rfl
@[simp] theorem State.officeSettle_binding (s : State) (j : Nat) : (s.officeSettle).binding j = s.binding j := by
  rw [State.officeSettle_frame]; rfl
@[simp] theorem State.officeSettle_setup (s : State) (j : Nat) : (s.officeSettle).setup j = s.setup j := by
  rw [State.officeSettle_frame]; rfl
@[simp] theorem State.officeSettle_nextWrite (s : State) : (s.officeSettle).nextWrite = s.nextWrite := by
  rw [State.officeSettle_frame]; rfl
@[simp] theorem State.officeSettle_oldest (s : State) : (s.officeSettle).oldest = s.oldest := by
  rw [State.officeSettle_frame]; rfl
@[simp] theorem State.officeSettle_unack (s : State) : (s.officeSettle).unack = s.unack := by
  rw [State.officeSettle_frame]; rfl
@[simp] theorem State.officeSettle_behind (s : State) (j : Nat) : (s.officeSettle).behind j = s.behind j := by
  rw [State.officeSettle_frame]; rfl

/-- An answer touches the Office Unit and the office link alone. -/
theorem State.answerOffice_frame (s : State) (code : OfficeCode) (data : List Byte) :
    s.answerOffice code data = { s with officeLink := (s.answerOffice code data).officeLink, office := (s.answerOffice code data).office } := by
  unfold State.answerOffice
  split
  · exact State.officeSettle_frame _
  · rfl

@[simp] theorem State.answerOffice_pfw (s : State) (code : OfficeCode) (data : List Byte) : (s.answerOffice code data).pfw = s.pfw := by
  rw [State.answerOffice_frame]
@[simp] theorem State.answerOffice_cap (s : State) (code : OfficeCode) (data : List Byte) : (s.answerOffice code data).cap = s.cap := by
  rw [State.answerOffice_frame]
@[simp] theorem State.answerOffice_time (s : State) (code : OfficeCode) (data : List Byte) : (s.answerOffice code data).time = s.time := by
  rw [State.answerOffice_frame]
@[simp] theorem State.answerOffice_lanes (s : State) (code : OfficeCode) (data : List Byte) : (s.answerOffice code data).lanes = s.lanes := by
  rw [State.answerOffice_frame]
@[simp] theorem State.answerOffice_payLink (s : State) (code : OfficeCode) (data : List Byte) : (s.answerOffice code data).payLink = s.payLink := by
  rw [State.answerOffice_frame]
@[simp] theorem State.answerOffice_ledger (s : State) (code : OfficeCode) (data : List Byte) : (s.answerOffice code data).ledger = s.ledger := by
  rw [State.answerOffice_frame]
@[simp] theorem State.answerOffice_holds (s : State) (code : OfficeCode) (data : List Byte) : (s.answerOffice code data).holds = s.holds := by
  rw [State.answerOffice_frame]
@[simp] theorem State.answerOffice_expiryQ (s : State) (code : OfficeCode) (data : List Byte) : (s.answerOffice code data).expiryQ = s.expiryQ := by
  rw [State.answerOffice_frame]
@[simp] theorem State.answerOffice_waiting (s : State) (code : OfficeCode) (data : List Byte) : (s.answerOffice code data).waiting = s.waiting := by
  rw [State.answerOffice_frame]
@[simp] theorem State.answerOffice_recovery (s : State) (code : OfficeCode) (data : List Byte) : (s.answerOffice code data).recovery = s.recovery := by
  rw [State.answerOffice_frame]
@[simp] theorem State.answerOffice_settle (s : State) (code : OfficeCode) (data : List Byte) : (s.answerOffice code data).settle = s.settle := by
  rw [State.answerOffice_frame]
@[simp] theorem State.answerOffice_channels (s : State) (code : OfficeCode) (data : List Byte) : (s.answerOffice code data).channels = s.channels := by
  rw [State.answerOffice_frame]
@[simp] theorem State.answerOffice_plu (s : State) (code : OfficeCode) (data : List Byte) : (s.answerOffice code data).plu = s.plu := by
  rw [State.answerOffice_frame]
@[simp] theorem State.answerOffice_journal (s : State) (code : OfficeCode) (data : List Byte) : (s.answerOffice code data).journal = s.journal := by
  rw [State.answerOffice_frame]
@[simp] theorem State.answerOffice_attn (s : State) (code : OfficeCode) (data : List Byte) : (s.answerOffice code data).attn = s.attn := by
  rw [State.answerOffice_frame]
@[simp] theorem State.answerOffice_store (s : State) (code : OfficeCode) (data : List Byte) : (s.answerOffice code data).store = s.store := by
  rw [State.answerOffice_frame]
@[simp] theorem State.answerOffice_pending (s : State) (code : OfficeCode) (data : List Byte) : (s.answerOffice code data).pending = s.pending := by
  rw [State.answerOffice_frame]
@[simp] theorem State.answerOffice_warnings (s : State) (code : OfficeCode) (data : List Byte) : (s.answerOffice code data).warnings = s.warnings := by
  rw [State.answerOffice_frame]
@[simp] theorem State.answerOffice_lane (s : State) (code : OfficeCode) (data : List Byte) (j : Nat) : (s.answerOffice code data).lane j = s.lane j := by
  rw [State.answerOffice_frame]; rfl
@[simp] theorem State.answerOffice_holdSlot (s : State) (code : OfficeCode) (data : List Byte) (j : Nat) : (s.answerOffice code data).holdSlot j = s.holdSlot j := by
  rw [State.answerOffice_frame]; rfl
@[simp] theorem State.answerOffice_channel (s : State) (code : OfficeCode) (data : List Byte) (j : Nat) : (s.answerOffice code data).channel j = s.channel j := by
  rw [State.answerOffice_frame]; rfl
@[simp] theorem State.answerOffice_slot (s : State) (code : OfficeCode) (data : List Byte) (j : Nat) : (s.answerOffice code data).slot j = s.slot j := by
  rw [State.answerOffice_frame]; rfl
@[simp] theorem State.answerOffice_card (s : State) (code : OfficeCode) (data : List Byte) (j : Nat) : (s.answerOffice code data).card j = s.card j := by
  rw [State.answerOffice_frame]; rfl
@[simp] theorem State.answerOffice_shop (s : State) (code : OfficeCode) (data : List Byte) (j : Nat) : (s.answerOffice code data).shop j = s.shop j := by
  rw [State.answerOffice_frame]; rfl
@[simp] theorem State.answerOffice_program (s : State) (code : OfficeCode) (data : List Byte) (j : Nat) : (s.answerOffice code data).program j = s.program j := by
  rw [State.answerOffice_frame]; rfl
@[simp] theorem State.answerOffice_acceptRow (s : State) (code : OfficeCode) (data : List Byte) (j : Nat) : (s.answerOffice code data).acceptRow j = s.acceptRow j := by
  rw [State.answerOffice_frame]; rfl
@[simp] theorem State.answerOffice_binding (s : State) (code : OfficeCode) (data : List Byte) (j : Nat) : (s.answerOffice code data).binding j = s.binding j := by
  rw [State.answerOffice_frame]; rfl
@[simp] theorem State.answerOffice_setup (s : State) (code : OfficeCode) (data : List Byte) (j : Nat) : (s.answerOffice code data).setup j = s.setup j := by
  rw [State.answerOffice_frame]; rfl
@[simp] theorem State.answerOffice_nextWrite (s : State) (code : OfficeCode) (data : List Byte) : (s.answerOffice code data).nextWrite = s.nextWrite := by
  rw [State.answerOffice_frame]; rfl
@[simp] theorem State.answerOffice_oldest (s : State) (code : OfficeCode) (data : List Byte) : (s.answerOffice code data).oldest = s.oldest := by
  rw [State.answerOffice_frame]; rfl
@[simp] theorem State.answerOffice_unack (s : State) (code : OfficeCode) (data : List Byte) : (s.answerOffice code data).unack = s.unack := by
  rw [State.answerOffice_frame]; rfl
@[simp] theorem State.answerOffice_behind (s : State) (code : OfficeCode) (data : List Byte) (j : Nat) : (s.answerOffice code data).behind j = s.behind j := by
  rw [State.answerOffice_frame]; rfl

/-- DONE touches the Office Unit and the office link alone. -/
theorem State.done_frame (s : State) (data : List Byte) :
    s.done data = { s with officeLink := (s.done data).officeLink, office := (s.done data).office } := by
  exact State.answerOffice_frame s .done data

@[simp] theorem State.done_pfw (s : State) (data : List Byte) : (s.done data).pfw = s.pfw := by
  rw [State.done_frame]
@[simp] theorem State.done_cap (s : State) (data : List Byte) : (s.done data).cap = s.cap := by
  rw [State.done_frame]
@[simp] theorem State.done_time (s : State) (data : List Byte) : (s.done data).time = s.time := by
  rw [State.done_frame]
@[simp] theorem State.done_lanes (s : State) (data : List Byte) : (s.done data).lanes = s.lanes := by
  rw [State.done_frame]
@[simp] theorem State.done_payLink (s : State) (data : List Byte) : (s.done data).payLink = s.payLink := by
  rw [State.done_frame]
@[simp] theorem State.done_ledger (s : State) (data : List Byte) : (s.done data).ledger = s.ledger := by
  rw [State.done_frame]
@[simp] theorem State.done_holds (s : State) (data : List Byte) : (s.done data).holds = s.holds := by
  rw [State.done_frame]
@[simp] theorem State.done_expiryQ (s : State) (data : List Byte) : (s.done data).expiryQ = s.expiryQ := by
  rw [State.done_frame]
@[simp] theorem State.done_waiting (s : State) (data : List Byte) : (s.done data).waiting = s.waiting := by
  rw [State.done_frame]
@[simp] theorem State.done_recovery (s : State) (data : List Byte) : (s.done data).recovery = s.recovery := by
  rw [State.done_frame]
@[simp] theorem State.done_settle (s : State) (data : List Byte) : (s.done data).settle = s.settle := by
  rw [State.done_frame]
@[simp] theorem State.done_channels (s : State) (data : List Byte) : (s.done data).channels = s.channels := by
  rw [State.done_frame]
@[simp] theorem State.done_plu (s : State) (data : List Byte) : (s.done data).plu = s.plu := by
  rw [State.done_frame]
@[simp] theorem State.done_journal (s : State) (data : List Byte) : (s.done data).journal = s.journal := by
  rw [State.done_frame]
@[simp] theorem State.done_attn (s : State) (data : List Byte) : (s.done data).attn = s.attn := by
  rw [State.done_frame]
@[simp] theorem State.done_store (s : State) (data : List Byte) : (s.done data).store = s.store := by
  rw [State.done_frame]
@[simp] theorem State.done_pending (s : State) (data : List Byte) : (s.done data).pending = s.pending := by
  rw [State.done_frame]
@[simp] theorem State.done_warnings (s : State) (data : List Byte) : (s.done data).warnings = s.warnings := by
  rw [State.done_frame]
@[simp] theorem State.done_lane (s : State) (data : List Byte) (j : Nat) : (s.done data).lane j = s.lane j := by
  rw [State.done_frame]; rfl
@[simp] theorem State.done_holdSlot (s : State) (data : List Byte) (j : Nat) : (s.done data).holdSlot j = s.holdSlot j := by
  rw [State.done_frame]; rfl
@[simp] theorem State.done_channel (s : State) (data : List Byte) (j : Nat) : (s.done data).channel j = s.channel j := by
  rw [State.done_frame]; rfl
@[simp] theorem State.done_slot (s : State) (data : List Byte) (j : Nat) : (s.done data).slot j = s.slot j := by
  rw [State.done_frame]; rfl
@[simp] theorem State.done_card (s : State) (data : List Byte) (j : Nat) : (s.done data).card j = s.card j := by
  rw [State.done_frame]; rfl
@[simp] theorem State.done_shop (s : State) (data : List Byte) (j : Nat) : (s.done data).shop j = s.shop j := by
  rw [State.done_frame]; rfl
@[simp] theorem State.done_program (s : State) (data : List Byte) (j : Nat) : (s.done data).program j = s.program j := by
  rw [State.done_frame]; rfl
@[simp] theorem State.done_acceptRow (s : State) (data : List Byte) (j : Nat) : (s.done data).acceptRow j = s.acceptRow j := by
  rw [State.done_frame]; rfl
@[simp] theorem State.done_binding (s : State) (data : List Byte) (j : Nat) : (s.done data).binding j = s.binding j := by
  rw [State.done_frame]; rfl
@[simp] theorem State.done_setup (s : State) (data : List Byte) (j : Nat) : (s.done data).setup j = s.setup j := by
  rw [State.done_frame]; rfl
@[simp] theorem State.done_nextWrite (s : State) (data : List Byte) : (s.done data).nextWrite = s.nextWrite := by
  rw [State.done_frame]; rfl
@[simp] theorem State.done_oldest (s : State) (data : List Byte) : (s.done data).oldest = s.oldest := by
  rw [State.done_frame]; rfl
@[simp] theorem State.done_unack (s : State) (data : List Byte) : (s.done data).unack = s.unack := by
  rw [State.done_frame]; rfl
@[simp] theorem State.done_behind (s : State) (data : List Byte) (j : Nat) : (s.done data).behind j = s.behind j := by
  rw [State.done_frame]; rfl

/-- A refusal touches the Office Unit and the office link alone. -/
theorem State.refuse_frame (s : State) (code : OfficeCode) :
    s.refuse code = { s with officeLink := (s.refuse code).officeLink, office := (s.refuse code).office } := by
  exact State.answerOffice_frame s code []

@[simp] theorem State.refuse_pfw (s : State) (code : OfficeCode) : (s.refuse code).pfw = s.pfw := by
  rw [State.refuse_frame]
@[simp] theorem State.refuse_cap (s : State) (code : OfficeCode) : (s.refuse code).cap = s.cap := by
  rw [State.refuse_frame]
@[simp] theorem State.refuse_time (s : State) (code : OfficeCode) : (s.refuse code).time = s.time := by
  rw [State.refuse_frame]
@[simp] theorem State.refuse_lanes (s : State) (code : OfficeCode) : (s.refuse code).lanes = s.lanes := by
  rw [State.refuse_frame]
@[simp] theorem State.refuse_payLink (s : State) (code : OfficeCode) : (s.refuse code).payLink = s.payLink := by
  rw [State.refuse_frame]
@[simp] theorem State.refuse_ledger (s : State) (code : OfficeCode) : (s.refuse code).ledger = s.ledger := by
  rw [State.refuse_frame]
@[simp] theorem State.refuse_holds (s : State) (code : OfficeCode) : (s.refuse code).holds = s.holds := by
  rw [State.refuse_frame]
@[simp] theorem State.refuse_expiryQ (s : State) (code : OfficeCode) : (s.refuse code).expiryQ = s.expiryQ := by
  rw [State.refuse_frame]
@[simp] theorem State.refuse_waiting (s : State) (code : OfficeCode) : (s.refuse code).waiting = s.waiting := by
  rw [State.refuse_frame]
@[simp] theorem State.refuse_recovery (s : State) (code : OfficeCode) : (s.refuse code).recovery = s.recovery := by
  rw [State.refuse_frame]
@[simp] theorem State.refuse_settle (s : State) (code : OfficeCode) : (s.refuse code).settle = s.settle := by
  rw [State.refuse_frame]
@[simp] theorem State.refuse_channels (s : State) (code : OfficeCode) : (s.refuse code).channels = s.channels := by
  rw [State.refuse_frame]
@[simp] theorem State.refuse_plu (s : State) (code : OfficeCode) : (s.refuse code).plu = s.plu := by
  rw [State.refuse_frame]
@[simp] theorem State.refuse_journal (s : State) (code : OfficeCode) : (s.refuse code).journal = s.journal := by
  rw [State.refuse_frame]
@[simp] theorem State.refuse_attn (s : State) (code : OfficeCode) : (s.refuse code).attn = s.attn := by
  rw [State.refuse_frame]
@[simp] theorem State.refuse_store (s : State) (code : OfficeCode) : (s.refuse code).store = s.store := by
  rw [State.refuse_frame]
@[simp] theorem State.refuse_pending (s : State) (code : OfficeCode) : (s.refuse code).pending = s.pending := by
  rw [State.refuse_frame]
@[simp] theorem State.refuse_warnings (s : State) (code : OfficeCode) : (s.refuse code).warnings = s.warnings := by
  rw [State.refuse_frame]
@[simp] theorem State.refuse_lane (s : State) (code : OfficeCode) (j : Nat) : (s.refuse code).lane j = s.lane j := by
  rw [State.refuse_frame]; rfl
@[simp] theorem State.refuse_holdSlot (s : State) (code : OfficeCode) (j : Nat) : (s.refuse code).holdSlot j = s.holdSlot j := by
  rw [State.refuse_frame]; rfl
@[simp] theorem State.refuse_channel (s : State) (code : OfficeCode) (j : Nat) : (s.refuse code).channel j = s.channel j := by
  rw [State.refuse_frame]; rfl
@[simp] theorem State.refuse_slot (s : State) (code : OfficeCode) (j : Nat) : (s.refuse code).slot j = s.slot j := by
  rw [State.refuse_frame]; rfl
@[simp] theorem State.refuse_card (s : State) (code : OfficeCode) (j : Nat) : (s.refuse code).card j = s.card j := by
  rw [State.refuse_frame]; rfl
@[simp] theorem State.refuse_shop (s : State) (code : OfficeCode) (j : Nat) : (s.refuse code).shop j = s.shop j := by
  rw [State.refuse_frame]; rfl
@[simp] theorem State.refuse_program (s : State) (code : OfficeCode) (j : Nat) : (s.refuse code).program j = s.program j := by
  rw [State.refuse_frame]; rfl
@[simp] theorem State.refuse_acceptRow (s : State) (code : OfficeCode) (j : Nat) : (s.refuse code).acceptRow j = s.acceptRow j := by
  rw [State.refuse_frame]; rfl
@[simp] theorem State.refuse_binding (s : State) (code : OfficeCode) (j : Nat) : (s.refuse code).binding j = s.binding j := by
  rw [State.refuse_frame]; rfl
@[simp] theorem State.refuse_setup (s : State) (code : OfficeCode) (j : Nat) : (s.refuse code).setup j = s.setup j := by
  rw [State.refuse_frame]; rfl
@[simp] theorem State.refuse_nextWrite (s : State) (code : OfficeCode) : (s.refuse code).nextWrite = s.nextWrite := by
  rw [State.refuse_frame]; rfl
@[simp] theorem State.refuse_oldest (s : State) (code : OfficeCode) : (s.refuse code).oldest = s.oldest := by
  rw [State.refuse_frame]; rfl
@[simp] theorem State.refuse_unack (s : State) (code : OfficeCode) : (s.refuse code).unack = s.unack := by
  rw [State.refuse_frame]; rfl
@[simp] theorem State.refuse_behind (s : State) (code : OfficeCode) (j : Nat) : (s.refuse code).behind j = s.behind j := by
  rw [State.refuse_frame]; rfl

/-! ### Card Ledger -/

/-- Taking a lane head touches that lane and the rotation alone (R48). -/
theorem State.takeLane_frame (s : State) (l : Nat) :
    s.takeLane l = { s with lanes := (s.takeLane l).lanes, ledger := (s.takeLane l).ledger } := by
  rfl

@[simp] theorem State.takeLane_pfw (s : State) (l : Nat) : (s.takeLane l).pfw = s.pfw := by
  rw [State.takeLane_frame]
@[simp] theorem State.takeLane_cap (s : State) (l : Nat) : (s.takeLane l).cap = s.cap := by
  rw [State.takeLane_frame]
@[simp] theorem State.takeLane_time (s : State) (l : Nat) : (s.takeLane l).time = s.time := by
  rw [State.takeLane_frame]
@[simp] theorem State.takeLane_officeLink (s : State) (l : Nat) : (s.takeLane l).officeLink = s.officeLink := by
  rw [State.takeLane_frame]
@[simp] theorem State.takeLane_payLink (s : State) (l : Nat) : (s.takeLane l).payLink = s.payLink := by
  rw [State.takeLane_frame]
@[simp] theorem State.takeLane_holds (s : State) (l : Nat) : (s.takeLane l).holds = s.holds := by
  rw [State.takeLane_frame]
@[simp] theorem State.takeLane_expiryQ (s : State) (l : Nat) : (s.takeLane l).expiryQ = s.expiryQ := by
  rw [State.takeLane_frame]
@[simp] theorem State.takeLane_waiting (s : State) (l : Nat) : (s.takeLane l).waiting = s.waiting := by
  rw [State.takeLane_frame]
@[simp] theorem State.takeLane_recovery (s : State) (l : Nat) : (s.takeLane l).recovery = s.recovery := by
  rw [State.takeLane_frame]
@[simp] theorem State.takeLane_settle (s : State) (l : Nat) : (s.takeLane l).settle = s.settle := by
  rw [State.takeLane_frame]
@[simp] theorem State.takeLane_channels (s : State) (l : Nat) : (s.takeLane l).channels = s.channels := by
  rw [State.takeLane_frame]
@[simp] theorem State.takeLane_plu (s : State) (l : Nat) : (s.takeLane l).plu = s.plu := by
  rw [State.takeLane_frame]
@[simp] theorem State.takeLane_journal (s : State) (l : Nat) : (s.takeLane l).journal = s.journal := by
  rw [State.takeLane_frame]
@[simp] theorem State.takeLane_office (s : State) (l : Nat) : (s.takeLane l).office = s.office := by
  rw [State.takeLane_frame]
@[simp] theorem State.takeLane_attn (s : State) (l : Nat) : (s.takeLane l).attn = s.attn := by
  rw [State.takeLane_frame]
@[simp] theorem State.takeLane_store (s : State) (l : Nat) : (s.takeLane l).store = s.store := by
  rw [State.takeLane_frame]
@[simp] theorem State.takeLane_pending (s : State) (l : Nat) : (s.takeLane l).pending = s.pending := by
  rw [State.takeLane_frame]
@[simp] theorem State.takeLane_warnings (s : State) (l : Nat) : (s.takeLane l).warnings = s.warnings := by
  rw [State.takeLane_frame]
@[simp] theorem State.takeLane_holdSlot (s : State) (l : Nat) (j : Nat) : (s.takeLane l).holdSlot j = s.holdSlot j := by
  rw [State.takeLane_frame]; rfl
@[simp] theorem State.takeLane_channel (s : State) (l : Nat) (j : Nat) : (s.takeLane l).channel j = s.channel j := by
  rw [State.takeLane_frame]; rfl
@[simp] theorem State.takeLane_slot (s : State) (l : Nat) (j : Nat) : (s.takeLane l).slot j = s.slot j := by
  rw [State.takeLane_frame]; rfl
@[simp] theorem State.takeLane_card (s : State) (l : Nat) (j : Nat) : (s.takeLane l).card j = s.card j := by
  rw [State.takeLane_frame]; rfl
@[simp] theorem State.takeLane_shop (s : State) (l : Nat) (j : Nat) : (s.takeLane l).shop j = s.shop j := by
  rw [State.takeLane_frame]; rfl
@[simp] theorem State.takeLane_program (s : State) (l : Nat) (j : Nat) : (s.takeLane l).program j = s.program j := by
  rw [State.takeLane_frame]; rfl
@[simp] theorem State.takeLane_acceptRow (s : State) (l : Nat) (j : Nat) : (s.takeLane l).acceptRow j = s.acceptRow j := by
  rw [State.takeLane_frame]; rfl
@[simp] theorem State.takeLane_binding (s : State) (l : Nat) (j : Nat) : (s.takeLane l).binding j = s.binding j := by
  rw [State.takeLane_frame]; rfl
@[simp] theorem State.takeLane_setup (s : State) (l : Nat) (j : Nat) : (s.takeLane l).setup j = s.setup j := by
  rw [State.takeLane_frame]; rfl
@[simp] theorem State.takeLane_nextWrite (s : State) (l : Nat) : (s.takeLane l).nextWrite = s.nextWrite := by
  rw [State.takeLane_frame]; rfl
@[simp] theorem State.takeLane_oldest (s : State) (l : Nat) : (s.takeLane l).oldest = s.oldest := by
  rw [State.takeLane_frame]; rfl
@[simp] theorem State.takeLane_unack (s : State) (l : Nat) : (s.takeLane l).unack = s.unack := by
  rw [State.takeLane_frame]; rfl
@[simp] theorem State.takeLane_behind (s : State) (l : Nat) (j : Nat) : (s.takeLane l).behind j = s.behind j := by
  rw [State.takeLane_frame]; rfl

/-- Serving the office card queue touches the rotation alone (R48). -/
theorem State.takeOffice_frame (s : State) :
    s.takeOffice = { s with ledger := (s.takeOffice).ledger } := by
  rfl

@[simp] theorem State.takeOffice_pfw (s : State) : (s.takeOffice).pfw = s.pfw := by
  rw [State.takeOffice_frame]
@[simp] theorem State.takeOffice_cap (s : State) : (s.takeOffice).cap = s.cap := by
  rw [State.takeOffice_frame]
@[simp] theorem State.takeOffice_time (s : State) : (s.takeOffice).time = s.time := by
  rw [State.takeOffice_frame]
@[simp] theorem State.takeOffice_lanes (s : State) : (s.takeOffice).lanes = s.lanes := by
  rw [State.takeOffice_frame]
@[simp] theorem State.takeOffice_officeLink (s : State) : (s.takeOffice).officeLink = s.officeLink := by
  rw [State.takeOffice_frame]
@[simp] theorem State.takeOffice_payLink (s : State) : (s.takeOffice).payLink = s.payLink := by
  rw [State.takeOffice_frame]
@[simp] theorem State.takeOffice_holds (s : State) : (s.takeOffice).holds = s.holds := by
  rw [State.takeOffice_frame]
@[simp] theorem State.takeOffice_expiryQ (s : State) : (s.takeOffice).expiryQ = s.expiryQ := by
  rw [State.takeOffice_frame]
@[simp] theorem State.takeOffice_waiting (s : State) : (s.takeOffice).waiting = s.waiting := by
  rw [State.takeOffice_frame]
@[simp] theorem State.takeOffice_recovery (s : State) : (s.takeOffice).recovery = s.recovery := by
  rw [State.takeOffice_frame]
@[simp] theorem State.takeOffice_settle (s : State) : (s.takeOffice).settle = s.settle := by
  rw [State.takeOffice_frame]
@[simp] theorem State.takeOffice_channels (s : State) : (s.takeOffice).channels = s.channels := by
  rw [State.takeOffice_frame]
@[simp] theorem State.takeOffice_plu (s : State) : (s.takeOffice).plu = s.plu := by
  rw [State.takeOffice_frame]
@[simp] theorem State.takeOffice_journal (s : State) : (s.takeOffice).journal = s.journal := by
  rw [State.takeOffice_frame]
@[simp] theorem State.takeOffice_office (s : State) : (s.takeOffice).office = s.office := by
  rw [State.takeOffice_frame]
@[simp] theorem State.takeOffice_attn (s : State) : (s.takeOffice).attn = s.attn := by
  rw [State.takeOffice_frame]
@[simp] theorem State.takeOffice_store (s : State) : (s.takeOffice).store = s.store := by
  rw [State.takeOffice_frame]
@[simp] theorem State.takeOffice_pending (s : State) : (s.takeOffice).pending = s.pending := by
  rw [State.takeOffice_frame]
@[simp] theorem State.takeOffice_warnings (s : State) : (s.takeOffice).warnings = s.warnings := by
  rw [State.takeOffice_frame]
@[simp] theorem State.takeOffice_lane (s : State) (j : Nat) : (s.takeOffice).lane j = s.lane j := by
  rw [State.takeOffice_frame]; rfl
@[simp] theorem State.takeOffice_holdSlot (s : State) (j : Nat) : (s.takeOffice).holdSlot j = s.holdSlot j := by
  rw [State.takeOffice_frame]; rfl
@[simp] theorem State.takeOffice_channel (s : State) (j : Nat) : (s.takeOffice).channel j = s.channel j := by
  rw [State.takeOffice_frame]; rfl
@[simp] theorem State.takeOffice_slot (s : State) (j : Nat) : (s.takeOffice).slot j = s.slot j := by
  rw [State.takeOffice_frame]; rfl
@[simp] theorem State.takeOffice_card (s : State) (j : Nat) : (s.takeOffice).card j = s.card j := by
  rw [State.takeOffice_frame]; rfl
@[simp] theorem State.takeOffice_shop (s : State) (j : Nat) : (s.takeOffice).shop j = s.shop j := by
  rw [State.takeOffice_frame]; rfl
@[simp] theorem State.takeOffice_program (s : State) (j : Nat) : (s.takeOffice).program j = s.program j := by
  rw [State.takeOffice_frame]; rfl
@[simp] theorem State.takeOffice_acceptRow (s : State) (j : Nat) : (s.takeOffice).acceptRow j = s.acceptRow j := by
  rw [State.takeOffice_frame]; rfl
@[simp] theorem State.takeOffice_binding (s : State) (j : Nat) : (s.takeOffice).binding j = s.binding j := by
  rw [State.takeOffice_frame]; rfl
@[simp] theorem State.takeOffice_setup (s : State) (j : Nat) : (s.takeOffice).setup j = s.setup j := by
  rw [State.takeOffice_frame]; rfl
@[simp] theorem State.takeOffice_nextWrite (s : State) : (s.takeOffice).nextWrite = s.nextWrite := by
  rw [State.takeOffice_frame]; rfl
@[simp] theorem State.takeOffice_oldest (s : State) : (s.takeOffice).oldest = s.oldest := by
  rw [State.takeOffice_frame]; rfl
@[simp] theorem State.takeOffice_unack (s : State) : (s.takeOffice).unack = s.unack := by
  rw [State.takeOffice_frame]; rfl
@[simp] theorem State.takeOffice_behind (s : State) (j : Nat) : (s.takeOffice).behind j = s.behind j := by
  rw [State.takeOffice_frame]; rfl

/-- Handing over an answer touches the lane alone (R11). -/
theorem State.handOver_frame (s : State) (l : Nat) (a : LaneAnswer) :
    s.handOver l a = { s with lanes := (s.handOver l a).lanes } := by
  unfold State.handOver
  dsimp only
  split <;> rfl

@[simp] theorem State.handOver_pfw (s : State) (l : Nat) (a : LaneAnswer) : (s.handOver l a).pfw = s.pfw := by
  rw [State.handOver_frame]
@[simp] theorem State.handOver_cap (s : State) (l : Nat) (a : LaneAnswer) : (s.handOver l a).cap = s.cap := by
  rw [State.handOver_frame]
@[simp] theorem State.handOver_time (s : State) (l : Nat) (a : LaneAnswer) : (s.handOver l a).time = s.time := by
  rw [State.handOver_frame]
@[simp] theorem State.handOver_officeLink (s : State) (l : Nat) (a : LaneAnswer) : (s.handOver l a).officeLink = s.officeLink := by
  rw [State.handOver_frame]
@[simp] theorem State.handOver_payLink (s : State) (l : Nat) (a : LaneAnswer) : (s.handOver l a).payLink = s.payLink := by
  rw [State.handOver_frame]
@[simp] theorem State.handOver_ledger (s : State) (l : Nat) (a : LaneAnswer) : (s.handOver l a).ledger = s.ledger := by
  rw [State.handOver_frame]
@[simp] theorem State.handOver_holds (s : State) (l : Nat) (a : LaneAnswer) : (s.handOver l a).holds = s.holds := by
  rw [State.handOver_frame]
@[simp] theorem State.handOver_expiryQ (s : State) (l : Nat) (a : LaneAnswer) : (s.handOver l a).expiryQ = s.expiryQ := by
  rw [State.handOver_frame]
@[simp] theorem State.handOver_waiting (s : State) (l : Nat) (a : LaneAnswer) : (s.handOver l a).waiting = s.waiting := by
  rw [State.handOver_frame]
@[simp] theorem State.handOver_recovery (s : State) (l : Nat) (a : LaneAnswer) : (s.handOver l a).recovery = s.recovery := by
  rw [State.handOver_frame]
@[simp] theorem State.handOver_settle (s : State) (l : Nat) (a : LaneAnswer) : (s.handOver l a).settle = s.settle := by
  rw [State.handOver_frame]
@[simp] theorem State.handOver_channels (s : State) (l : Nat) (a : LaneAnswer) : (s.handOver l a).channels = s.channels := by
  rw [State.handOver_frame]
@[simp] theorem State.handOver_plu (s : State) (l : Nat) (a : LaneAnswer) : (s.handOver l a).plu = s.plu := by
  rw [State.handOver_frame]
@[simp] theorem State.handOver_journal (s : State) (l : Nat) (a : LaneAnswer) : (s.handOver l a).journal = s.journal := by
  rw [State.handOver_frame]
@[simp] theorem State.handOver_office (s : State) (l : Nat) (a : LaneAnswer) : (s.handOver l a).office = s.office := by
  rw [State.handOver_frame]
@[simp] theorem State.handOver_attn (s : State) (l : Nat) (a : LaneAnswer) : (s.handOver l a).attn = s.attn := by
  rw [State.handOver_frame]
@[simp] theorem State.handOver_store (s : State) (l : Nat) (a : LaneAnswer) : (s.handOver l a).store = s.store := by
  rw [State.handOver_frame]
@[simp] theorem State.handOver_pending (s : State) (l : Nat) (a : LaneAnswer) : (s.handOver l a).pending = s.pending := by
  rw [State.handOver_frame]
@[simp] theorem State.handOver_warnings (s : State) (l : Nat) (a : LaneAnswer) : (s.handOver l a).warnings = s.warnings := by
  rw [State.handOver_frame]
@[simp] theorem State.handOver_holdSlot (s : State) (l : Nat) (a : LaneAnswer) (j : Nat) : (s.handOver l a).holdSlot j = s.holdSlot j := by
  rw [State.handOver_frame]; rfl
@[simp] theorem State.handOver_channel (s : State) (l : Nat) (a : LaneAnswer) (j : Nat) : (s.handOver l a).channel j = s.channel j := by
  rw [State.handOver_frame]; rfl
@[simp] theorem State.handOver_slot (s : State) (l : Nat) (a : LaneAnswer) (j : Nat) : (s.handOver l a).slot j = s.slot j := by
  rw [State.handOver_frame]; rfl
@[simp] theorem State.handOver_card (s : State) (l : Nat) (a : LaneAnswer) (j : Nat) : (s.handOver l a).card j = s.card j := by
  rw [State.handOver_frame]; rfl
@[simp] theorem State.handOver_shop (s : State) (l : Nat) (a : LaneAnswer) (j : Nat) : (s.handOver l a).shop j = s.shop j := by
  rw [State.handOver_frame]; rfl
@[simp] theorem State.handOver_program (s : State) (l : Nat) (a : LaneAnswer) (j : Nat) : (s.handOver l a).program j = s.program j := by
  rw [State.handOver_frame]; rfl
@[simp] theorem State.handOver_acceptRow (s : State) (l : Nat) (a : LaneAnswer) (j : Nat) : (s.handOver l a).acceptRow j = s.acceptRow j := by
  rw [State.handOver_frame]; rfl
@[simp] theorem State.handOver_binding (s : State) (l : Nat) (a : LaneAnswer) (j : Nat) : (s.handOver l a).binding j = s.binding j := by
  rw [State.handOver_frame]; rfl
@[simp] theorem State.handOver_setup (s : State) (l : Nat) (a : LaneAnswer) (j : Nat) : (s.handOver l a).setup j = s.setup j := by
  rw [State.handOver_frame]; rfl
@[simp] theorem State.handOver_nextWrite (s : State) (l : Nat) (a : LaneAnswer) : (s.handOver l a).nextWrite = s.nextWrite := by
  rw [State.handOver_frame]; rfl
@[simp] theorem State.handOver_oldest (s : State) (l : Nat) (a : LaneAnswer) : (s.handOver l a).oldest = s.oldest := by
  rw [State.handOver_frame]; rfl
@[simp] theorem State.handOver_unack (s : State) (l : Nat) (a : LaneAnswer) : (s.handOver l a).unack = s.unack := by
  rw [State.handOver_frame]; rfl
@[simp] theorem State.handOver_behind (s : State) (l : Nat) (a : LaneAnswer) (j : Nat) : (s.handOver l a).behind j = s.behind j := by
  rw [State.handOver_frame]; rfl

/-- A record fault touches the fault list, its overflow flag and RECORD_FAULT alone (R52, R53). -/
theorem State.noteFault_frame (s : State) (serial : Nat) :
    s.noteFault serial = { s with ledger := (s.noteFault serial).ledger, attn := (s.noteFault serial).attn } := by
  unfold State.noteFault
  split
  · rfl
  · split <;> rfl

@[simp] theorem State.noteFault_pfw (s : State) (serial : Nat) : (s.noteFault serial).pfw = s.pfw := by
  rw [State.noteFault_frame]
@[simp] theorem State.noteFault_cap (s : State) (serial : Nat) : (s.noteFault serial).cap = s.cap := by
  rw [State.noteFault_frame]
@[simp] theorem State.noteFault_time (s : State) (serial : Nat) : (s.noteFault serial).time = s.time := by
  rw [State.noteFault_frame]
@[simp] theorem State.noteFault_lanes (s : State) (serial : Nat) : (s.noteFault serial).lanes = s.lanes := by
  rw [State.noteFault_frame]
@[simp] theorem State.noteFault_officeLink (s : State) (serial : Nat) : (s.noteFault serial).officeLink = s.officeLink := by
  rw [State.noteFault_frame]
@[simp] theorem State.noteFault_payLink (s : State) (serial : Nat) : (s.noteFault serial).payLink = s.payLink := by
  rw [State.noteFault_frame]
@[simp] theorem State.noteFault_holds (s : State) (serial : Nat) : (s.noteFault serial).holds = s.holds := by
  rw [State.noteFault_frame]
@[simp] theorem State.noteFault_expiryQ (s : State) (serial : Nat) : (s.noteFault serial).expiryQ = s.expiryQ := by
  rw [State.noteFault_frame]
@[simp] theorem State.noteFault_waiting (s : State) (serial : Nat) : (s.noteFault serial).waiting = s.waiting := by
  rw [State.noteFault_frame]
@[simp] theorem State.noteFault_recovery (s : State) (serial : Nat) : (s.noteFault serial).recovery = s.recovery := by
  rw [State.noteFault_frame]
@[simp] theorem State.noteFault_settle (s : State) (serial : Nat) : (s.noteFault serial).settle = s.settle := by
  rw [State.noteFault_frame]
@[simp] theorem State.noteFault_channels (s : State) (serial : Nat) : (s.noteFault serial).channels = s.channels := by
  rw [State.noteFault_frame]
@[simp] theorem State.noteFault_plu (s : State) (serial : Nat) : (s.noteFault serial).plu = s.plu := by
  rw [State.noteFault_frame]
@[simp] theorem State.noteFault_journal (s : State) (serial : Nat) : (s.noteFault serial).journal = s.journal := by
  rw [State.noteFault_frame]
@[simp] theorem State.noteFault_office (s : State) (serial : Nat) : (s.noteFault serial).office = s.office := by
  rw [State.noteFault_frame]
@[simp] theorem State.noteFault_store (s : State) (serial : Nat) : (s.noteFault serial).store = s.store := by
  rw [State.noteFault_frame]
@[simp] theorem State.noteFault_pending (s : State) (serial : Nat) : (s.noteFault serial).pending = s.pending := by
  rw [State.noteFault_frame]
@[simp] theorem State.noteFault_warnings (s : State) (serial : Nat) : (s.noteFault serial).warnings = s.warnings := by
  rw [State.noteFault_frame]
@[simp] theorem State.noteFault_lane (s : State) (serial : Nat) (j : Nat) : (s.noteFault serial).lane j = s.lane j := by
  rw [State.noteFault_frame]; rfl
@[simp] theorem State.noteFault_holdSlot (s : State) (serial : Nat) (j : Nat) : (s.noteFault serial).holdSlot j = s.holdSlot j := by
  rw [State.noteFault_frame]; rfl
@[simp] theorem State.noteFault_channel (s : State) (serial : Nat) (j : Nat) : (s.noteFault serial).channel j = s.channel j := by
  rw [State.noteFault_frame]; rfl
@[simp] theorem State.noteFault_slot (s : State) (serial : Nat) (j : Nat) : (s.noteFault serial).slot j = s.slot j := by
  rw [State.noteFault_frame]; rfl
@[simp] theorem State.noteFault_card (s : State) (serial : Nat) (j : Nat) : (s.noteFault serial).card j = s.card j := by
  rw [State.noteFault_frame]; rfl
@[simp] theorem State.noteFault_shop (s : State) (serial : Nat) (j : Nat) : (s.noteFault serial).shop j = s.shop j := by
  rw [State.noteFault_frame]; rfl
@[simp] theorem State.noteFault_program (s : State) (serial : Nat) (j : Nat) : (s.noteFault serial).program j = s.program j := by
  rw [State.noteFault_frame]; rfl
@[simp] theorem State.noteFault_acceptRow (s : State) (serial : Nat) (j : Nat) : (s.noteFault serial).acceptRow j = s.acceptRow j := by
  rw [State.noteFault_frame]; rfl
@[simp] theorem State.noteFault_binding (s : State) (serial : Nat) (j : Nat) : (s.noteFault serial).binding j = s.binding j := by
  rw [State.noteFault_frame]; rfl
@[simp] theorem State.noteFault_setup (s : State) (serial : Nat) (j : Nat) : (s.noteFault serial).setup j = s.setup j := by
  rw [State.noteFault_frame]; rfl
@[simp] theorem State.noteFault_nextWrite (s : State) (serial : Nat) : (s.noteFault serial).nextWrite = s.nextWrite := by
  rw [State.noteFault_frame]; rfl
@[simp] theorem State.noteFault_oldest (s : State) (serial : Nat) : (s.noteFault serial).oldest = s.oldest := by
  rw [State.noteFault_frame]; rfl
@[simp] theorem State.noteFault_unack (s : State) (serial : Nat) : (s.noteFault serial).unack = s.unack := by
  rw [State.noteFault_frame]; rfl
@[simp] theorem State.noteFault_behind (s : State) (serial : Nat) (j : Nat) : (s.noteFault serial).behind j = s.behind j := by
  rw [State.noteFault_frame]; rfl

/-- Writing a card record touches the store alone. -/
theorem State.writeCard_frame (s : State) (serial : Nat) (r : CardRecord) :
    s.writeCard serial r = { s with store := (s.writeCard serial r).store } := by
  rfl

@[simp] theorem State.writeCard_pfw (s : State) (serial : Nat) (r : CardRecord) : (s.writeCard serial r).pfw = s.pfw := by
  rw [State.writeCard_frame]
@[simp] theorem State.writeCard_cap (s : State) (serial : Nat) (r : CardRecord) : (s.writeCard serial r).cap = s.cap := by
  rw [State.writeCard_frame]
@[simp] theorem State.writeCard_time (s : State) (serial : Nat) (r : CardRecord) : (s.writeCard serial r).time = s.time := by
  rw [State.writeCard_frame]
@[simp] theorem State.writeCard_lanes (s : State) (serial : Nat) (r : CardRecord) : (s.writeCard serial r).lanes = s.lanes := by
  rw [State.writeCard_frame]
@[simp] theorem State.writeCard_officeLink (s : State) (serial : Nat) (r : CardRecord) : (s.writeCard serial r).officeLink = s.officeLink := by
  rw [State.writeCard_frame]
@[simp] theorem State.writeCard_payLink (s : State) (serial : Nat) (r : CardRecord) : (s.writeCard serial r).payLink = s.payLink := by
  rw [State.writeCard_frame]
@[simp] theorem State.writeCard_ledger (s : State) (serial : Nat) (r : CardRecord) : (s.writeCard serial r).ledger = s.ledger := by
  rw [State.writeCard_frame]
@[simp] theorem State.writeCard_holds (s : State) (serial : Nat) (r : CardRecord) : (s.writeCard serial r).holds = s.holds := by
  rw [State.writeCard_frame]
@[simp] theorem State.writeCard_expiryQ (s : State) (serial : Nat) (r : CardRecord) : (s.writeCard serial r).expiryQ = s.expiryQ := by
  rw [State.writeCard_frame]
@[simp] theorem State.writeCard_waiting (s : State) (serial : Nat) (r : CardRecord) : (s.writeCard serial r).waiting = s.waiting := by
  rw [State.writeCard_frame]
@[simp] theorem State.writeCard_recovery (s : State) (serial : Nat) (r : CardRecord) : (s.writeCard serial r).recovery = s.recovery := by
  rw [State.writeCard_frame]
@[simp] theorem State.writeCard_settle (s : State) (serial : Nat) (r : CardRecord) : (s.writeCard serial r).settle = s.settle := by
  rw [State.writeCard_frame]
@[simp] theorem State.writeCard_channels (s : State) (serial : Nat) (r : CardRecord) : (s.writeCard serial r).channels = s.channels := by
  rw [State.writeCard_frame]
@[simp] theorem State.writeCard_plu (s : State) (serial : Nat) (r : CardRecord) : (s.writeCard serial r).plu = s.plu := by
  rw [State.writeCard_frame]
@[simp] theorem State.writeCard_journal (s : State) (serial : Nat) (r : CardRecord) : (s.writeCard serial r).journal = s.journal := by
  rw [State.writeCard_frame]
@[simp] theorem State.writeCard_office (s : State) (serial : Nat) (r : CardRecord) : (s.writeCard serial r).office = s.office := by
  rw [State.writeCard_frame]
@[simp] theorem State.writeCard_attn (s : State) (serial : Nat) (r : CardRecord) : (s.writeCard serial r).attn = s.attn := by
  rw [State.writeCard_frame]
@[simp] theorem State.writeCard_pending (s : State) (serial : Nat) (r : CardRecord) : (s.writeCard serial r).pending = s.pending := by
  rw [State.writeCard_frame]
@[simp] theorem State.writeCard_warnings (s : State) (serial : Nat) (r : CardRecord) : (s.writeCard serial r).warnings = s.warnings := by
  rw [State.writeCard_frame]
@[simp] theorem State.writeCard_lane (s : State) (serial : Nat) (r : CardRecord) (j : Nat) : (s.writeCard serial r).lane j = s.lane j := by
  rw [State.writeCard_frame]; rfl
@[simp] theorem State.writeCard_holdSlot (s : State) (serial : Nat) (r : CardRecord) (j : Nat) : (s.writeCard serial r).holdSlot j = s.holdSlot j := by
  rw [State.writeCard_frame]; rfl
@[simp] theorem State.writeCard_channel (s : State) (serial : Nat) (r : CardRecord) (j : Nat) : (s.writeCard serial r).channel j = s.channel j := by
  rw [State.writeCard_frame]; rfl
@[simp] theorem State.writeCard_slot (s : State) (serial : Nat) (r : CardRecord) (j : Nat) : (s.writeCard serial r).slot j = s.slot j := by
  rw [State.writeCard_frame]; rfl

/-- Noting a piece of work touches the sweep wait count alone (R137). -/
theorem State.noteWork_frame (s : State) :
    s.noteWork = { s with settle := (s.noteWork).settle } := by
  unfold State.noteWork
  split <;> rfl

@[simp] theorem State.noteWork_pfw (s : State) : (s.noteWork).pfw = s.pfw := by
  rw [State.noteWork_frame]
@[simp] theorem State.noteWork_cap (s : State) : (s.noteWork).cap = s.cap := by
  rw [State.noteWork_frame]
@[simp] theorem State.noteWork_time (s : State) : (s.noteWork).time = s.time := by
  rw [State.noteWork_frame]
@[simp] theorem State.noteWork_lanes (s : State) : (s.noteWork).lanes = s.lanes := by
  rw [State.noteWork_frame]
@[simp] theorem State.noteWork_officeLink (s : State) : (s.noteWork).officeLink = s.officeLink := by
  rw [State.noteWork_frame]
@[simp] theorem State.noteWork_payLink (s : State) : (s.noteWork).payLink = s.payLink := by
  rw [State.noteWork_frame]
@[simp] theorem State.noteWork_ledger (s : State) : (s.noteWork).ledger = s.ledger := by
  rw [State.noteWork_frame]
@[simp] theorem State.noteWork_holds (s : State) : (s.noteWork).holds = s.holds := by
  rw [State.noteWork_frame]
@[simp] theorem State.noteWork_expiryQ (s : State) : (s.noteWork).expiryQ = s.expiryQ := by
  rw [State.noteWork_frame]
@[simp] theorem State.noteWork_waiting (s : State) : (s.noteWork).waiting = s.waiting := by
  rw [State.noteWork_frame]
@[simp] theorem State.noteWork_recovery (s : State) : (s.noteWork).recovery = s.recovery := by
  rw [State.noteWork_frame]
@[simp] theorem State.noteWork_channels (s : State) : (s.noteWork).channels = s.channels := by
  rw [State.noteWork_frame]
@[simp] theorem State.noteWork_plu (s : State) : (s.noteWork).plu = s.plu := by
  rw [State.noteWork_frame]
@[simp] theorem State.noteWork_journal (s : State) : (s.noteWork).journal = s.journal := by
  rw [State.noteWork_frame]
@[simp] theorem State.noteWork_office (s : State) : (s.noteWork).office = s.office := by
  rw [State.noteWork_frame]
@[simp] theorem State.noteWork_attn (s : State) : (s.noteWork).attn = s.attn := by
  rw [State.noteWork_frame]
@[simp] theorem State.noteWork_store (s : State) : (s.noteWork).store = s.store := by
  rw [State.noteWork_frame]
@[simp] theorem State.noteWork_pending (s : State) : (s.noteWork).pending = s.pending := by
  rw [State.noteWork_frame]
@[simp] theorem State.noteWork_warnings (s : State) : (s.noteWork).warnings = s.warnings := by
  rw [State.noteWork_frame]
@[simp] theorem State.noteWork_lane (s : State) (j : Nat) : (s.noteWork).lane j = s.lane j := by
  rw [State.noteWork_frame]; rfl
@[simp] theorem State.noteWork_holdSlot (s : State) (j : Nat) : (s.noteWork).holdSlot j = s.holdSlot j := by
  rw [State.noteWork_frame]; rfl
@[simp] theorem State.noteWork_channel (s : State) (j : Nat) : (s.noteWork).channel j = s.channel j := by
  rw [State.noteWork_frame]; rfl
@[simp] theorem State.noteWork_slot (s : State) (j : Nat) : (s.noteWork).slot j = s.slot j := by
  rw [State.noteWork_frame]; rfl
@[simp] theorem State.noteWork_card (s : State) (j : Nat) : (s.noteWork).card j = s.card j := by
  rw [State.noteWork_frame]; rfl
@[simp] theorem State.noteWork_shop (s : State) (j : Nat) : (s.noteWork).shop j = s.shop j := by
  rw [State.noteWork_frame]; rfl
@[simp] theorem State.noteWork_program (s : State) (j : Nat) : (s.noteWork).program j = s.program j := by
  rw [State.noteWork_frame]; rfl
@[simp] theorem State.noteWork_acceptRow (s : State) (j : Nat) : (s.noteWork).acceptRow j = s.acceptRow j := by
  rw [State.noteWork_frame]; rfl
@[simp] theorem State.noteWork_binding (s : State) (j : Nat) : (s.noteWork).binding j = s.binding j := by
  rw [State.noteWork_frame]; rfl
@[simp] theorem State.noteWork_setup (s : State) (j : Nat) : (s.noteWork).setup j = s.setup j := by
  rw [State.noteWork_frame]; rfl
@[simp] theorem State.noteWork_nextWrite (s : State) : (s.noteWork).nextWrite = s.nextWrite := by
  rw [State.noteWork_frame]; rfl
@[simp] theorem State.noteWork_oldest (s : State) : (s.noteWork).oldest = s.oldest := by
  rw [State.noteWork_frame]; rfl
@[simp] theorem State.noteWork_unack (s : State) : (s.noteWork).unack = s.unack := by
  rw [State.noteWork_frame]; rfl

/-- A grant touches the payout window, the channel and the visits (R152, R153). -/
theorem State.grantTo_frame (s : State) (k c : Nat) :
    s.grantTo k c = { s with settle := (s.grantTo k c).settle, channels := (s.grantTo k c).channels, plu := (s.grantTo k c).plu } := by
  rfl

@[simp] theorem State.grantTo_pfw (s : State) (k c : Nat) : (s.grantTo k c).pfw = s.pfw := by
  rw [State.grantTo_frame]
@[simp] theorem State.grantTo_cap (s : State) (k c : Nat) : (s.grantTo k c).cap = s.cap := by
  rw [State.grantTo_frame]
@[simp] theorem State.grantTo_time (s : State) (k c : Nat) : (s.grantTo k c).time = s.time := by
  rw [State.grantTo_frame]
@[simp] theorem State.grantTo_lanes (s : State) (k c : Nat) : (s.grantTo k c).lanes = s.lanes := by
  rw [State.grantTo_frame]
@[simp] theorem State.grantTo_officeLink (s : State) (k c : Nat) : (s.grantTo k c).officeLink = s.officeLink := by
  rw [State.grantTo_frame]
@[simp] theorem State.grantTo_payLink (s : State) (k c : Nat) : (s.grantTo k c).payLink = s.payLink := by
  rw [State.grantTo_frame]
@[simp] theorem State.grantTo_ledger (s : State) (k c : Nat) : (s.grantTo k c).ledger = s.ledger := by
  rw [State.grantTo_frame]
@[simp] theorem State.grantTo_holds (s : State) (k c : Nat) : (s.grantTo k c).holds = s.holds := by
  rw [State.grantTo_frame]
@[simp] theorem State.grantTo_expiryQ (s : State) (k c : Nat) : (s.grantTo k c).expiryQ = s.expiryQ := by
  rw [State.grantTo_frame]
@[simp] theorem State.grantTo_waiting (s : State) (k c : Nat) : (s.grantTo k c).waiting = s.waiting := by
  rw [State.grantTo_frame]
@[simp] theorem State.grantTo_recovery (s : State) (k c : Nat) : (s.grantTo k c).recovery = s.recovery := by
  rw [State.grantTo_frame]
@[simp] theorem State.grantTo_journal (s : State) (k c : Nat) : (s.grantTo k c).journal = s.journal := by
  rw [State.grantTo_frame]
@[simp] theorem State.grantTo_office (s : State) (k c : Nat) : (s.grantTo k c).office = s.office := by
  rw [State.grantTo_frame]
@[simp] theorem State.grantTo_attn (s : State) (k c : Nat) : (s.grantTo k c).attn = s.attn := by
  rw [State.grantTo_frame]
@[simp] theorem State.grantTo_store (s : State) (k c : Nat) : (s.grantTo k c).store = s.store := by
  rw [State.grantTo_frame]
@[simp] theorem State.grantTo_pending (s : State) (k c : Nat) : (s.grantTo k c).pending = s.pending := by
  rw [State.grantTo_frame]
@[simp] theorem State.grantTo_warnings (s : State) (k c : Nat) : (s.grantTo k c).warnings = s.warnings := by
  rw [State.grantTo_frame]
@[simp] theorem State.grantTo_lane (s : State) (k c : Nat) (j : Nat) : (s.grantTo k c).lane j = s.lane j := by
  rw [State.grantTo_frame]; rfl
@[simp] theorem State.grantTo_holdSlot (s : State) (k c : Nat) (j : Nat) : (s.grantTo k c).holdSlot j = s.holdSlot j := by
  rw [State.grantTo_frame]; rfl
@[simp] theorem State.grantTo_card (s : State) (k c : Nat) (j : Nat) : (s.grantTo k c).card j = s.card j := by
  rw [State.grantTo_frame]; rfl
@[simp] theorem State.grantTo_shop (s : State) (k c : Nat) (j : Nat) : (s.grantTo k c).shop j = s.shop j := by
  rw [State.grantTo_frame]; rfl
@[simp] theorem State.grantTo_program (s : State) (k c : Nat) (j : Nat) : (s.grantTo k c).program j = s.program j := by
  rw [State.grantTo_frame]; rfl
@[simp] theorem State.grantTo_acceptRow (s : State) (k c : Nat) (j : Nat) : (s.grantTo k c).acceptRow j = s.acceptRow j := by
  rw [State.grantTo_frame]; rfl
@[simp] theorem State.grantTo_binding (s : State) (k c : Nat) (j : Nat) : (s.grantTo k c).binding j = s.binding j := by
  rw [State.grantTo_frame]; rfl
@[simp] theorem State.grantTo_setup (s : State) (k c : Nat) (j : Nat) : (s.grantTo k c).setup j = s.setup j := by
  rw [State.grantTo_frame]; rfl
@[simp] theorem State.grantTo_nextWrite (s : State) (k c : Nat) : (s.grantTo k c).nextWrite = s.nextWrite := by
  rw [State.grantTo_frame]; rfl
@[simp] theorem State.grantTo_oldest (s : State) (k c : Nat) : (s.grantTo k c).oldest = s.oldest := by
  rw [State.grantTo_frame]; rfl
@[simp] theorem State.grantTo_unack (s : State) (k c : Nat) : (s.grantTo k c).unack = s.unack := by
  rw [State.grantTo_frame]; rfl

theorem State.grantOnce_frame {s t : State} (h : s.grantOnce = some t) :
    ∃ a b c, t = { s with settle := a, channels := b, plu := c } := by
  unfold State.grantOnce at h
  split at h
  · split at h
    · cases h
      exact ⟨_, _, _, State.grantTo_frame s _ _⟩
    · cases h
  · cases h

theorem State.grantUpTo_frame (n : Nat) (s : State) :
    ∃ a b c, State.grantUpTo n s = { s with settle := a, channels := b, plu := c } := by
  induction n generalizing s with
  | zero => exact ⟨_, _, _, rfl⟩
  | succ n ih =>
    unfold State.grantUpTo
    cases h : s.grantOnce with
    | none => exact ⟨_, _, _, rfl⟩
    | some t =>
      obtain ⟨a, b, c, rfl⟩ := State.grantOnce_frame h
      obtain ⟨a', b', c', h'⟩ := ih { s with settle := a, channels := b, plu := c }
      exact ⟨a', b', c', h'⟩

/-- Grants touch the payout window, the channels and the visits alone (R152). -/
theorem State.grantSlots_frame (s : State) :
    s.grantSlots = { s with settle := (s.grantSlots).settle, channels := (s.grantSlots).channels, plu := (s.grantSlots).plu } := by
  obtain ⟨a, b, c, h⟩ := State.grantUpTo_frame 4 s
  unfold State.grantSlots
  rw [h]

@[simp] theorem State.grantSlots_pfw (s : State) : (s.grantSlots).pfw = s.pfw := by
  rw [State.grantSlots_frame]
@[simp] theorem State.grantSlots_cap (s : State) : (s.grantSlots).cap = s.cap := by
  rw [State.grantSlots_frame]
@[simp] theorem State.grantSlots_time (s : State) : (s.grantSlots).time = s.time := by
  rw [State.grantSlots_frame]
@[simp] theorem State.grantSlots_lanes (s : State) : (s.grantSlots).lanes = s.lanes := by
  rw [State.grantSlots_frame]
@[simp] theorem State.grantSlots_officeLink (s : State) : (s.grantSlots).officeLink = s.officeLink := by
  rw [State.grantSlots_frame]
@[simp] theorem State.grantSlots_payLink (s : State) : (s.grantSlots).payLink = s.payLink := by
  rw [State.grantSlots_frame]
@[simp] theorem State.grantSlots_ledger (s : State) : (s.grantSlots).ledger = s.ledger := by
  rw [State.grantSlots_frame]
@[simp] theorem State.grantSlots_holds (s : State) : (s.grantSlots).holds = s.holds := by
  rw [State.grantSlots_frame]
@[simp] theorem State.grantSlots_expiryQ (s : State) : (s.grantSlots).expiryQ = s.expiryQ := by
  rw [State.grantSlots_frame]
@[simp] theorem State.grantSlots_waiting (s : State) : (s.grantSlots).waiting = s.waiting := by
  rw [State.grantSlots_frame]
@[simp] theorem State.grantSlots_recovery (s : State) : (s.grantSlots).recovery = s.recovery := by
  rw [State.grantSlots_frame]
@[simp] theorem State.grantSlots_journal (s : State) : (s.grantSlots).journal = s.journal := by
  rw [State.grantSlots_frame]
@[simp] theorem State.grantSlots_office (s : State) : (s.grantSlots).office = s.office := by
  rw [State.grantSlots_frame]
@[simp] theorem State.grantSlots_attn (s : State) : (s.grantSlots).attn = s.attn := by
  rw [State.grantSlots_frame]
@[simp] theorem State.grantSlots_store (s : State) : (s.grantSlots).store = s.store := by
  rw [State.grantSlots_frame]
@[simp] theorem State.grantSlots_pending (s : State) : (s.grantSlots).pending = s.pending := by
  rw [State.grantSlots_frame]
@[simp] theorem State.grantSlots_warnings (s : State) : (s.grantSlots).warnings = s.warnings := by
  rw [State.grantSlots_frame]
@[simp] theorem State.grantSlots_lane (s : State) (j : Nat) : (s.grantSlots).lane j = s.lane j := by
  rw [State.grantSlots_frame]; rfl
@[simp] theorem State.grantSlots_holdSlot (s : State) (j : Nat) : (s.grantSlots).holdSlot j = s.holdSlot j := by
  rw [State.grantSlots_frame]; rfl
@[simp] theorem State.grantSlots_card (s : State) (j : Nat) : (s.grantSlots).card j = s.card j := by
  rw [State.grantSlots_frame]; rfl
@[simp] theorem State.grantSlots_shop (s : State) (j : Nat) : (s.grantSlots).shop j = s.shop j := by
  rw [State.grantSlots_frame]; rfl
@[simp] theorem State.grantSlots_program (s : State) (j : Nat) : (s.grantSlots).program j = s.program j := by
  rw [State.grantSlots_frame]; rfl
@[simp] theorem State.grantSlots_acceptRow (s : State) (j : Nat) : (s.grantSlots).acceptRow j = s.acceptRow j := by
  rw [State.grantSlots_frame]; rfl
@[simp] theorem State.grantSlots_binding (s : State) (j : Nat) : (s.grantSlots).binding j = s.binding j := by
  rw [State.grantSlots_frame]; rfl
@[simp] theorem State.grantSlots_setup (s : State) (j : Nat) : (s.grantSlots).setup j = s.setup j := by
  rw [State.grantSlots_frame]; rfl
@[simp] theorem State.grantSlots_nextWrite (s : State) : (s.grantSlots).nextWrite = s.nextWrite := by
  rw [State.grantSlots_frame]; rfl
@[simp] theorem State.grantSlots_oldest (s : State) : (s.grantSlots).oldest = s.oldest := by
  rw [State.grantSlots_frame]; rfl
@[simp] theorem State.grantSlots_unack (s : State) : (s.grantSlots).unack = s.unack := by
  rw [State.grantSlots_frame]; rfl

/-- A list of checks fails with d at its first check, or passes it and fails with d behind it (R51, R61). -/
theorem firstFailing_cons {α : Type} (passed : Bool) (c d : α) (rest : List (Bool × α)) :
    firstFailing ((passed, c) :: rest) = some d ↔ (passed = false ∧ c = d) ∨ (passed = true ∧ firstFailing rest = some d) := by
  cases passed <;> simp [firstFailing]

/-- The conditions on the record REWRITE_CARD supplies are those its check refuses by (R68, log 20). -/
theorem suppliedSound_iff (r : CardRecord) (prog : Nat) : suppliedSound r prog ↔ rewriteBad r prog = false := by
  rcases r with ⟨st, su, pr, bal, held, hc, code, fl, iss, act, lu, sq, ck⟩
  cases st <;> cases code <;> cases su <;> simp [suppliedSound, rewriteBad, Config.balanceMax, and_assoc] <;> omega

end Sys2Proof.Machine
end

