-- ==== Sys2Proof/Laws/Settle.lean ====
section
/-! SUPPORT. Laws of the Settlement Unit's shared operations: what one append, one roll, one accrual and one payout outcome can do. -/

namespace Sys2Proof.Machine

/-! ### What a raise and an append leave of the attention unit -/

@[simp] theorem State.raiseIf_attn_mask (s : State) (b : Bool) (src : Source) : (s.raiseIf b src).attn.mask = s.attn.mask := by
  cases b <;> rfl
@[simp] theorem State.append_attn_mask (s : State) (p : Nat) (b : EntryBody) : (s.append p b).attn.mask = s.attn.mask := by
  unfold State.append
  exact State.raiseIf_attn_mask _ _ _
@[simp] theorem State.raiseIf_attn_inService (s : State) (b : Bool) (src : Source) : (s.raiseIf b src).attn.inService = s.attn.inService := by
  cases b <;> rfl
@[simp] theorem State.append_attn_inService (s : State) (p : Nat) (b : EntryBody) : (s.append p b).attn.inService = s.attn.inService := by
  unfold State.append
  exact State.raiseIf_attn_inService _ _ _
@[simp] theorem State.raiseIf_attn_mode (s : State) (b : Bool) (src : Source) : (s.raiseIf b src).attn.mode = s.attn.mode := by
  cases b <;> rfl
@[simp] theorem State.append_attn_mode (s : State) (p : Nat) (b : EntryBody) : (s.append p b).attn.mode = s.attn.mode := by
  unfold State.append
  exact State.raiseIf_attn_mode _ _ _
@[simp] theorem State.raiseIf_attn_lowest (s : State) (b : Bool) (src : Source) : (s.raiseIf b src).attn.lowest = s.attn.lowest := by
  cases b <;> rfl
@[simp] theorem State.append_attn_lowest (s : State) (p : Nat) (b : EntryBody) : (s.append p b).attn.lowest = s.attn.lowest := by
  unfold State.append
  exact State.raiseIf_attn_lowest _ _ _

/-! ### Saturating sums -/

theorem satHouseInt_eq (a v : Int) :
    satHouseInt a v = (max (-9223372036854775808) (min 9223372036854775807 (a + v)),
      decide (9223372036854775807 < a + v) || decide (a + v < -9223372036854775808)) := by
  unfold satHouseInt
  simp only [Config.long]
  split
  · rw [Prod.mk.injEq]; constructor
    · omega
    · simp; omega
  · split
    · rw [Prod.mk.injEq]; constructor
      · omega
      · simp; omega
    · rw [Prod.mk.injEq]; constructor
      · omega
      · simp; omega

theorem satHouseNat_eq (a v : Nat) :
    satHouseNat a v = (min 9223372036854775807 (a + v), decide (9223372036854775807 < a + v)) := by
  unfold satHouseNat
  simp only [Config.long]
  split
  · rw [Prod.mk.injEq]; constructor
    · omega
    · simp [*]
  · rw [Prod.mk.injEq]; constructor
    · omega
    · simp; omega

theorem satBank_eq (a v : Nat) :
    satBank a v = (min 140737488355327 (a + v), decide (140737488355327 < a + v)) := by
  unfold satBank
  simp only [Config.bankMax]
  split
  · rw [Prod.mk.injEq]; constructor
    · omega
    · simp [*]
  · rw [Prod.mk.injEq]; constructor
    · omega
    · simp; omega

theorem satCarry_eq (c : Int) :
    satCarry c = (max (-140737488355327) (min 140737488355327 c),
      decide (140737488355327 < c) || decide (c < -140737488355327)) := by
  unfold satCarry
  simp only [Config.bankMax]
  split
  · rw [Prod.mk.injEq]; constructor
    · omega
    · simp; omega
  · split
    · rw [Prod.mk.injEq]; constructor
      · omega
      · simp; omega
    · rw [Prod.mk.injEq]; constructor
      · omega
      · simp; omega

/-! ### Rolls -/

/-- The house record after a roll (R111, R125). -/
theorem HouseRecord.afterRoll_fst (h : HouseRecord) (house : Bool) (k n : Int) :
    (h.afterRoll house k n).1 = houseAfter h house k n := by
  unfold HouseRecord.afterRoll houseAfter
  simp only [satHouseInt_eq]
  cases house <;> simp

/-- A roll reads neither the journal nor the attention flags, so a reservation does not change it. -/
theorem State.reserve_rollFor {s t : State} {cls : ResClass} {n : Nat} (h : s.reserve cls n = some t) (k : Nat) :
    t.rollFor k = s.rollFor k := by
  rcases s.reserve_spec cls n with ⟨_, hn⟩ | ⟨_, u, hu, he, _⟩
  · rw [hn] at h; cases h
  · rw [hu] at h; cases h
    rw [he]; rfl

/-- What one committed roll does (R125, R135): the shop and house records, one entry, the unrolled count, SETTLE_FAULT on
saturation; nothing else. -/
theorem State.commitRoll_spec (s : State) (k : Nat) :
    shopWritten s (s.commitRoll k) k (s.rollFor k).shop ∧
    (s.commitRoll k).store.houseRec =
      houseAfter s.store.houseRec (s.store.house.has k) (s.rollFor k).entry.commission (s.rollFor k).entry.net ∧
    entryJoins { s with journal.reserved := s.journal.reserved - 1 } (s.commitRoll k) s.settle.period
      (.roll (s.rollFor k).entry) ∧
    (s.commitRoll k).settle = { s.settle with unrolled := s.settle.unrolled - 1 } ∧
    ((s.rollFor k).clamped = true → (s.commitRoll k).attn.pending.getLsbD 1 = true) ∧
    onlyRaises s (s.commitRoll k) [1, 4, 5] ∧
    (s.commitRoll k).channels = s.channels ∧ (s.commitRoll k).plu = s.plu ∧
    (s.commitRoll k).store.nextTag = s.store.nextTag ∧ settleFrame s (s.commitRoll k) := by
  unfold State.commitRoll
  simp only [HouseRecord.afterRoll_fst]
  generalize hh : (s.store.houseRec.afterRoll (s.store.house.has k) (s.rollFor k).entry.commission (s.rollFor k).entry.net).2 = b2
  generalize hr : s.rollFor k = r
  generalize hm : houseAfter s.store.houseRec (s.store.house.has k) r.entry.commission r.entry.net = hr2
  refine ⟨⟨?_, ?_⟩, ?_, ?_, ?_, ?_, ?_, ?_, ?_, ?_, ?_⟩
  · simp [State.shop, State.setShop]
  · intro j hj; simp [State.shop, State.setShop, Table.read_write_ne, hj]
  · simp
  · generalize hu : ({ s.setShop k r.shop with store.houseRec := hr2, settle.unrolled := s.settle.unrolled - 1 } : State) = u
    have h := (u.append_spec s.settle.period (.roll r.entry)).1
    simp only [entryJoins, pointersPass, State.raiseIf_store, State.raiseIf_journal] at h ⊢
    rw [← hu] at h ⊢
    exact h
  · simp
  · intro hc; rw [hc, Bool.true_or, State.raiseIf_true, State.raise_flag]; simp [Source.number]
  · refine onlyRaises_trans (onlyRaises_trans (onlyRaises_of_eq _ ?_) (onlyRaises_mono (State.append_raises _ _ _) (by simp)))
      (onlyRaises_raiseIf _ _ _ _ (by simp [Source.number]))
    simp
  · simp
  · simp
  · simp
  · unfold settleFrame
    rw [State.raiseIf_frame, State.append_frame]
    simp [State.setShop]

/-- One committed roll moves the journal's attentions as one append does (R125, R181). -/
theorem State.commitRoll_marks (s : State) (k : Nat) : marksFollow s (s.commitRoll k) 0 1 := by
  unfold State.commitRoll
  simp only
  generalize ((s.rollFor k).clamped ||
    (s.store.houseRec.afterRoll (s.store.house.has k) (s.rollFor k).entry.commission (s.rollFor k).entry.net).2) = b
  obtain ⟨m1, m2, m3, m4⟩ := (State.append_spec
    { s.setShop k (s.rollFor k).shop with
      store.houseRec :=
        (s.store.houseRec.afterRoll (s.store.house.has k) (s.rollFor k).entry.commission (s.rollFor k).entry.net).1,
      settle.unrolled := s.settle.unrolled - 1 } s.settle.period (.roll (s.rollFor k).entry)).2
  refine ⟨?_, ?_, ?_, ?_⟩
  · rw [State.raiseIf_journal]; exact m1
  · cases b
    · exact m2
    · rw [State.raiseIf_true, State.raise_flag]; exact (Bool.or_false _).trans m2
  · rw [State.raiseIf_journal]; exact m3
  · cases b
    · exact m4
    · rw [State.raiseIf_true, State.raise_flag]; exact (Bool.or_false _).trans m4

/-- Taking a piece of work of classes 1 to 3 notes the sweep wait count and nothing else (R137). -/
theorem State.noteWork_eq (s : State) : s.noteWork = { s with settle.wait := waitAfter s } := by
  unfold State.noteWork waitAfter
  cases s.sweepEligible <;> rfl

/-! ### The warning in the middle of a piece of work -/

/-- What the warning can leave of the work in hand: nothing, or the whole roll of the shop it rolls first, which was behind and whose
reservations were granted (R128, R136). -/
theorem State.rollInHand_cases (s : State) :
    s.rollInHand = s ∨
      ∃ k n s1, s.workInHand = some (k, n) ∧ s.behind k = true ∧ s.makeCountsIfRecovering.reserve .general n = some s1 ∧
        s.rollInHand = s1.commitRoll k := by
  unfold State.rollInHand
  split
  · next k n hw =>
    split
    · next hb =>
      split
      · next s1 hr => exact .inr ⟨k, n, s1, hw, hb, hr, rfl⟩
      · exact .inl rfl
    · exact .inl rfl
  · exact .inl rfl

/-- PFW_ASSERT always answers a next state: the work in hand cut somewhere, the warning asserted, no FORMAT running (R44, R198). -/
theorem execPfwAssert_spec (s : State) :
    ∃ m, (m = s ∨ m = s.rollInHand) ∧
      exec .pfwAssert s = .next { m with pfw := true, ledger.formatting := false, warnings := s.warnings + 1 } := by
  refine ⟨if Config.warningAfterRoll s.warnings then s.rollInHand else s, ?_, rfl⟩
  split
  · exact .inr rfl
  · exact .inl rfl

/-! ### Accruals -/

/-- The open bank after an effect on shop k (R115, R117). -/
theorem OpenBank.accrue_of {b bank : OpenBank} {e : Effect} {k : Nat} {full : Bool} (h : accrues b e k bank full) :
    e.shop = some k ∧ b.accrue e = (bank, full) := by
  cases e <;> simp only [accrues] at h
  all_goals
    obtain ⟨rfl, rfl, rfl⟩ := h
    refine ⟨rfl, ?_⟩
    simp [OpenBank.accrue, satBank_eq]

/-- What applying an accrual to its current shop does (R114, R115, R117): the shop record and the accrual mark, SETTLE_FAULT on
saturation; nothing else. -/
theorem State.applyEffect_spec {s : State} {e : Effect} {k : Nat} {bank : OpenBank} {full : Bool}
    (h : accrues (s.shop k).bank e k bank full) (source : Nat) :
    s.applyEffect e source =
      State.raiseIf { s.setShop k (accruedShop (s.shop k) bank full) with store.houseRec := { s.store.houseRec with mark := source } }
        full .settleFault := by
  obtain ⟨hs, hb⟩ := OpenBank.accrue_of h
  have hr : (s.shop k).accrue e = (accruedShop (s.shop k) bank full, full) := by
    unfold ShopRecord.accrue accruedShop
    rw [hb]
    cases full <;> simp
  cases e <;> simp only [Effect.shop, reduceCtorEq, Option.some.injEq] at hs <;>
    subst hs <;> simp only [State.applyEffect, Effect.shop, hr]

end Sys2Proof.Machine
end

