-- ==== Sys2Proof/WellFormed.lean ====
section
/-! DEFINITION. Which terms of Instr are commands: link, lane and slot numbers in range, and received frames complete. -/

namespace Sys2Proof

/-- A complete frame holds marker, kind, length byte, as many body characters as the length byte states, and two check
characters (R2); it is judged at the end of the last of them. -/
def frameComplete : List RxChar → Bool
  | _ :: _ :: n :: rest => rest.length == n.data.toNat + 2
  | _ => false

/-- Operands in range: links 0 to 5 and lanes 0 to 3 (R1), payout slots 0 to 15 (R162), complete frames (R2). -/
def Instr.wf : Instr → Bool
  | .idleGap link => link ≤ 5
  | .truncatedFrame link => link ≤ 5
  | .transmitterBeginsFrame link => link ≤ 5
  | .laneFrameReceived lane chars => lane ≤ 3 && frameComplete chars
  | .officeFrameReceived chars => frameComplete chars
  | .bankFrameReceived chars => frameComplete chars
  | .laneAnswerSent lane => lane ≤ 3
  | .payDeadlineReached slot => slot < Config.payoutSlots
  | .powerOnReset _ => true
  | .pfwAssert => true
  | .pfwRelease => true
  | .restartPerformed => true
  | .officeFrameSent => true
  | .paySend => true
  | .payFrameSent => true
  | .laneBadRequest => true
  | .activate => true
  | .load => true
  | .balance => true
  | .redeem => true
  | .cashout => true
  | .authorize => true
  | .capture => true
  | .void => true
  | .refund => true
  | .holdDeadlineReached => true
  | .expiry => true
  | .accrualApply => true
  | .closeEntry => true
  | .rollSweep => true
  | .slotGrant => true
  | .channelVisit => true
  | .bankFrameTaken => true
  | .pull => true
  | .doneAnswer => true
  | .backAnswer => true
  | .deadlineExpiry => true
  | .streamMark => true
  | .attnChoice => true
  | .cardPassRecord => true
  | .recoveryDoubt => true
  | .accrualReplay => true
  | .recoveryEnd => true
  | .laneUp => true
  | .laneStatus => true
  | .readStatus => true
  | .restart => true
  | .readTable => true
  | .writeTableProgram => true
  | .writeTableAccept => true
  | .writeTableHouse => true
  | .writeTableBinding => true
  | .writeTableSettings => true
  | .format => true
  | .openLedger => true
  | .readCard => true
  | .provision => true
  | .suspend => true
  | .resume => true
  | .closeCard => true
  | .adjust => true
  | .rewriteCard => true
  | .readTotals => true
  | .closePeriod => true
  | .setShop => true
  | .readShop => true
  | .snapShop => true
  | .readSnap => true
  | .readHouse => true
  | .resolve => true
  | .setChannel => true
  | .armChannel => true
  | .stepChannel => true
  | .maskChannelMask => true
  | .maskChannelUnmask => true
  | .channelStatus => true
  | .journalRead => true
  | .journalAck => true
  | .streamSet => true
  | .attnMask => true
  | .attnEnd => true
  | .attnMode => true
  | .officeBadRequest => true
  | .formatComplete => true

end Sys2Proof
end

