-- ==== Sys2Proof/Tests/Slice0.lean ====
section
/-! SUPPORT. Tests on the spec's worked examples, the WellFormed smoke, and one witness theorem for the hypotheses of each
statement. -/

namespace Sys2Proof.Tests

-- One after another: kernel evaluations that wait for each other hold a thread each.
set_option Elab.async false

open Sys2Proof.Machine

/-! ### Helpers -/

/-- The command answers a next state with a property. -/
def nextHas (o : Out) (p : State → Bool) : Bool :=
  match o with
  | .next t => p t
  | _ => false

/-- The state after a command. -/
def after (i : Instr) (s : State) : State :=
  match exec i s with
  | .next t => t
  | _ => s

/-- Program 2 of the tests: serials 0 to 59,999. -/
def family : Program :=
  { boundary := 60000, enabled := true, loadLimit := 10000, activationMin := 100, rate := 350, lifetime := 1800,
    maxHolds := 2, refundWindow := 2, ceiling := 6000 }

/-- The family card of chapter 3. -/
def familyCard : CardRecord :=
  { CardRecord.blank with state := .active, program := some 2, balance := 6000, code := some 1234, seq := 41 }

/-- A card not yet sold. -/
def stockCard : CardRecord := { familyCard with state := .stock, balance := 0 }

/-- A shop that trades, its bank in period 12. -/
def trading : ShopRecord :=
  { ShopRecord.initial with office := .trading, debtLimit := 50000, bank := { ShopRecord.initial.bank with period := 12 } }

/-- An open ledger in period 12: shops 3 and 37 trade, terminals 40 and 17 of lane 0 are theirs, program 2 has cards. -/
def mall : State :=
  { State.reset with
    ledger := { State.reset.ledger with mode := .opened, period := 12 },
    settle := { Settle.initial with period := 12 },
    journal := { JournalChip.initial with nextStream := 20500 },
    store := { Store.formatted with
      openFlag := true, periodWord := 12, programs := [(2, family)],
      accept := [(0, { re := 4, le := 0, xe := 4 }), (2, { re := 4, le := 4, xe := 0 })],
      bindings := [(0, { address := 17, shop := 37, enabled := true }), (1, { address := 40, shop := 3, enabled := true })],
      shops := [(3, trading), (37, trading)], cards := [(100, stockCard), (51234, familyCard)],
      nextToWrite := 20500, oldestUnack := 20500, totals := { Totals.zero with float := 6000 } } }

/-- A WAITING lane entry. -/
def entryOf (kind : Byte) (body : List Byte) : LaneEntry := { kind := kind, body := body, stage := .waiting }

/-- The state with one request on lane 0, which is in RUN. -/
def onLane (kind : Byte) (body : List Byte) (s : State) : State :=
  s.setLane 0 { Lane.initial with rx := .run, queue := [entryOf kind body] }

/-- The state with an office request in flight. -/
def asOffice (kind : Byte) (body : List Byte) (s : State) : State :=
  { s with office.inFlight := some { frame := { kind := kind, body := body }, answer := none } }

/-- Address, tag 301 and the fields of a lane request. -/
def request (terminal : Nat) (fields : List (Nat × Nat)) : List Byte :=
  bytesOf 1 terminal ++ bytesOf 2 301 ++ fields.flatMap fun f => bytesOf f.1 f.2

/-- Office tag 9 and the fields of an office request. -/
def office (fields : List (Nat × Nat)) : List Byte := bytesOf 2 9 ++ fields.flatMap fun f => bytesOf f.1 f.2

/-- A request naming a serial, code 1234 and an amount. -/
def amountReq (terminal serial amount : Nat) : List Byte := request terminal [(3, serial), (2, 1234), (4, amount)]

/-- The same with a partial flag. -/
def spendReq (terminal serial amount part : Nat) : List Byte :=
  request terminal [(3, serial), (2, 1234), (4, amount), (1, part)]

/-- A frame's bytes as good characters. -/
def chars (bytes : List Byte) : List RxChar := bytes.map fun b => { data := b, stopOk := true }

/-- A received lane frame, and the same with a wrong check. -/
def goodFrame : List RxChar := chars (frameBytes 0x12 (request 17 [(3, 51234), (2, 1234)]))
/-- The frame with its last check byte damaged. -/
def badFrame : List RxChar := goodFrame.set 12 { data := 0, stopOk := true }

/-- The result of the last answer of lane 0. -/
def laneResult (s : State) : Option LaneResult :=
  match (s.lane 0).queue.getLast? with
  | some { stage := .answered a, .. } => some a.result
  | _ => none

/-! ### WellFormed smoke: one ill-formed term for each check, refused -/

theorem test_wf_link : (Instr.idleGap 6).wf = false ∧ (Instr.truncatedFrame 6).wf = false ∧
    (Instr.transmitterBeginsFrame 6).wf = false ∧ (Instr.idleGap 5).wf = true := by decide

theorem test_wf_lane : (Instr.laneFrameReceived 4 goodFrame).wf = false ∧ (Instr.laneAnswerSent 4).wf = false ∧
    (Instr.laneFrameReceived 3 goodFrame).wf = true := by decide +kernel

theorem test_wf_frame : (Instr.laneFrameReceived 0 (goodFrame.take 12)).wf = false ∧
    (Instr.officeFrameReceived []).wf = false ∧ (Instr.bankFrameReceived (goodFrame ++ goodFrame)).wf = false := by
  decide +kernel

theorem test_wf_slot : (Instr.payDeadlineReached 16).wf = false ∧ (Instr.payDeadlineReached 15).wf = true := by decide

/-! ### Frames (R3, 12.2) -/

/-- The published check of the reflected form of this CRC over the nine digits (log 5). -/
theorem test_crc : crcOf [0x31, 0x32, 0x33, 0x34, 0x35, 0x36, 0x37, 0x38, 0x39] = 0x6F91#16 := by decide +kernel

/-- The layout of a lane request, written out from 12.2. -/
theorem test_request_layout :
    spendReq 9 51234 2500 1 = [0x09, 0x01, 0x2D, 0x00, 0xC8, 0x22, 0x04, 0xD2, 0x00, 0x00, 0x09, 0xC4, 0x01] := by decide

/-- The lane exchange of chapter 12: 18 body bytes, presence bits 0, 1 and 3. -/
theorem test_answer_layout :
    laneAnswerBody (laneReply (entryOf 0x16 (spendReq 9 51234 2500 1)) .part (some 1450) (some 0) none (some 20501)) =
      [0x09, 0x01, 0x2D, 0x16, 0x01, 0x0B, 0x00, 0x00, 0x05, 0xAA, 0x00, 0x00, 0x00, 0x00, 0x00, 0x00, 0x50, 0x15] := by
  decide

/-! ### Links (chapter 1) -/

/-- Lane 2 at its queue limit: b1 is queued, b2 is answered BUSY, b3 overflows. -/
theorem test_lane_at_its_limit :
    let full := (List.range 16).map fun i => entryOf 0x12 (request i [])
    let v := { Lane.initial with rx := RxState.run, taken := 1001, busyCount := 3, queue := full }
    (v.arrive 0x12 (request 9 [])).busyCount = 4 ∧ ((v.arrive 0x12 (request 9 [])).arrive 0x12 (request 9 [])).overflows = 1 ∧
      ((v.arrive 0x12 (request 9 [])).arrive 0x12 (request 9 [])).taken = 1003 := by decide +kernel

/-- Lane 1 goes down: a frame with a bad check at 15 consecutive errors. -/
theorem test_lane_goes_down :
    nextHas (exec (.laneFrameReceived 1 badFrame)
        (mall.setLane 1 { Lane.initial with rx := .run, consecutive := 15, framing := 221, queue := [entryOf 0x12 []] }))
      (fun t => (t.lane 1).rx == .down && (t.lane 1).framing == 222 && (t.lane 1).queue.isEmpty
        && t.attn.pending == 0x40#8) = true := by decide +kernel

/-! ### Reference tables (chapter 2) -/

/-- WRITE_TABLE of a program with a boundary. -/
def writeBoundary (k b : Nat) (s : State) : State :=
  after .writeTableProgram (asOffice 0x5A (office [(1, 1), (2, k), (3, b), (1, 1), (4, 100), (4, 0), (2, 0), (4, 10),
    (1, 1), (1, 0), (4, 0)]) { s with officeLink := OfficeLink.initial })

/-- A formatted store in CONFIG with CAP 131,072. -/
def fresh : State :=
  { State.reset with cap := 131072, store := Store.formatted, ledger := { State.reset.ledger with mode := .config } }

/-- Laying out the programs: the boundaries of chapter 2's worked example. -/
theorem test_boundaries :
    (List.range 8).map (fun k => ((writeBoundary 3 140000 (writeBoundary 2 100000 (writeBoundary 1 30000
      (writeBoundary 0 40000 fresh)))).program k).boundary) =
      [40000, 40000, 100000, 131072, 131072, 131072, 131072, 131072] := by decide +kernel

/-- The program lookup of the same example. -/
theorem test_lookup :
    let s := { fresh with store.programs := [(0, { family with boundary := 40000 }), (1, { family with boundary := 40000, enabled := false }),
      (2, { family with boundary := 100000 }), (3, { family with boundary := 131072 })] }
    [0, 39999, 40000, 99999, 100000, 131071, 131072].map s.lookup =
      [some 0, some 0, some 2, some 2, some 3, some 3, none] := by decide +kernel

/-! ### The Card Ledger (chapter 3) -/

/-- The family card: the request of 4,550 at shop 37. -/
theorem test_redeem_family_card :
    nextHas (exec .redeem (onLane 0x16 (spendReq 17 51234 4550 0) mall))
      (fun t => (t.card 51234).balance == 1450 && (t.card 51234).seq == 42 && t.store.nextToWrite == 20501
        && t.settle.accruals == [.money (.redeemed 37 4550 350) 12 20500] && laneResult t == some .approved) = true := by
  decide +kernel

/-- The lockout: the third failure suspends the card. -/
theorem test_lockout :
    nextHas (exec .load (onLane 0x11 (request 17 [(3, 51234), (2, 9999), (4, 1000)])
        (mall.setCard 51234 { familyCard with failures := 2, seq := 9 })))
      (fun t => (t.card 51234).state == .suspended && (t.card 51234).suspend == some .lockout && (t.card 51234).seq == 10
        && laneResult t == some .badCode) = true := by decide +kernel

/-- A wrong program number is a check-value mismatch, and READ_CARD shows one, also with the list full (R29, R53, R62). -/
theorem test_read_card_program_mismatch :
    let s := asOffice 0x48 (office [(3, 51234)]) (mall.setCard 51234 { familyCard with program := some 3 })
    let last (s : State) := ((after .readCard s).officeLink.answerPlace.map fun a => a.data.drop 27)
    last s = some [0, 1] ∧ last { s with ledger.faults := List.range 16 } = some [0, 0] ∧
      last (asOffice 0x48 (office [(3, 51234)]) mall) = some [1, 0] := by decide +kernel

/-! ### Holds and refunds (chapters 4, 5) -/

/-- The mall with a hold of 4,000 of the family card in slot 5, generation 3, at shop 37. -/
def held : State :=
  ((mall.setCard 51234 { familyCard with held := 4000, holdCount := 1 }).setHoldSlot 5
    { gen := 3, memory := none, hold := some { card := 51234, shop := 37, lane := 0, terminal := 17, amount := 4000,
                                               rate := 350, deadline := 6800000 } })

/-- The capture of 3,800 releases the other 200 of the hold; the slot keeps its end memory. -/
theorem test_capture :
    nextHas (exec .capture (onLane 0x14 (request 17 [(2, 163), (4, 3800)]) held))
      (fun t => (t.card 51234).balance == 2200 && (t.card 51234).held == 0
        && t.holdSlot 5 == { gen := 4, hold := none, memory := some (3, .captured) } && laneResult t == some .approved) =
      true := by decide +kernel

/-- More than was held is declined BAD_AMOUNT. -/
theorem test_capture_above_the_hold :
    nextHas (exec .capture (onLane 0x14 (request 17 [(2, 163), (4, 4350)]) held))
      (fun t => t.card 51234 == held.card 51234 && laneResult t == some .badAmount) = true := by decide +kernel

/-- The mall after the family card's redemption at shop 37. -/
def redeemed : State :=
  { mall.setCard 51234 { familyCard with balance := 0, seq := 43 } with
    store.window := [{ ref := 20499, card := 100, shop := 3, program := 2, rate := 350, captured := 1, refunded := 0, period := 12 },
      { ref := 20500, card := 51234, shop := 37, program := 2, rate := 350, captured := 4550, refunded := 0, period := 12 }] }

/-- The refund of 2,000 at the returns desk is charged to shop 37. -/
theorem test_refund_at_the_returns_desk :
    nextHas (exec .refund (onLane 0x17 (request 40 [(4, 20500), (4, 2000)]) redeemed))
      (fun t => (t.card 51234).balance == 2000 && (t.card 51234).seq == 44
        && t.settle.accruals == [.money (.refunded 37 2000 350) 12 20500] && laneResult t == some .approved) = true := by
  decide +kernel

/-- Three periods later it is too old. -/
theorem test_refund_too_old :
    nextHas (exec .refund (onLane 0x17 (request 40 [(4, 20500), (4, 1550)]) { redeemed with ledger.period := 15 }))
      (fun t => laneResult t == some .refundTooOld) = true := by decide +kernel

/-! ### Settlement (chapters 6, 7) -/

/-- Shop 37 at the end of period 12. -/
def shop37 : ShopRecord :=
  { trading with remainder := 4000, carry := -1200,
                 bank := { period := 12, g := 18550, f := 2000, s := 10000, x := 0, q := 5792500 },
                 closing := { ShopRecord.initial.closing with state := .carried } }

theorem test_roll_shop_37 :
    let r := rollOf 37 shop37 false 1000 13
    r.entry.commission = 579 ∧ r.shop.remainder = 6500 ∧ r.entry.net = 4771 ∧ r.shop.closing.state = .owed ∧
      r.shop.closing.amount = 4771 ∧ r.shop.carry = 0 ∧ r.shop.debtBar = false := by decide +kernel

theorem test_roll_shop_80 :
    let r := rollOf 80 { trading with debtLimit := 2000, bank := { trading.bank with f := 3333, q := -416625 } } false 1000 13
    r.entry.commission = -42 ∧ r.shop.remainder = 3375 ∧ r.entry.net = -3291 ∧ r.shop.closing.state = .carried ∧
      r.shop.debtBar = true := by decide +kernel

/-- The dispositions side by side: house, FROZEN, DEPARTED, below the minimum. -/
theorem test_dispositions :
    [rollOf 505 { trading with carry := -22000 } true 1000 13, rollOf 210 { trading with carry := 8000, office := .frozen } false 1000 13,
      rollOf 141 { trading with carry := 600, office := .departed } false 1000 13,
      rollOf 142 { trading with carry := 600 } false 1000 13].map (fun r => (r.shop.closing.state, r.shop.closing.amount, r.shop.carry)) =
      [(.house, 0, 0), (.carried, 0, 8000), (.owed, 600, 0), (.carried, 0, 600)] := by decide +kernel

/-! ### The journal and attention (chapters 10, 11) -/

/-- The ring at its limit: the acknowledgement of 105,000 re-arms both attentions. -/
theorem test_journal_ack :
    let s := { mall with store.oldestUnack := 100001, store.nextToWrite := 116338, journal.nextStream := 110001,
                         journal.highHeld := true, journal.fullHeld := true }
    nextHas (exec .journalAck (asOffice 0x5C (office [(4, 105000)]) s))
      (fun t => t.store.oldestUnack == 105001 && t.unack == 11337 && !t.journal.highHeld && !t.journal.fullHeld
        && t.journal.nextStream == 110001) = true := by decide +kernel

/-- Rotating attention: after the service of source 2 the search runs round to 0. -/
theorem test_rotating_attention :
    nextHas (exec .attnChoice { mall with attn := { pending := 0x43, mask := 0x40, inService := none, mode := .rotating, lowest := 2 } })
      (fun t => t.attn.inService == some 0 && t.attn.pending == 0x42#8 && t.officeLink.attnPlace == some 0) = true := by
  decide +kernel

/-! ### Witnesses: the machine and the links -/

theorem witness_IdleStepIsOneMillisecond : mall.pending = [] := rfl

/-- RESTART's answer being sent. -/
def sendingRestart : State :=
  { mall with officeLink := { OfficeLink.initial with
      answerPlace := some { tag := 9, kind := 0x47, code := .done, data := [] },
      sending := some { source := .answer, bytes := [] } } }

theorem witness_ResetsKeepTheStore :
    { mall with pfw := true }.pfw = true ∧ sendingRestart.sendingRestartAnswer = true := by decide

/-- A formatted store in CONFIG, and OPEN_LEDGER in flight. -/
def opening : State := asOffice 0x42 (office []) fresh

/-- An outstanding close at the head of the accrual queue. -/
def closing : State :=
  { mall with settle.accruals := [.close 12], ledger.closeOutstanding := true, journal.reserved := 1,
              office.inFlight := some { frame := { kind := 0x41, body := office [] }, answer := none } }

theorem witness_ThePeriodChangesOnlyByOpeningAndClosing :
    nextHas (exec .openLedger opening) (fun t => t.store.periodWord != opening.store.periodWord) = true ∧
      nextHas (exec .formatComplete { mall with ledger.formatting := true }) (fun t => t.store.periodWord != mall.store.periodWord) =
        true ∧
      nextHas (exec .closeEntry closing) (fun t => t.store.periodWord != closing.store.periodWord) = true := by decide +kernel

theorem witness_IdleGapPutsTheReceiverInRun :
    State.reset.pfw = false ∧ (0 ≤ 3 ∧ (State.reset.lane 0).rx = .hunt) ∧ (3 ≤ 3 ∧ (State.reset.lane 3).rx = .hunt) ∧
      State.reset.officeLink.rx = .hunt ∧ State.reset.payLink.rx = .hunt ∧
      (∀ rx ∈ [RxState.run, .down], ((State.reset.setLane 3 { Lane.initial with rx := rx }).lane 3).rx ≠ .hunt) ∧
      ({ State.reset with officeLink.rx := .run }.officeLink.rx ≠ .hunt ∧ { State.reset with payLink.rx := .run }.payLink.rx ≠ .hunt) ∧
      { State.reset with pfw := true }.pfw = true := by decide +kernel

/-- Lane 0 in RUN after n consecutive errors. -/
def erring (n : Nat) : State := mall.setLane 0 { Lane.initial with rx := .run, consecutive := n, queue := [entryOf 0x12 []] }

/-- Office and payout receivers in RUN. -/
def running : State := { mall with officeLink.rx := .run, payLink.rx := .run }

/-- A lane answer. -/
def someAnswer : LaneAnswer := laneReply (entryOf 0x12 []) .approved none (some 1) none none

/-- An entry in the arbiter's hands. -/
def takenEntry : LaneEntry := { entryOf 0x16 [] with stage := .taken }

/-- An entry with its answer. -/
def answeredEntry : LaneEntry := { entryOf 0x12 [] with stage := .answered someAnswer }

/-- Lane 0 in RUN, sending the answer of its middle entry. -/
def answering (n : Nat) : State :=
  mall.setLane 0 { Lane.initial with rx := .run, consecutive := n, queue := [takenEntry, answeredEntry, entryOf 0x12 []],
                                     sending := some { source := .answer, bytes := [] } }

theorem witness_FramingErrorsCountAndTakeALaneDown :
    ((erring 14).pfw = false ∧ 0 ≤ 3 ∧ ((erring 14).lane 0).rx = .run ∧ ((erring 14).lane 0).consecutive < 15) ∧
      ((erring 15).pfw = false ∧ ((erring 15).lane 0).rx = .run ∧ ¬((erring 15).lane 0).consecutive < 15 ∧
        ((erring 15).lane 0).sending = none) ∧
      (((answering 15).pfw = false ∧ ((answering 15).lane 0).rx = .run ∧ ¬((answering 15).lane 0).consecutive < 15 ∧
        ((answering 15).lane 0).sending.map LaneSending.source = some .answer) ∧
        ((answering 15).lane 0).queue = [takenEntry] ++ answeredEntry :: [entryOf 0x12 []] ∧
        answeredEntry.stage = .answered someAnswer ∧ ∀ x ∈ [takenEntry], x.stage = .waiting ∨ x.stage = .taken) ∧
      judgeFrame 3 badFrame = .error ∧ (running.pfw = false ∧ running.officeLink.rx = .run ∧ running.payLink.rx = .run) ∧
      judgeFrame 2 badFrame = .error ∧ judgeFrame 0 badFrame = .error ∧
      ({ running with pfw := true }.pfw = true ∧ 5 < 6 ∧
        (∀ rx ∈ [RxState.hunt, .down], ((running.setLane 3 { Lane.initial with rx := rx }).lane 3).rx ≠ .run) ∧
        State.reset.officeLink.rx ≠ .run ∧ State.reset.payLink.rx ≠ .run) := by decide +kernel

/-- Lane 0 in RUN with n entries and a BUSY place. -/
def loaded (n : Nat) (busy : Option LaneAnswer) : State :=
  mall.setLane 0 { Lane.initial with rx := .run, queue := List.replicate n (entryOf 0x12 []), busyPlace := busy }

theorem witness_FramesAreQueuedOrTurnedAway :
    let laneBusy : LaneAnswer := laneReply (entryOf 0x12 []) .busy none none none none
    let f : Frame := { kind := 0x46, body := office [] }
    let busy : OfficeAnswer := { tag := 9, kind := 0x46, code := .busy, data := [] }
    ((mall.pfw = false ∧ 0 ≤ 3 ∧ judgeFrame 3 goodFrame = .valid 0x12 (request 17 [(3, 51234), (2, 1234)])) ∧
      ((((loaded 15 none).lane 0).rx = .run ∧ ((loaded 15 none).lane 0).queue.length < 16) ∧
      (((loaded 16 none).lane 0).rx = .run ∧ ¬((loaded 16 none).lane 0).queue.length < 16 ∧
        ((loaded 16 none).lane 0).busyPlace = none) ∧
      (((loaded 16 (some laneBusy)).lane 0).rx = .run ∧ ((loaded 16 (some laneBusy)).lane 0).busyPlace ≠ none))) ∧
    (running.pfw = false ∧ running.officeLink.rx = .run ∧ running.payLink.rx = .run ∧
      judgeFrame 2 (chars (frameBytes 0x46 (office []))) = .valid 0x46 (office [])) ∧
    ((List.replicate 7 f).length < 8 ∧ ¬(List.replicate 8 f).length < 8 ∧
      { running.officeLink with queue := List.replicate 8 f }.busyPlace = none ∧
      { running.officeLink with busyPlace := some busy }.busyPlace ≠ none) ∧
    judgeFrame 0 (chars (frameBytes 0x91 [])) = .valid 0x91 [] ∧ bankWellFormed { kind := 0x91, body := [] } = false ∧
    judgeFrame 0 (chars (frameBytes 0x93 [0, 1])) = .valid 0x93 [0, 1] ∧
    bankWellFormed { kind := 0x93, body := [0, 1] } = true ∧
    ({ running with pfw := true }.pfw = true ∧ 3 < 4 ∧
      (∀ rx ∈ [RxState.hunt, .down], ((running.setLane 3 { Lane.initial with rx := rx }).lane 3).rx ≠ .run) ∧
      State.reset.officeLink.rx ≠ .run ∧ State.reset.payLink.rx ≠ .run) := by decide +kernel

theorem witness_EveryFrameFormedIsJudgedValid :
    ((List.replicate 250 (0 : Byte)).length ≤ 250 ∧ 3 ≤ (List.replicate 250 (0 : Byte)).length ∧
      254 < (List.replicate 250 (0 : Byte)).length + 5) ∧
    (([] : List Byte).length ≤ 250 ∧ 0 ≤ ([] : List Byte).length ∧ 4 < ([] : List Byte).length + 5) := by decide +kernel

/-- An office answer. -/
def someOffice : OfficeAnswer := { tag := 9, kind := 0x46, code := .done, data := [] }
/-- A FILLED slot's payout. -/
def somePayout : Payout :=
  { tag := 902, shop := 37, period := 12, amount := 4771, deadline := 60000, sent := false, expired := false }

theorem witness_TransmittersBeginInTheirOrder :
    let v := { Lane.initial with rx := RxState.run, ready := [.answer, .busy], busyPlace := some someAnswer,
                                 queue := [{ kind := 0x12, body := [], stage := .answered someAnswer }] }
    let w := { v with ready := [.busy] }
    let o := { OfficeLink.initial with ready := [.answer, .busy], answerPlace := some someOffice, busyPlace := some someOffice,
                                       attnPlace := some 7, streamPlace := some [] }
    (mall.pfw = false ∧ v.sending = none ∧ v.rx ≠ .down ∧ v.ready = [.answer, .busy] ∧
      v.readyAnswer .answer = some someAnswer ∧ w.readyAnswer .busy = some someAnswer) ∧
    (o.sending = none ∧ o.ready = [.answer, .busy] ∧ o.answerPlace = some someOffice ∧ o.busyPlace = some someOffice) ∧
    (({ o with ready := [] }).ready = [] ∧ ({ o with ready := [] }).attnPlace = some 7) ∧
    (({ o with ready := [], attnPlace := none }).attnPlace = none ∧ ({ o with ready := [], attnPlace := none }).streamPlace = some []) ∧
    (({ PayLink.initial with place := some { tag := 1, shop := 0, period := 1, amount := 1 } }).sending = none) ∧
    (0 ≤ 3 ∧ { v with rx := RxState.down }.rx = .down ∧ (mall.lane 0).ready = [] ∧
      ((answering 1).lane 0).sending ≠ none ∧ { mall with pfw := true }.pfw = true) := by
  decide +kernel

theorem witness_SentFramesEmptyTheirPlaces :
    let v (r : LaneReady) := { Lane.initial with sending := some { source := r, bytes := [] } }
    let o (r : OfficeSource) : State := { mall with officeLink := { OfficeLink.initial with sending := some { source := r, bytes := [] } } }
    let p : State := { mall.setSlot 15 (.filled somePayout) with plu.payList := [15] }
    ((mall.setLane 3 (v .answer)).lane 3).sending = some { source := .answer, bytes := [] } ∧
    ((mall.setLane 3 (v .busy)).lane 3).sending = some { source := .busy, bytes := [] } ∧
    ((o .answer).officeLink.sending = some { source := .answer, bytes := [] } ∧ (o .answer).sendingRestartAnswer = false) ∧
    (o .busy).officeLink.sending = some { source := .busy, bytes := [] } ∧
    (o .attn).officeLink.sending = some { source := .attn, bytes := [] } ∧
    (o .stream).officeLink.sending = some { source := .stream, bytes := [] } ∧
    { PayLink.initial with sending := some ([] : List Byte) }.sending = some [] ∧
    (p.pfw = false ∧ p.payLink.place = none ∧ p.plu.payList = [15] ∧
      ({ p with plu.slots := [(15, .filled somePayout)] }).slot 15 = .filled somePayout) := by decide +kernel

/-! ### Witnesses: the lane requests -/

theorem witness_AdmissionPassesExactlyTheListedChecks :
    mall.admitCard redeemRule (requestOf 0 (entryOf 0x16 (spendReq 17 51234 10000000 1))) = .pass 37 2 familyCard := by
  decide +kernel

/-- The mall with the ring at the general limit. -/
def full : State := { mall with store.oldestUnack := 4164, journal.nextStream := 4164 }

/-- R181: the append that takes the unacknowledged count from 12,287 to 12,288 raises JOURNAL_HIGH, the one before it does not; a grant that
takes unacknowledged plus reserved to 16,336 raises JOURNAL_FULL. R186: each entry counts for a stream in entries. -/
theorem test_journal_marks :
    let t (unack : Nat) := exec .load (onLane 0x11 (amountReq 17 51234 1)
      { mall with store.oldestUnack := 20500 - unack, journal.streamOn := true, journal.unit := .entries, journal.streamCount := 6 })
    nextHas (t 12287) (fun s => s.attn.pending == 0x20 && s.journal.highHeld && s.journal.streamCount == 7) = true ∧
    nextHas (t 12286) (fun s => s.attn.pending == 0 && !s.journal.highHeld) = true ∧
    nextHas (t 16335) (fun s => s.attn.pending == 0x10 && s.journal.fullHeld) = true ∧
    nextHas (t 16334) (fun s => s.attn.pending == 0 && !s.journal.fullHeld) = true := by decide +kernel

theorem witness_LookupsFollowTheirTables : 31 < 32 ∧ 65535 = 2047 * 32 + 31 ∧ 0 < 32 ∧ 163 = 5 * 32 + 3 := by decide

/-- A lane request has its turn and its first failing check is d. -/
def declines (i : Instr) (kind : Nat) (b : List Byte) (d : LaneResult) (s : State) : Bool :=
  let t := onLane (BitVec.ofNat 8 kind) b s
  decide ((i, kind) ∈ laneCommands) && decide (t.laneWork kind = some (0, entryOf (BitVec.ofNat 8 kind) b)) &&
    decide (firstFailing (laneChecks t 0 kind b) = some d)

theorem witness_TheFirstFailingCheckNamesTheDecline :
    let broken := { familyCard with checkOk := false }
    (declines .redeem 0x16 (spendReq 17 51234 1 2) .badRequest mall ∧ declines .load 0x11 (amountReq 18 51234 1) .unknownTerminal mall ∧
      declines .balance 0x12 (request 17 [(3, 51234), (2, 1234)]) .notOpen { mall with ledger.mode := .config } ∧
      declines .activate 0x10 (amountReq 17 60000 100) .noCard mall ∧
      declines .redeem 0x16 (spendReq 40 51234 6001 0) .insufficient mall ∧
      declines .load 0x11 (amountReq 17 51234 4001) .limit mall ∧ declines .load 0x11 (amountReq 17 51234 10000001) .badAmount mall ∧
      declines .load 0x11 (amountReq 17 51234 1) .journalFull full) ∧
    (declines .redeem 0x16 (spendReq 17 51234 1 0) .recordFault (mall.setCard 51234 broken) ∧
      declines .redeem 0x16 (spendReq 17 51234 1 0) .recordFault { mall with ledger.faults := [51234] } ∧
      declines .capture 0x14 (request 17 [(2, 163), (4, 1)]) .recordFault { held with ledger.faults := List.range 16, store.cards := [(51234, broken)] }) ∧
    (declines .capture 0x14 (request 17 [(2, 163), (4, 4001)]) .badAmount held ∧
      declines .void 0x15 (request 40 [(2, 163)]) .wrongShop held ∧ declines .void 0x15 (request 17 [(2, 164)]) .holdUnknown held ∧
      declines .cashout 0x18 (request 17 [(3, 51234), (2, 1234)]) .holdsFull held) ∧
    (declines .refund 0x17 (request 17 [(4, 20500), (4, 4551)]) .refundExceeds redeemed ∧
      declines .refund 0x17 (request 17 [(4, 20498), (4, 1)]) .refundUnknown redeemed) ∧
    declines .authorize 0x13 (spendReq 17 100 1 0) .cardState mall ∧
    ((onLane 0x77 (request 17 []) mall).badLaneWork = some (0, entryOf 0x77 (request 17 [])) ∧
      (onLane 0x12 (request 17 []) mall).badLaneWork = some (0, entryOf 0x12 (request 17 []))) := by decide +kernel

theorem witness_ACodeMismatchIsCommittedOnce :
    let b := request 17 [(3, 51234), (2, 9999), (4, 1000)]
    let n (failures : Nat) := mall.setCard 51234 { familyCard with failures := failures }
    (declines .load 0x11 b .badCode (n 0) ∧ declines .load 0x11 b .badCode (n 2) ∧ declines .load 0x11 b .badCode (n 3) ∧
      declines .activate 0x10 (request 17 [(3, 100), (2, 0), (4, 1000)]) .badCode mall ∧
      (onLane 0x11 b (n 2)).canReserve .general 1 = true) ∧
    (declines .load 0x11 b .badCode full ∧ (onLane 0x11 b full).canReserve .general 1 = false) := by decide +kernel

theorem witness_SalesLoadTheCard :
    let s (n : Nat) := onLane 0x10 (amountReq 17 100 n) mall
    let holds (n : Nat) : Prop := (s n).laneWork 0x10 = some (0, entryOf 0x10 (amountReq 17 100 n)) ∧
      (s n).admitCard activateRule (requestOf 0 (entryOf 0x10 (amountReq 17 100 n))) = .pass 37 2 stockCard ∧
      ((s n).program 2).activationMin ≤ n ∧ n ≤ ((s n).program 2).loadLimit ∧ (s n).canReserve .general 1 = true ∧
      fieldAt (amountReq 17 100 n) 8 4 = n
    let t := onLane 0x11 (amountReq 17 51234 4000) mall
    (holds 100 ∧ holds 10000) ∧
    (t.laneWork 0x11 = some (0, entryOf 0x11 (amountReq 17 51234 4000)) ∧
      t.admitCard loadRule (requestOf 0 (entryOf 0x11 (amountReq 17 51234 4000))) = .pass 37 2 familyCard ∧
      familyCard.balance + fieldAt (amountReq 17 51234 4000) 8 4 ≤ (t.program 2).loadLimit ∧
      t.canReserve .general 1 = true) := by decide +kernel

theorem witness_BalanceAnswersTheAvailableBalance :
    let b := request 17 [(3, 51234), (2, 1234)]
    (onLane 0x12 b mall).laneWork 0x12 = some (0, entryOf 0x12 b) ∧
      (onLane 0x12 b mall).admitCard balanceRule (requestOf 0 (entryOf 0x12 b)) = .pass 37 2 familyCard := by decide +kernel

theorem witness_RedeemDebitsAndMakesACaptureRecord :
    let s (n part bal : Nat) := onLane 0x16 (spendReq 17 51234 n part) (mall.setCard 51234 { familyCard with balance := bal })
    let holds (n part bal : Nat) : Prop := (s n part bal).laneWork 0x16 = some (0, entryOf 0x16 (spendReq 17 51234 n part)) ∧
      (s n part bal).admitCard redeemRule (requestOf 0 (entryOf 0x16 (spendReq 17 51234 n part))) =
        .pass 37 2 { familyCard with balance := bal } ∧ (s n part bal).canReserve .general 1 = true ∧
      fieldAt (spendReq 17 51234 n part) 8 4 = n ∧ fieldAt (spendReq 17 51234 n part) 12 1 = part
    (holds 6000 0 6000 ∧ 6000 ≤ 6000 - familyCard.held) ∧ (holds 6001 1 6000 ∧ 6000 - familyCard.held < 6001 ∧ 0 < 6000) ∧
      (holds 6001 0 6000 ∧ (0 ≠ 1)) ∧ (holds 1 1 0 ∧ 0 - familyCard.held = 0) := by decide +kernel

theorem witness_CashoutClosesTheCard :
    let b := request 17 [(3, 51234), (2, 1234)]
    (onLane 0x18 b mall).laneWork 0x18 = some (0, entryOf 0x18 b) ∧
      (onLane 0x18 b mall).admitCard cashoutRule (requestOf 0 (entryOf 0x18 b)) = .pass 37 2 familyCard ∧
      familyCard.holdCount = 0 ∧ 0 < familyCard.balance ∧ familyCard.balance ≤ (mall.program 2).ceiling ∧
      (onLane 0x18 b mall).canReserve .general 1 = true := by decide +kernel

theorem witness_AuthorizeOpensAHold :
    let c := { familyCard with held := 1000, holdCount := 1 }
    let s (n part : Nat) := onLane 0x13 (spendReq 17 51234 n part) (mall.setCard 51234 c)
    let holds (n part : Nat) : Prop := (s n part).laneWork 0x13 = some (0, entryOf 0x13 (spendReq 17 51234 n part)) ∧
      (s n part).admitCard redeemRule (requestOf 0 (entryOf 0x13 (spendReq 17 51234 n part))) = .pass 37 2 c ∧
      c.holdCount < ((s n part).program 2).maxHolds ∧ (s n part).freeHoldSlot = some 0 ∧
      (s n part).canReserve .general 1 = true ∧ fieldAt (spendReq 17 51234 n part) 8 4 = n ∧
      fieldAt (spendReq 17 51234 n part) 12 1 = part
    (holds 5000 0 ∧ 5000 ≤ c.balance - c.held) ∧ (holds 5001 1 ∧ c.balance - c.held < 5001 ∧ 0 < c.balance - c.held) := by
  decide +kernel

/-- The hold of the mall's slot 5. -/
def someHold : Hold :=
  { card := 51234, shop := 37, lane := 0, terminal := 17, amount := 4000, rate := 350, deadline := 6800000 }

theorem witness_CaptureEndsTheHoldAndDebits :
    let b := request 17 [(2, 163), (4, 4000)]
    let s := onLane 0x14 b held
    let c := { familyCard with held := 4000, holdCount := 1 }
    s.laneWork 0x14 = some (0, entryOf 0x14 b) ∧ s.admitShop .spend (requestOf 0 (entryOf 0x14 b)) = .ok 37 ∧
      s.resolveHold (fieldAt b 3 2) = .active 5 3 someHold ∧ s.card someHold.card = c ∧ someHold.card ∉ s.ledger.faults ∧
      faulty c (s.rangeProgram someHold.card) = false ∧ c.program = some 2 ∧ 37 = someHold.shop ∧
      0 < fieldAt b 5 4 ∧ fieldAt b 5 4 ≤ 10000000 ∧ fieldAt b 5 4 ≤ someHold.amount ∧ s.canReserve .general 1 = true := by
  decide +kernel

theorem witness_VoidReleasesTheHold :
    let b := request 17 [(2, 163)]
    let s := onLane 0x15 b held
    s.laneWork 0x15 = some (0, entryOf 0x15 b) ∧ s.admitShop .giveBack (requestOf 0 (entryOf 0x15 b)) = .ok 37 ∧
      s.resolveHold (fieldAt b 3 2) = .active 5 3 someHold ∧ someHold.card ∉ s.ledger.faults ∧
      faulty (s.card someHold.card) (s.rangeProgram someHold.card) = false ∧ 37 = someHold.shop ∧
      s.canReserve .general 1 = true := by decide +kernel

theorem witness_RefundCreditsAndChargesTheOriginalShop :
    let b (term : Nat) := request term [(4, 20500), (4, 4550)]
    let s (term : Nat) := onLane 0x17 (b term) { redeemed with ledger.period := 14 }
    let before := redeemed.store.window.take 1
    let rec37 : CaptureRecord :=
      { ref := 20500, card := 51234, shop := 37, program := 2, rate := 350, captured := 4550, refunded := 0, period := 12 }
    let holds (term shop : Nat) : Prop := (s term).laneWork 0x17 = some (0, entryOf 0x17 (b term)) ∧
      (s term).admitShop .giveBack (requestOf 0 (entryOf 0x17 (b term))) = .ok shop ∧
      (s term).store.window = before ++ rec37 :: [] ∧ rec37.ref = fieldAt (b term) 3 4 ∧ (∀ r ∈ before, r.ref ≠ rec37.ref) ∧
      rec37.card < (s term).cap ∧ rec37.card ∉ (s term).ledger.faults ∧
      faulty ((s term).card rec37.card) ((s term).rangeProgram rec37.card) = false ∧ 0 < fieldAt (b term) 7 4 ∧
      fieldAt (b term) 7 4 ≤ 10000000 ∧
      (s term).ledger.period ≤ rec37.period + ((s term).program rec37.program).refundWindow ∧
      (shop = rec37.shop ∨ ((s term).acceptRow (shop / 16)).effectiveXe rec37.program = true) ∧
      ((s term).card rec37.card).state = .active ∧ rec37.refunded + fieldAt (b term) 7 4 ≤ rec37.captured ∧
      ((s term).card rec37.card).balance + fieldAt (b term) 7 4 ≤ 2147483647 ∧ (s term).canReserve .general 1 = true
    holds 17 37 ∧ holds 40 3 := by decide +kernel

theorem witness_DeadlinesExpireHolds :
    let it : ExpiryItem := { slot := 5, gen := 3, deadline := 6800000 }
    let s := { held with expiryQ := [it], time := 6800000 }
    let late := { held with expiryQ := [it], time := 6800000 + 2147483647 }
    let w := { held with waiting := [it] }
    let bad := { w.setCard 51234 { familyCard with checkOk := false } with ledger.faults := List.range 16 }
    let listed := { w with ledger.faults := [51234] }
    let stale := { mall with waiting := [it] }
    (s.expiryQ = [it] ∧ (s.time - it.deadline).toNat < 2147483648 ∧ (late.time - it.deadline).toNat < 2147483648) ∧
    (w.pick = some .expiry ∧ w.waiting = [it] ∧ w.resolveHold (it.slot * 32 + it.gen) = .active 5 3 someHold ∧
      someHold.card ∉ w.ledger.faults ∧ faulty (w.card someHold.card) (w.rangeProgram someHold.card) = false) ∧
    (bad.pick = some .expiry ∧ bad.resolveHold (it.slot * 32 + it.gen) = .active 5 3 someHold ∧
      someHold.card ∉ bad.ledger.faults ∧ faulty (bad.card someHold.card) (bad.rangeProgram someHold.card) = true ∧
      16 ≤ bad.ledger.faults.length ∧ { bad with ledger.faults := List.range 15 }.ledger.faults.length < 16) ∧
    (listed.pick = some .expiry ∧ listed.waiting = [it] ∧
      listed.resolveHold (it.slot * 32 + it.gen) = .active 5 3 someHold ∧ someHold.card ∈ listed.ledger.faults) ∧
    (stale.pick = some .expiry ∧ stale.waiting = [it] ∧ stale.resolveHold (it.slot * 32 + it.gen) = .unknown) ∧
    (mall.expiryQ = [] ∧
      2147483648 ≤ (({ s with time := 6799999 } : State).time - it.deadline).toNat ∧
      2147483648 ≤ (({ s with time := 6800000 + 2147483648 } : State).time - it.deadline).toNat) := by
  decide +kernel

/-- The ring at the general limit. -/
def brim (s : State) : State := { s with store.oldestUnack := 4164, journal.nextStream := 4164 }

/-- The accrual queue full. -/
def stuffed (s : State) : State := { s with settle.accruals := List.replicate 16 (.money (.unclaimed 5) 12 1) }

/-- A sale at a shop at the head of the accrual queue. -/
def sale (s : State) (k : Nat) : State := { s with settle.accruals := [.money (.sold k 5) 12 1] }

/-- One number is left. -/
def oneLeft : State := { mall with store.nextToWrite := 4294967295, store.oldestUnack := 4294967295 }

theorem witness_WorkIsTakenInTheStatedOrder :
    let it : ExpiryItem := { slot := 5, gen := 3, deadline := 6800000 }
    let lanes := { (onLane 0x12 (request 17 []) mall) with ledger.top := 4 }
    let card := asOffice 0x40 (office []) mall
    let due := { mall with settle.wait := 8, settle.unrolled := 1 }
    let acc := { mall with settle.accruals := [.money (.unclaimed 5) 12 1] }
    let ans := { mall with settle.answers := [.done 1 37 12] }
    let vis := { mall with settle.visits := [{ channel := 0, shop := 37, slot := 0 }] }
    let req := asOffice 0x50 (office [(2, 37)]) mall
    (mall.pfw = false ∧ mall.ledger.formatting = false ∧ mall.ledger.closeOutstanding = false) ∧
    ({ held with waiting := [it] }.waiting ≠ [] ∧ { held with waiting := [it] }.canReserve .general 1 = true) ∧
    (lanes.waiting = [] ∧ (lanes.ledger.top + 1) % 5 = 0 ∧ lanes.laneEligible 0 = true ∧
      (∀ m, m < 1 → (lanes.ledger.top + m) % 5 ≤ 3 → lanes.laneEligible ((lanes.ledger.top + m) % 5) = false) ∧
      (∀ m, m < 1 → (lanes.ledger.top + m) % 5 = 4 → lanes.officeEligible = false)) ∧
    (card.waiting = [] ∧ (card.ledger.top + 4) % 5 = 4 ∧ card.officeEligible = true ∧
      (∀ m, m < 4 → card.laneEligible ((card.ledger.top + m) % 5) = false)) ∧
    ((∀ l, l ≤ 3 → mall.laneEligible l = false) ∧ mall.officeEligible = false) ∧
    (mall.ledger.mode ≠ .recovering ∧ 8 ≤ due.settle.wait ∧ due.sweepEligible = true ∧ mall.settle.wait < 8 ∧
      mall.sweepEligible = false) ∧
    (acc.accrualReady = true ∧ ans.accrualReady = false ∧ ans.answerReady = true) ∧
    (vis.accrualReady = false ∧ vis.answerReady = false ∧ vis.settle.visits ≠ [] ∧ vis.requestWaits = false) ∧
    (req.accrualReady = false ∧ req.answerReady = false ∧ req.requestWaits = true ∧ req.settle.visits = []) ∧
    (mall.accrualReady = false ∧ mall.answerReady = false ∧ mall.settle.visits = [] ∧ mall.requestWaits = false) ∧
    ({ mall with pfw := true }.pfw = true ∧ State.reset.ledger.mode = .recovering) ∧
    ((stuffed (onLane 0x12 (request 17 []) mall)).laneEligible 0 = true ∧
       (stuffed (onLane 0x10 (request 17 []) mall)).laneEligible 0 = false ∧
       (stuffed (asOffice 0x4B (office [(3, 51234)]) mall)).officeEligible = false ∧
       (stuffed (brim (asOffice 0x4B (office [(3, 51234)]) mall))).officeEligible = true ∧
       (brim mall).canReserve .general 1 = false ∧ (brim mall).canReserve .whole 48 = true ∧ (brim mall).canReserve .whole 49 = false ∧
       oneLeft.canReserve .general 1 = true ∧ oneLeft.canReserve .general 2 = false ∧ (brim (sale mall 37)).accrualReady = true ∧
       (brim (sale mall 511)).accrualReady = false) := by decide +kernel

/-! ### Witnesses: settlement, channels, payouts -/

theorem witness_TheRollFollowsItsStages :
    let house := rollOf 505 { trading with carry := -22000 } true 1000 13
    let owed := rollOf 37 { shop37 with closing := { shop37.closing with state := .owed, amount := 1 } } false 4772 13
    let gone := rollOf 141 { trading with carry := 1, office := .departed } false 1000 13
    let carried := rollOf 37 shop37 false 4772 13
    let clampedRoll := rollOf 37 { trading with carry := 140737488355327, office := .frozen, bank := { trading.bank with g := 1 } } false 0 13
    (house.entry.net = -22000 ∧ house.shop.closing.state = .house) ∧
      (shop37.office ≠ .frozen ∧ owed.entry.net = 4772 ∧ owed.shop.closing.state = .owed ∧ owed.shop.missed = 1) ∧
      (gone.entry.net = 1 ∧ gone.shop.closing.state = .owed) ∧
      (carried.entry.net = 4771 ∧ carried.shop.closing.state = .carried ∧ carried.shop.carry = carried.entry.net) ∧
      (clampedRoll.entry.net = 140737488355328 ∧ clampedRoll.shop.carry ≠ clampedRoll.entry.net) := by decide +kernel

/-- The mall after the close of period 12: every shop of the store is behind. -/
def closed12 : State :=
  { mall with ledger := { mall.ledger with period := 13 }, settle := { Settle.initial with period := 13, unrolled := 512 },
              store.periodWord := 13 }

theorem witness_TheSweepRollsTheLowestShopBehind :
    let s := { closed12 with settle.cursor := 510 }
    let t := { s with store.shops := [(510, { trading with bank := { trading.bank with period := 13 } })] }
    (t.nextWork = some .sweep ∧ t.settle.cursor ≤ 511 ∧ 511 ≤ 511 ∧ (t.shop 511).bank.period < t.settle.period ∧
      ∀ j, t.settle.cursor ≤ j → j < 511 → t.settle.period ≤ (t.shop j).bank.period) ∧
    (closed12.nextWork = some .sweep ∧ closed12.settle.cursor ≤ 0 ∧ (closed12.shop 0).bank.period < closed12.settle.period ∧
      ∀ j, closed12.settle.cursor ≤ j → j < 0 → closed12.settle.period ≤ (closed12.shop j).bank.period) := by
  refine ⟨⟨by decide +kernel, by decide +kernel, by decide, by decide +kernel, fun j h1 h2 => ?_⟩, by decide +kernel,
    by decide +kernel, by decide +kernel, fun j _ h => absurd h (Nat.not_lt_zero j)⟩
  obtain rfl : j = 510 := by
    have : 510 ≤ j := h1
    omega
  decide +kernel

theorem witness_AccrualsReachTheOpenBank :
    let e : Effect := .redeemed 37 12001 350
    let u : Effect := .unclaimed 9223372036854775807
    let s (e : Effect) := { mall with settle.accruals := [.money e 12 20499] }
    let b := { closed12 with settle.accruals := [.money e 13 20499] }
    let hot := { trading with bank := { trading.bank with g := 140737488343327 } }
    ((s e).nextWork = some .accrual ∧ (s e).settle.accruals = [.money e 12 20499] ∧
      accrues ((s e).shop 37).bank e 37 { trading.bank with g := 12001, q := 4200350 } false ∧
      (s e).settle.period ≤ ((s e).shop 37).bank.period) ∧
    accrues hot.bank e 37 { trading.bank with g := 140737488355327, q := 4200350 } true ∧
    (b.nextWork = some .accrual ∧ b.settle.accruals = [.money e 13 20499] ∧
      accrues (b.rollFor 37).shop.bank e 37 { trading.bank with period := 13, g := 12001, q := 4200350 } false ∧
      (b.shop 37).bank.period < b.settle.period) ∧
    ((s u).nextWork = some .accrual ∧ (s u).settle.accruals = [.money u 12 20499]) := by
  refine ⟨⟨by decide +kernel, rfl, ⟨rfl, by decide +kernel, by decide +kernel⟩, by decide +kernel⟩,
    ⟨rfl, by decide +kernel, by decide +kernel⟩,
    ⟨by decide +kernel, rfl, ⟨rfl, by decide +kernel, by decide +kernel⟩, by decide +kernel⟩, by decide +kernel, rfl⟩

theorem witness_TheCloseIsRefusedOrCommitted :
    (closing.nextWork = some .accrual ∧ closing.settle.accruals = [.close 12] ∧ closing.ledger.closeOutstanding = true ∧
      closing.settle.unrolled = 0 ∧ closing.settle.openPayouts = 0) ∧
    (let s := { closing with settle.unrolled := 1 }
     s.nextWork = some .accrual ∧ s.settle.accruals = [.close 12] ∧ 0 < s.settle.unrolled) ∧
    (let s := { closing with settle.openPayouts := 1 }
     s.nextWork = some .accrual ∧ s.settle.accruals = [.close 12] ∧ s.settle.unrolled = 0 ∧ 0 < s.settle.openPayouts) := by
  decide +kernel

/-- Channels 1 and 3 wait for a slot, slot 0 is taken. -/
def waiting : State :=
  { mall with channels := [(1, { Channel.initial with st := .waitSlot }), (3, { Channel.initial with st := .waitSlot })],
              plu := { PayoutUnit.initial with slots := [(0, .granted 2)], lastGranted := 1 } }

theorem witness_ASlotIsGrantedByPriority :
    let rot := { waiting with store.settings.priority := .rotating }
    (waiting.canReserve .general 2 = true ∧ 1 ≤ 15 ∧ waiting.slot 1 = .free ∧ (∀ j, j < 1 → waiting.slot j ≠ .free) ∧
      (waiting.channel 1).st = .waitSlot ∧ waiting.store.settings.priority = .fixed ∧
      ∀ d, d < 1 → (waiting.channel d).st ≠ .waitSlot) ∧
    (rot.canReserve .general 2 = true ∧ (rot.channel 3).st = .waitSlot ∧ rot.store.settings.priority = .rotating ∧
      3 = (rot.plu.lastGranted + 1 + 1) % 4 ∧
      ∀ m, m < 1 → (rot.channel ((rot.plu.lastGranted + 1 + m) % 4)).st ≠ .waitSlot) ∧
    (full.canReserve .general 2 = false ∧
      (∀ k, k ≤ 15 → { mall with plu.slots := (List.range 16).map fun k => (k, Slot.granted 0) }.slot k ≠ .free) ∧
      ∀ c, c ≤ 3 → (mall.channel c).st ≠ .waitSlot) := by decide +kernel

/-- Channel 0 visits shop 37 in slot 15. -/
def visiting (s : State) : State :=
  { s with channels := [(0, { Channel.initial with st := .running, mask := false, cur := 37, remaining := 0, slot := some 15 })],
           plu.slots := [(15, .granted 0)], settle.visits := [{ channel := 0, shop := 37, slot := 15 }] }

/-- Shop 37 as its roll of period 12 leaves it. -/
def owed37 : ShopRecord :=
  { trading with bank := { trading.bank with period := 13 },
                 closing := { period := 12, net := 4771, commission := 579, state := .owed, amount := 4771, tag := none } }

theorem witness_AVisitClaimsAnOwedBank :
    let v : Visit := { channel := 0, shop := 37, slot := 15 }
    let s := visiting ({ closed12 with settle.unrolled := 0 }.setShop 37 owed37)
    let b := visiting (closed12.setShop 37 shop37)
    let n := visiting mall
    let f := visiting full
    (s.nextWork = some .visit ∧ s.settle.visits = [v] ∧ s.behind v.shop = false ∧ (s.shop v.shop).closing.state = .owed ∧
      s.canReserve .general 2 = true ∧ (s.channel v.channel).remaining = 0) ∧
    (b.nextWork = some .visit ∧ b.behind v.shop = true ∧ (b.rollFor v.shop).shop.closing.state = .owed ∧
      b.canReserve .general 2 = true) ∧
    (n.nextWork = some .visit ∧ n.behind v.shop = false ∧ (n.shop v.shop).closing.state ≠ .owed ∧ n.canReserve .general 2 = true) ∧
    (f.nextWork = some .visit ∧ f.settle.visits = [v] ∧ f.canReserve .general 2 = false) := by decide +kernel

theorem witness_AChannelAdvancesOrReachesTerminalCount :
    let v := { Channel.initial with st := .running, remaining := 1 }
    let z := { v with remaining := 0 }
    (0 < v.remaining ∧ v.maskPending = false ∧ { v with maskPending := true }.maskPending = true) ∧
      (z.remaining = 0 ∧ z.auto = false) ∧
      (let a := { z with auto := true }
       a.auto = true ∧ { a with maskPending := true }.maskPending = true ∧ a.maskPending = false ∧
         { a with passPending := true }.passPending = true ∧ a.passPending = false) := by decide

/-- One bank frame at the head of the queue. -/
def banked (kind : Byte) (body : List Byte) : State := { mall with payLink.queue := [{ kind := kind, body := body }] }

theorem witness_BankFramesAreTakenInOrder :
    let done (shop : Nat) : List Byte := bytesOf 2 902 ++ bytesOf 2 shop ++ bytesOf 2 12
    let back (shop reason : Nat) : List Byte := done shop ++ bytesOf 1 reason
    let head (kind : Byte) (b : List Byte) : Prop :=
      (banked kind b).pfw = false ∧ (banked kind b).ledger.mode ≠ .recovering ∧ (banked kind b).settle.answers = [] ∧
        (banked kind b).payLink.queue = [{ kind := kind, body := b }]
    (({ mall with pfw := true }).pfw = true ∧ State.reset.ledger.mode = .recovering ∧ mall.payLink.queue = [] ∧
      Answer.done 1 2 3 ∈ [Answer.done 1 2 3] ∧ Answer.back 1 2 3 4 ∈ [Answer.deadline 5 6, .back 1 2 3 4] ∧
      ∀ a ∈ [Answer.deadline 5 6], a = .deadline 5 6) ∧
    (head 0x91 (done 511) ∧ fieldAt (done 511) 2 2 ≤ 511) ∧ (head 0x91 (done 512) ∧ 511 < fieldAt (done 512) 2 2) ∧
    (head 0x92 (back 511 1) ∧ fieldAt (back 511 1) 2 2 ≤ 511 ∧ fieldAt (back 511 1) 6 1 ≠ 0) ∧
    (head 0x92 (back 511 0) ∧ fieldAt (back 511 0) 6 1 = 0) ∧ (head 0x92 (back 512 1) ∧ 511 < fieldAt (back 512 1) 2 2) ∧
    (head 0x93 [4, 1] ∧ 3 < fieldAt [4, 1] 0 1) ∧ (head 0x93 [3, 0] ∧ fieldAt [3, 0] 1 1 = 0) ∧
    (head 0x93 [3, 1] ∧ fieldAt [3, 1] 0 1 ≤ 3 ∧ 0 < fieldAt [3, 1] 1 1) := by decide +kernel

/-- Shop 37 EMITTED under tag 902, whose slot 4 is FILLED, with one piece of class 2 work. -/
def emitted (slots : Table Slot) (st : ClosingState) (a : Answer) : State :=
  { mall.setShop 37 { trading with closing := { owed37.closing with state := st, tag := some 902 } } with
    plu := { PayoutUnit.initial with slots := slots }, settle.answers := [a], settle.openPayouts := 1 }

/-- No slot of an empty window holds a tag. -/
theorem none_filled (s : State) (h : s.plu.slots = []) (tag : Nat) : notFilled s tag := by
  intro j q _ hq
  rw [State.slot, h] at hq
  cases hq

/-- Slot 4 is the lowest with tag 902. -/
theorem slot_four (s : State) (h : s.plu.slots = [(4, .filled somePayout)]) : filledFirst s 4 902 somePayout := by
  refine ⟨by decide, by rw [State.slot, h]; rfl, rfl, fun j q hj hq => ?_⟩
  rw [State.slot, h, Table.read, if_neg (by omega)] at hq
  cases hq

theorem witness_AnswersSettleOrReturnThePayout :
    (let win := emitted [(4, .filled somePayout)] .emitted (.done 902 37 12)
    let late := emitted [] .inDoubt (.done 902 37 12)
    let other := emitted [(4, .filled somePayout)] .emitted (.done 902 38 12)
    let stray := emitted [] .settled (.done 902 37 12)
    (win.nextWork = some .answer ∧ win.settle.answers = [.done 902 37 12] ∧ filledFirst win 4 902 somePayout ∧
      somePayout.shop = 37 ∧ somePayout.period = 12 ∧ win.canReserve .whole 1 = true) ∧
    (late.nextWork = some .answer ∧ notFilled late 902 ∧ (late.shop 37).closing.state = .inDoubt ∧
      (late.shop 37).closing.period = 12 ∧ (late.shop 37).closing.tag = some 902 ∧ late.canReserve .whole 1 = true) ∧
    (other.nextWork = some .answer ∧ filledFirst other 4 902 somePayout ∧ somePayout.shop ≠ 38) ∧
    (stray.nextWork = some .answer ∧ notFilled stray 902 ∧ (stray.shop 37).closing.state ≠ .inDoubt)) ∧
    (let win := emitted [(4, .filled somePayout)] .emitted (.back 902 37 12 14)
    let late := emitted [] .inDoubt (.back 902 37 12 255)
    let other := emitted [(4, .filled somePayout)] .emitted (.back 902 37 11 1)
    let stray := emitted [] .settled (.back 902 37 12 1)
    (win.nextWork = some .answer ∧ win.settle.answers = [.back 902 37 12 14] ∧ filledFirst win 4 902 somePayout ∧
      somePayout.shop = 37 ∧ somePayout.period = 12 ∧ win.canReserve .whole 1 = true) ∧
    (late.nextWork = some .answer ∧ notFilled late 902 ∧ (late.shop 37).closing.state = .inDoubt ∧
      (late.shop 37).closing.period = 12 ∧ (late.shop 37).closing.tag = some 902 ∧ late.canReserve .whole 1 = true) ∧
    (other.nextWork = some .answer ∧ filledFirst other 4 902 somePayout ∧ somePayout.period ≠ 11) ∧
    (stray.nextWork = some .answer ∧ notFilled stray 902 ∧ (stray.shop 37).closing.state ≠ .inDoubt)) ∧
    (let blank (a : Answer) := { emitted [] .inDoubt a with store.signature := false }
     (blank (.done 902 37 12)).nextWork = some .answer ∧ (blank (.back 902 37 12 1)).nextWork = some .answer ∧
       (blank (.done 902 37 12)).store.signature = false) :=
  ⟨⟨⟨by decide +kernel, rfl, slot_four _ rfl, rfl, rfl, by decide +kernel⟩,
    ⟨by decide +kernel, none_filled _ rfl _, by decide +kernel, by decide +kernel, by decide +kernel, by decide +kernel⟩,
    ⟨by decide +kernel, slot_four _ rfl, by decide⟩, by decide +kernel, none_filled _ rfl _, by decide +kernel⟩,
    ⟨⟨by decide +kernel, rfl, slot_four _ rfl, rfl, rfl, by decide +kernel⟩,
    ⟨by decide +kernel, none_filled _ rfl _, by decide +kernel, by decide +kernel, by decide +kernel, by decide +kernel⟩,
    ⟨by decide +kernel, slot_four _ rfl, by decide⟩, by decide +kernel, none_filled _ rfl _, by decide +kernel⟩, by decide +kernel, by decide +kernel, rfl⟩

theorem witness_DeadlinesPutPayoutsInDoubt :
    let s (ms : Word) := { emitted [(4, .filled somePayout)] .emitted (.deadline 4 902) with time := ms }
    let gone := emitted [] .settled (.deadline 4 902)
    ((s 60000).pfw = false ∧ (s 60000).slot 4 = .filled somePayout ∧ somePayout.expired = false ∧
      ((s 60000).time - somePayout.deadline).toNat < 2147483648 ∧
      ((s 2147543647).time - somePayout.deadline).toNat < 2147483648) ∧
    ((s 60000).nextWork = some .answer ∧ (s 60000).settle.answers = [.deadline 4 902] ∧ somePayout.tag = 902 ∧
      (s 60000).canReserve .whole 1 = true) ∧
    (gone.nextWork = some .answer ∧ gone.settle.answers = [.deadline 4 902] ∧
      ∀ p, gone.slot 4 = .filled p → p.tag ≠ 902) ∧
    ({ s 60000 with pfw := true }.pfw = true ∧ (s 59999).slot 4 = .filled somePayout ∧
      2147483648 ≤ ((s 59999).time - somePayout.deadline).toNat ∧ 2147483648 ≤ ((s 2147543648).time - somePayout.deadline).toNat ∧
      { somePayout with expired := true }.expired = true) :=
  ⟨by decide +kernel, by decide +kernel, ⟨by decide +kernel, rfl, fun _ h => by cases h⟩, by decide +kernel⟩

/-! ### Witnesses: journal stream, attention, recovery -/

/-- Five PERIOD entries unstreamed, and a stream in entries at its mark. -/
def streaming : State :=
  { mall with store.nextToWrite := 20505, store.ring := ([20504, 20503, 20502, 20501, 20500]).map fun n =>
                { seq := n, time := 0, period := 12, body := .period 11 12 },
              journal := { mall.journal with streamOn := true, unit := .entries, interval := 3, streamCount := 3 } }

theorem witness_AStreamFrameIsFormedAtAMark :
    let e : JournalEntry := { seq := 20500, time := 0, period := 12, body := .period 11 12 }
    (streaming.journal.streamOn = true ∧ streaming.journal.interval ≤ streaming.journal.streamCount ∧ streaming.pfw = false ∧
      streaming.officeLink.streamPlace = none ∧ streaming.journal.nextStream < streaming.nextWrite ∧
      streaming.entry streaming.journal.nextStream = some e) ∧
    { streaming with pfw := true }.pfw = true ∧ { streaming.officeLink with streamPlace := some [e] }.streamPlace ≠ none ∧
    { streaming with journal.nextStream := 20505 }.nextWrite ≤ 20505 := by decide +kernel

theorem witness_AttentionIsChosenByMode :
    let s (mode : AttnModeName) : State :=
      { mall with attn := { pending := 0x82, mask := 0x02, inService := none, mode := mode, lowest := 7 } }
    ((s .fixed).attn.inService = none ∧ (s .fixed).officeLink.attnPlace = none ∧ { s .fixed with pfw := true }.pfw = true) ∧
    ((s .fixed).pfw = false ∧ 7 ≤ 7 ∧ (s .fixed).attn.pending.getLsbD 7 = true ∧ (s .fixed).attn.mask.getLsbD 7 = false ∧
      (s .fixed).attn.mode = .fixed ∧
      ∀ j, j < 7 → (s .fixed).attn.pending.getLsbD j = true → (s .fixed).attn.mask.getLsbD j = true) ∧
    (7 ≤ 7 ∧ 7 = ((s .rotating).attn.lowest + 1 + 7) % 8 ∧ (s .rotating).attn.mode = .rotating ∧
      (s .automaticEnd).attn.mode = .automaticEnd ∧
      ∀ j, j < 7 → (s .rotating).attn.pending.getLsbD (((s .rotating).attn.lowest + 1 + j) % 8) = true →
        (s .rotating).attn.mask.getLsbD (((s .rotating).attn.lowest + 1 + j) % 8) = true) ∧
    ({ s .fixed with attn.inService := some 7 }.attn.inService ≠ none ∧
      { s .fixed with officeLink.attnPlace := some 7 }.officeLink.attnPlace ≠ none ∧
      ∀ n, n ≤ 7 → { s .fixed with attn.mask := 0x82 }.attn.pending.getLsbD n = true →
        { s .fixed with attn.mask := 0x82 }.attn.mask.getLsbD n = true) := by decide +kernel

/-- The mall in recovery, the card pass at a serial. -/
def recovering (n : Nat) : State :=
  { mall with ledger := { mall.ledger with mode := .recovering }, recovery := { Recovery.initial with cardCursor := n } }

/-- The recovery passes run in any such state. -/
theorem recovering_passes (n : Nat) : passes (recovering n) := ⟨rfl, rfl, rfl⟩

theorem witness_TheCardPassReleasesHolds :
    let heldCard := { familyCard with held := 4000, holdCount := 1 }
    let bad := { familyCard with checkOk := false }
    let s (r : CardRecord) (faults : List Nat) : State :=
      { (recovering 51234).setCard 51234 r with ledger.faults := faults }
    (passes (recovering 51234) ∧ (recovering 51234).recovery.cardCursor < (recovering 51234).cap) ∧
    ((recovering 65535).recovery.cardCursor < (recovering 65535).cap) ∧
    (faulty familyCard ((s familyCard []).rangeProgram 51234) = false ∧ familyCard.held = 0 ∧ familyCard.holdCount = 0) ∧
    (faulty heldCard ((s heldCard []).rangeProgram 51234) = false ∧ heldCard.held ≠ 0) ∧
    (faulty bad ((s bad [51234]).rangeProgram 51234) = true ∧ 51234 ∈ (s bad [51234]).ledger.faults) ∧
    (51234 ∉ (s bad []).ledger.faults ∧ (List.range 15).length < 16 ∧ 16 ≤ (s bad (List.range 16)).ledger.faults.length ∧
      51234 ∉ (s bad (List.range 16)).ledger.faults) :=
  ⟨⟨recovering_passes _, by decide⟩, by decide, by decide +kernel, by decide +kernel, by decide +kernel, by decide +kernel⟩

theorem witness_TheRecoveryPassDoubtsEmittedShops :
    let e : ShopRecord := { trading with closing := { owed37.closing with state := .emitted, tag := some 902 } }
    let one := { recovering 0 with store.shops := [(511, e)] }
    let two := { recovering 0 with store.shops := [(0, e), (511, e)] }
    (passes one ∧ 511 ≤ 511 ∧ (one.shop 511).closing.state = .emitted ∧
      (∀ j, j < 511 → (one.shop j).closing.state ≠ .emitted) ∧ one.canReserve .whole 1 = true ∧
      one.recovery.counted = false ∧ ∀ j, j ≤ 511 → j ≠ 511 → (one.shop j).closing.state ≠ .emitted) ∧
    (passes two ∧ (two.shop 0).closing.state = .emitted ∧ two.canReserve .whole 1 = true ∧
      ∃ j, j ≤ 511 ∧ j ≠ 0 ∧ (two.shop j).closing.state = .emitted) :=
  ⟨⟨⟨rfl, rfl, rfl⟩, by decide, by decide, by decide +kernel, by decide +kernel, rfl, by decide +kernel⟩,
    ⟨⟨rfl, rfl, rfl⟩, by decide, by decide +kernel, 511, by decide, by decide, by decide⟩⟩

/-- A recovery that has made its counts, with one unapplied entry. -/
def replaying (body : EntryBody) (s : State) : State :=
  { s with recovery := { Recovery.initial with counted := true }, store.nextToWrite := 20501,
           store.ring := [{ seq := 20500, time := 0, period := s.settle.period, body := body }], store.houseRec.mark := 20499 }

/-- Its entry is the one to replay. -/
theorem replaying_next (body : EntryBody) (s : State) (eff : Effect) (h : effectOfEntry body = some eff) :
    replayNext (replaying body s) { seq := 20500, time := 0, period := s.settle.period, body := body } eff :=
  ⟨[], [], rfl, show (20499 : Nat) < 20500 by decide, h, fun _ hx => absurd hx List.not_mem_nil⟩

theorem witness_AccrualsAreReplayed :
    let body : EntryBody := .redeem 51234 42 37 0 17 2 350 12001
    let eff : Effect := .redeemed 37 12001 350
    let s := replaying body (recovering 0)
    let first := { s with recovery := { Recovery.initial with doubted := 1 } }
    let b := replaying body { recovering 0 with settle := closed12.settle }
    let brim := { b with store.oldestUnack := 4165, journal.nextStream := 4165 }
    let u := replaying (.closeCard 51234 43 600) (recovering 0)
    let e := { owed37 with closing := { owed37.closing with state := .emitted } }
    (passes s ∧ s.recovery.counted = true ∧ (∀ k, k ≤ 511 → (s.shop k).closing.state ≠ .emitted) ∧
      replayNext s { seq := 20500, time := 0, period := 12, body := body } eff ∧
      accrues (s.shop 37).bank eff 37 { trading.bank with g := 12001, q := 4200350 } false ∧
      s.settle.period ≤ (s.shop 37).bank.period) ∧
    (passes first ∧ first.recovery.counted = false ∧ (∀ k, k ≤ 511 → (first.shop k).closing.state ≠ .emitted) ∧
      replayNext first { seq := 20500, time := 0, period := 12, body := body } eff ∧ 0 < first.recovery.doubted) ∧
    (passes b ∧ replayNext b { seq := 20500, time := 0, period := 13, body := body } eff ∧
      accrues (b.rollFor 37).shop.bank eff 37 { trading.bank with period := 13, g := 12001, q := 4200350 } false ∧
      (b.shop 37).bank.period < b.settle.period ∧ b.canReserve .general 1 = true) ∧
    (passes brim ∧ (∀ k, k ≤ 511 → (brim.shop k).closing.state ≠ .emitted) ∧
      replayNext brim { seq := 20500, time := 0, period := 13, body := body } eff ∧ eff.shop = some 37 ∧
      (brim.shop 37).bank.period < brim.settle.period ∧ brim.canReserve .general 1 = false) ∧
    (passes u ∧ replayNext u { seq := 20500, time := 0, period := 12, body := .closeCard 51234 43 600 } (.unclaimed 600)) ∧
    (passes (recovering 0) ∧ passesDone (recovering 0)) ∧
    (511 ≤ 511 ∧ ({ recovering 0 with store.shops := [(511, e)] }.shop 511).closing.state = .emitted) :=
  ⟨⟨⟨rfl, rfl, rfl⟩, rfl, by decide +kernel, replaying_next _ _ _ rfl, ⟨rfl, by decide +kernel, by decide +kernel⟩,
      by decide +kernel⟩,
    ⟨⟨rfl, rfl, rfl⟩, rfl, by decide +kernel, replaying_next _ _ _ rfl, by decide⟩,
    ⟨⟨rfl, rfl, rfl⟩, replaying_next _ _ _ rfl, ⟨rfl, by decide +kernel, by decide +kernel⟩, by decide +kernel,
      by decide +kernel⟩,
    ⟨⟨rfl, rfl, rfl⟩, by decide +kernel, replaying_next _ _ _ rfl, rfl, by decide +kernel, by decide +kernel⟩,
    ⟨⟨rfl, rfl, rfl⟩, replaying_next _ _ _ rfl⟩,
    ⟨⟨rfl, rfl, rfl⟩, by decide +kernel, fun _ h => absurd h List.not_mem_nil⟩, by decide, by decide +kernel⟩

theorem witness_RecoveryEndsWithRestart :
    let s (counted : Bool) := { recovering 65536 with recovery.counted := counted, recovery.doubted := 1 }
    let spend (s : State) := { s with store.nextToWrite := 4294967296, store.oldestUnack := 4294967296 }
    let brim (counted : Bool) := { s counted with store.oldestUnack := 4116 }
    let open511 (s : State) := { s with store.shops := [(511, { trading with closing := { owed37.closing with state := .emitted } })] }
    let body : EntryBody := .redeem 51234 42 37 0 17 2 350 12001
    let behind := replaying body { recovering 0 with settle := closed12.settle }
    let cut := spend { behind with recovery := { Recovery.initial with cardCursor := 65536, doubted := 1 } }
    let cut2 := spend { behind with recovery.cardCursor := 65536 }
    (State.reset.ledger.mode = .recovering ∧ State.reset.pfw = false ∧ State.reset.store.signature = false) ∧
    (∀ c, passes (spend (s c)) ∧ (s c).cap ≤ (s c).recovery.cardCursor ∧ passesDone (spend (s c)) ∧
      4294967296 ≤ (spend (s c)).store.nextToWrite) ∧
    (∀ c, passes (s c) ∧ passesDone (s c) ∧ (s c).canReserve .whole 1 = true) ∧
    (∀ c, passes (brim c) ∧ (brim c).cap ≤ (brim c).recovery.cardCursor ∧ passesDone (brim c) ∧
      16384 ≤ (brim c).unack + (brim c).journal.reserved ∧
      (brim c).store.nextToWrite + (brim c).journal.reserved < 4294967296) ∧
    (let doubtful := open511 (spend (s false))
     passes doubtful ∧ doubtful.cap ≤ doubtful.recovery.cardCursor ∧
      (∃ k, k ≤ 511 ∧ (doubtful.shop k).closing.state = .emitted) ∧ 4294967296 ≤ doubtful.store.nextToWrite) ∧
    (passes cut ∧ cut.cap ≤ cut.recovery.cardCursor ∧ (∀ j, j ≤ 511 → (cut.shop j).closing.state ≠ .emitted) ∧
      replayNext cut { seq := 20500, time := 0, period := 13, body := body } (.redeemed 37 12001 350) ∧
      (Effect.redeemed 37 12001 350).shop = some 37 ∧ (cut.shop 37).bank.period < cut.settle.period ∧
      4294967296 ≤ cut.store.nextToWrite ∧ cut.recovery.counted = false ∧ cut2.recovery.counted = true) ∧
    ((recovering 65535).recovery.cardCursor < (recovering 65535).cap ∧
      (let waits := open511 (s false)
       passes waits ∧ waits.store.nextToWrite + waits.journal.reserved < 4294967296 ∧
         (waits.shop 511).closing.state = .emitted) ∧
      (passes behind ∧ (∀ j, j ≤ 511 → (behind.shop j).closing.state ≠ .emitted) ∧
        replayNext behind { seq := 20500, time := 0, period := 13, body := body } (.redeemed 37 12001 350) ∧
        behind.store.nextToWrite + behind.journal.reserved < 4294967296)) :=
  have done (c : Bool) : passesDone { recovering 65536 with recovery.counted := c, recovery.doubted := 1 } :=
    ⟨by decide +kernel +revert, fun _ h => absurd h List.not_mem_nil⟩
  have next := replaying_next (.redeem 51234 42 37 0 17 2 350 12001) { recovering 0 with settle := closed12.settle } _ rfl
  ⟨by decide, fun c => ⟨⟨rfl, rfl, rfl⟩, by decide +revert, done c, by decide +revert⟩,
    fun c => ⟨⟨rfl, rfl, rfl⟩, done c, by decide +kernel +revert⟩,
    fun c => ⟨⟨rfl, rfl, rfl⟩, by decide +revert, done c, by decide +kernel +revert, by decide +revert⟩,
    ⟨⟨rfl, rfl, rfl⟩, by decide, ⟨511, by decide, by decide +kernel⟩, by decide⟩,
    ⟨⟨rfl, rfl, rfl⟩, by decide, by decide +kernel, next, rfl, by decide +kernel, by decide, rfl, rfl⟩,
    by decide, ⟨⟨rfl, rfl, rfl⟩, by decide, by decide +kernel⟩, ⟨rfl, rfl, rfl⟩, by decide +kernel, next, by decide⟩

/-- Nothing is rolled first without work in hand. -/
theorem nothing_rolls (s : State) (h : s.nextWork = none) (m : s.ledger.mode ≠ .recovering) (k n : Nat) : ¬rollsFirst s k n := by
  rintro (⟨w, _⟩ | ⟨w, _⟩ | ⟨w, _⟩ | ⟨⟨w, _⟩, _⟩)
  · exact absurd (h.symm.trans w) (by simp)
  · exact absurd (h.symm.trans w) (by simp)
  · exact absurd (h.symm.trans w) (by simp)
  · exact m w

theorem witness_TheWarningFallsBetweenWrites :
    let acc := { closed12 with settle.accruals := [.money (.redeemed 37 12001 350) 13 20499] }
    let vis := visiting (closed12.setShop 37 shop37)
    let req (kind : Byte) := asOffice kind (office [(2, 37), (1, 3), (4, 0)]) closed12
    let snap := asOffice 0x51 (office [(2, 37)]) closed12
    let body : EntryBody := .redeem 51234 42 37 0 17 2 350 12001
    let rep := replaying body { recovering 0 with settle := closed12.settle }
    (∀ k n, rollsFirst mall k n → mall.behind k = false ∨ mall.canReserve .general n = false) ∧
    (∀ q ∈ [(acc, 1), (vis, 2), (req 0x52, 1), (snap, 1), (rep, 1)],
      rollsFirst q.1 37 q.2 ∧ (q.1.shop 37).bank.period < q.1.settle.period ∧ q.1.canReserve .general q.2 = true ∧
        (q.1.ledger.mode = .recovering → q.1.recovery.counted = true)) ∧
    (let s := { mall with pfw := true, pending := [.redeem] }
     s.pfw = true ∧ nextHas (step s) (fun t => t.pfw) = true) := by
  refine ⟨fun k n h => absurd h (nothing_rolls _ (by decide +kernel) (by decide) k n), ?_, by decide +kernel⟩
  simp only [List.forall_mem_cons, List.not_mem_nil, false_implies, implies_true, and_true]
  refine ⟨⟨.inl ⟨by decide +kernel, rfl, _, _, _, _, rfl, rfl⟩, by decide +kernel⟩,
    ⟨.inr (.inl ⟨by decide +kernel, rfl, _, _, rfl, rfl⟩), by decide +kernel⟩,
    ⟨.inr (.inr (.inl ⟨by decide +kernel, rfl, by decide, _, by decide +kernel, .inr ⟨rfl, by decide +kernel⟩⟩)), by decide +kernel⟩,
    ⟨.inr (.inr (.inl ⟨by decide +kernel, rfl, by decide, _, by decide +kernel, .inl rfl⟩)), by decide +kernel⟩,
    ⟨.inr (.inr (.inr ⟨⟨rfl, rfl, rfl⟩, rfl, by decide +kernel, _, _, replaying_next _ _ _ rfl, rfl⟩)), by decide +kernel⟩⟩

/-! ### Witnesses: office requests -/

theorem witness_OfficeAnswersEchoTheirRequest :
    let f : Frame := { kind := 0x46, body := office [] }
    let s := asOffice 0x46 (office []) mall
    (s.office.inFlight = some { frame := f, answer := none } ∧ s.officeLink.answerPlace = none ∧ s.officeLink.queue = []) ∧
    { s with office.restartTaken := true }.office.restartTaken = true ∧ { s with pfw := true }.pfw = true ∧
    { s with officeLink.answerPlace := some someOffice }.officeLink.answerPlace = some someOffice ∧
    ({ s with officeLink.queue := [f] }.officeLink.queue = [f] ∧ s.office.restartTaken = false ∧ s.pfw = false) := by decide

theorem witness_LaneUpResynchronisesALane :
    let s (link : Nat) := asOffice 0x61 (office [(1, link)]) mall
    ((s 3).officeBody 0x61 = some (office [(1, 3)]) ∧ fieldAt (office [(1, 3)]) 2 1 ≤ 3) ∧
      ((s 4).officeBody 0x61 = some (office [(1, 4)]) ∧ 3 < fieldAt (office [(1, 4)]) 2 1) := by decide +kernel

/-- An office request with fields is in flight, well-formed, and each listed field has its value. -/
def inFlight (kind : Nat) (fields : List (Nat × Nat)) (values : List (Nat × Nat × Nat)) (s : State) : Bool :=
  decide ((asOffice (BitVec.ofNat 8 kind) (office fields) s).officeBody kind = some (office fields)) &&
    values.all fun v => decide (fieldAt (office fields) v.1 v.2.1 = v.2.2)

theorem witness_TheOfficeUnitAnswersItsOwnRequests :
    (∀ q ∈ [(0, 0), (3, 0), (4, 0), (5, 0), (5, 1), (6, 0), (5, 2), (0, 1)],
      inFlight 0x62 [(1, q.1), (1, q.2)] [(2, 1, q.1), (3, 1, q.2)] mall) ∧
    inFlight 0x46 [] [] mall ∧ inFlight 0x47 [] [] mall ∧
    (inFlight 0x45 [] [] mall ∧ (asOffice 0x45 (office []) mall).office.latch = none ∧
      inFlight 0x45 [] [] { mall with office.latch := some { shop := 37, record := trading, period := 12, time := 0 } }) ∧
    ((asOffice 0x30 (office []) mall).officeRequest = some { kind := 0x30, body := office [] } ∧
      officeWellFormed { kind := 0x30, body := office [] } = false) ∧
    inFlight 0x5E [(1, 255)] [(2, 1, 255)] mall ∧
    ((∀ n ∈ [7, 6, 255, 8], inFlight 0x5F [(1, n)] [(2, 1, n)] { mall with attn.inService := some 7 }) ∧
      inFlight 0x5F [(1, 0)] [(2, 1, 0)] mall ∧ mall.attn.inService = none) ∧
    ((∀ n ∈ [0, 1, 2, 3], inFlight 0x60 [(1, n)] [(2, 1, n)] mall) ∧
      inFlight 0x60 [(1, 2)] [(2, 1, 2)] { mall with attn.inService := some 7 }) := by decide +kernel

theorem witness_JournalRequests :
    let e : JournalEntry := { seq := 20504, time := 0, period := 12, body := .period 11 12 }
    (inFlight 0x5B [(4, 20504)] [(2, 4, 20504)] streaming ∧ streaming.oldest ≤ 20504 ∧ 20504 < streaming.nextWrite ∧
      streaming.entry 20504 = some e) ∧
    (inFlight 0x5B [(4, 20505)] [(2, 4, 20505)] streaming ∧ streaming.nextWrite ≤ 20505 ∧
      inFlight 0x5B [(4, 20499)] [(2, 4, 20499)] streaming ∧ 20499 < streaming.oldest) ∧
    (inFlight 0x5C [(4, 4294967295)] [(2, 4, 4294967295)] streaming ∧ streaming.oldest ≤ min 4294967295 (streaming.nextWrite - 1) ∧
      inFlight 0x5C [(4, 20499)] [(2, 4, 20499)] streaming ∧ min 20499 (streaming.nextWrite - 1) < streaming.oldest) ∧
    (inFlight 0x5D [(1, 0), (1, 0), (2, 0)] [(2, 1, 0), (3, 1, 0), (4, 2, 0)] mall ∧
      inFlight 0x5D [(1, 1), (1, 1), (2, 65535)] [(2, 1, 1), (3, 1, 1), (4, 2, 65535)] mall ∧
      inFlight 0x5D [(1, 1), (1, 2), (2, 1)] [(3, 1, 2)] mall ∧ inFlight 0x5D [(1, 2), (1, 0), (2, 1)] [(2, 1, 2)] mall) := by decide +kernel

theorem witness_TablesAreReadAndWritten :
    mall.store.signature = true ∧
    (∀ q ∈ [(1, 7), (2, 31), (3, 0), (4, 511), (5, 0), (0, 0), (6, 0), (1, 8), (2, 32), (4, 512), (3, 1), (5, 1)],
      inFlight 0x59 [(1, q.1), (2, q.2)] [(2, 1, q.1), (3, 2, q.2)] mall) ∧
    (∀ i ∈ [31, 32], inFlight 0x5A [(1, 2), (2, i), (8, 0)] [(2, 1, 2), (3, 2, i)] mall) ∧
    (∀ i ∈ [0, 1], inFlight 0x5A [(1, 3), (2, i), (2, 512), (2, 513)] [(2, 1, 3), (3, 2, i)] mall) ∧
    (∀ q ∈ [(511, 1, 511, 1), (511, 254, 0, 0), (511, 0, 0, 0), (0, 255, 0, 0), (0, 1, 512, 0), (512, 1, 1, 1)],
      inFlight 0x5A [(1, 4), (2, q.1), (1, q.2.1), (2, q.2.2.1), (1, q.2.2.2)]
        [(2, 1, 4), (3, 2, q.1), (5, 1, q.2.1), (6, 2, q.2.2.1), (8, 1, q.2.2.2)] mall) ∧
    (∀ q ∈ [(0, 0), (0, 1), (0, 2), (1, 0)],
      inFlight 0x5A [(1, 5), (2, q.1), (4, 100001), (2, 4), (1, q.2)] [(2, 1, 5), (3, 2, q.1), (11, 1, q.2)] mall) ∧
    (inFlight 0x5A [(1, 5), (2, 0), (4, 0)] [(2, 1, 5)] mall ∧ inFlight 0x5A [(1, 2), (2, 0), (4, 0)] [(2, 1, 2)] mall ∧
      inFlight 0x5A [(1, 3), (2, 0), (7, 0)] [(2, 1, 3)] mall ∧ inFlight 0x5A [(1, 4), (2, 0), (7, 0)] [(2, 1, 4)] mall) ∧
    (∀ q ∈ [(7, 2), (8, 1)], inFlight 0x5A [(1, 1), (2, q.1), (3, 0), (1, q.2), (4, 0), (4, 0), (2, 0), (4, 0), (1, 0), (1, 0), (4, 0)]
      [(2, 1, 1), (3, 2, q.1), (8, 1, q.2)] mall) ∧
    (inFlight 0x5A [(1, 1), (2, 7), (4, 0)] [(2, 1, 1)] mall ∧ inFlight 0x5A [(1, 4), (2, 511), (1, 1), (2, 0), (1, 2)] [(8, 1, 2)] mall) ∧
    (State.reset.store.signature = false ∧ inFlight 0x59 [(1, 1), (2, 0)] [] State.reset ∧
      ∀ c ∈ [0, 1, 2, 3, 4, 5, 6, 255], inFlight 0x5A [(1, c), (2, 0), (4, 0)] [(2, 1, c)] State.reset &&
        inFlight 0x5A [(1, c), (2, 0), (4, 0)] [(2, 1, c)] mall) := by decide +kernel

/-- The fields of WRITE_TABLE PROGRAM k with a boundary. -/
def programFields (k b : Nat) : List (Nat × Nat) :=
  [(1, 1), (2, k), (3, b), (1, 1), (4, 10000001), (4, 0), (2, 2001), (4, 9), (1, 0), (1, 255), (4, 100001)]

theorem witness_ProgramWritesKeepTheBoundariesInOrder :
    let ok (k b : Nat) (s : State) : Prop := inFlight 0x5A (programFields k b) [(2, 1, 1), (3, 2, k), (5, 3, b), (8, 1, 1)] s ∧
      (office (programFields k b)).length = 29 ∧ s.store.signature = true
    (ok 2 60000 mall ∧ mall.ledger.mode ≠ .config ∧ 60000 = (mall.program 2).boundary) ∧
    (ok 2 60001 mall ∧ 60001 ≠ (mall.program 2).boundary) ∧
    (ok 0 16777215 fresh ∧ ok 7 0 fresh ∧ fresh.ledger.mode = .config ∧ fresh.store.openFlag = false ∧
      (∀ j, j ≤ 7 → ∀ i, i ≤ j → (fresh.program i).boundary ≤ (fresh.program j).boundary) ∧
      (fresh.program 6).boundary ≤ fresh.cap) := by decide +kernel

/-- An office card request is at its turn. -/
def cardAt (kind : Nat) (fields : List (Nat × Nat)) (s : State) : Bool :=
  decide ((asOffice (BitVec.ofNat 8 kind) (office fields) s).cardWork kind = some (office fields))

theorem witness_TheLedgerIsFormattedOpenedAndClosed :
    (cardAt 0x43 [] fresh ∧ fresh.ledger.mode = .config ∧ cardAt 0x43 [] mall ∧ mall.ledger.mode ≠ .config) ∧
    ({ mall with ledger.formatting := true }.ledger.formatting = true ∧ mall.pfw = false) ∧
    (cardAt 0x42 [] fresh ∧ fresh.store.signature = true ∧ fresh.store.periodWord = 0 ∧ fresh.canReserve .general 1 = true ∧
      cardAt 0x42 [] mall) ∧
    (cardAt 0x41 [] mall ∧ mall.settle.accruals.length < 16 ∧ mall.ledger.mode = .opened ∧ mall.ledger.period ≠ 65535 ∧
      mall.settle.unrolled = 0 ∧ mall.canReserve .general 1 = true) ∧
    (cardAt 0x41 [] { mall with ledger.period := 65535 } ∧ cardAt 0x41 [] { mall with settle.unrolled := 1 }) ∧
    (let brim := { mall with store.oldestUnack := 4164, journal.nextStream := 4164 }
     let stuffed := { brim with settle.accruals := List.replicate 16 (.money (.unclaimed 5) 12 1) }
     cardAt 0x41 [] fresh ∧ fresh.ledger.mode ≠ .opened ∧ cardAt 0x41 [] brim ∧ brim.canReserve .general 1 = false ∧
       cardAt 0x41 [] stuffed ∧ 16 ≤ stuffed.settle.accruals.length) ∧
    (let spent := { fresh with store.nextToWrite := 4294967296, store.oldestUnack := 4294967296 }
     cardAt 0x42 [] spent ∧ spent.ledger.mode = .config ∧ spent.store.signature = true ∧ spent.store.periodWord = 0 ∧
       spent.canReserve .general 1 = false) := by decide +kernel

/-- An office card request has its turn, its record is no fault, and its first failing check is the code. -/
def refusesCard (kind : Nat) (fields : List (Nat × Nat)) (code : OfficeCode) (s : State) : Bool :=
  cardAt kind fields s && decide (firstFailing (officeChecks s kind (office fields)) = some code) &&
    (decide (s.ledger.mode ≠ .opened) || (s.lookup (fieldAt (office fields) 2 3)).isNone ||
      readable s (fieldAt (office fields) 2 3) (s.lookup (fieldAt (office fields) 2 3)))

/-- The family card damaged and read in a state; the mall holds it. -/
def damaged (state : CardState) : State := mall.setCard 51234 { familyCard with state := state, checkOk := false }

/-- The fields of REWRITE_CARD of the family card: state, program, balance, code failures. -/
def rewriteFields (state program balance failures : Nat) : List (Nat × Nat) :=
  [(3, 51234), (1, state), (1, 0), (1, program), (4, balance), (2, 9999), (1, failures), (2, 37), (2, 12), (2, 12), (3, 41)]

theorem witness_TheOfficeServesCards :
    let s (r : CardRecord) := mall.setCard 51234 r
    let sound (r : CardRecord) : Bool := decide ((s r).ledger.mode = .opened) && decide ((s r).lookup 51234 = some 2) &&
      decide (51234 ∉ (s r).ledger.faults) && decide ((s r).card 51234 = r) && !faulty r (some 2) && (s r).canReserve .general 1
    let susp := { familyCard with state := .suspended, suspend := some .office }
    let lock := { susp with suspend := some .lockout }
    let rich := { familyCard with balance := 2137483647 }
    (cardAt 0x4C [(3, 51234), (2, 9999)] (s CardRecord.blank) ∧ sound CardRecord.blank) ∧
    (cardAt 0x49 [(3, 51234)] mall ∧ sound familyCard ∧ sound susp ∧ sound lock) ∧
    (cardAt 0x4A [(3, 51234)] mall ∧ sound { stockCard with failures := 3 }) ∧
    (cardAt 0x4B [(3, 51234)] mall ∧ mall.settle.accruals.length < 16 ∧ familyCard.holdCount = 0 ∧ sound stockCard) ∧
    (cardAt 0x4D [(3, 51234), (1, 0), (4, 10000000)] (s rich) ∧ sound rich ∧ rich.balance + 10000000 ≤ 2147483647 ∧
      cardAt 0x4D [(3, 51234), (1, 1), (4, 6000)] mall ∧ 6000 ≤ familyCard.balance - familyCard.held) ∧
    (cardAt 0x40 [] mall ∧ cardAt 0x40 [] fresh) ∧
    (cardAt 0x48 [(3, 51234)] mall ∧ mall.lookup 51234 = some 2 ∧
      faulty ((s { familyCard with checkOk := false }).card 51234) (some 2) = true ∧
      faulty ((s { familyCard with program := some 3 }).card 51234) (some 2) = true ∧
      51234 ∉ List.range 16 ∧ (List.range 15).length < 16 ∧ 16 ≤ (List.range 16).length) := by decide +kernel

theorem witness_TheOfficeServesCards_refusals :
    let card := [(3, 51234)]
    let susp := mall.setCard 51234 { familyCard with state := .suspended, suspend := some .office }
    (∀ q ∈ [(0x40, []), (0x48, card), (0x49, card), (0x4A, card), (0x4B, card), (0x4C, [(3, 51234), (2, 9999)]),
        (0x4D, [(3, 51234), (1, 0), (4, 1)]), (0x4E, rewriteFields 2 2 6000 0)],
      refusesCard q.1 q.2 .wrongState { mall with ledger.mode := .recovering }) ∧
    refusesCard 0x48 [(3, 262144)] .badValue mall ∧ refusesCard 0x49 [(3, 65536)] .badValue mall ∧
    (refusesCard 0x49 card .wrongState (mall.setCard 51234 stockCard) ∧ refusesCard 0x49 card .journalFull (brim mall) ∧
      firstFailing (officeChecks (brim susp) 0x49 (office card)) = none) ∧
    (refusesCard 0x4A card .wrongState (mall.setCard 51234 { stockCard with failures := 2 }) ∧
      refusesCard 0x4A card .journalFull (brim susp)) ∧
    (refusesCard 0x4B card .journalFull (stuffed (brim mall)) ∧ refusesCard 0x4B card .wrongState (mall.setCard 51234 CardRecord.blank) ∧
      refusesCard 0x4B card .holdsOpen held ∧ refusesCard 0x4B card .journalFull (brim mall)) ∧
    (refusesCard 0x4C [(3, 51234), (2, 10000)] .badValue mall ∧ refusesCard 0x4C [(3, 51234), (2, 9999)] .wrongState mall ∧
      refusesCard 0x4C [(3, 51234), (2, 9999)] .journalFull (brim (mall.setCard 51234 CardRecord.blank))) ∧
    (refusesCard 0x4D [(3, 51234), (1, 2), (4, 1)] .badValue mall ∧ refusesCard 0x4D [(3, 51234), (1, 0), (4, 0)] .badValue mall ∧
      refusesCard 0x4D [(3, 51234), (1, 1), (4, 10000001)] .badValue mall ∧
      refusesCard 0x4D [(3, 51234), (1, 0), (4, 1)] .wrongState (mall.setCard 51234 stockCard) ∧
      refusesCard 0x4D [(3, 51234), (1, 0), (4, 1)] .badValue (mall.setCard 51234 { familyCard with balance := 2147483647 }) ∧
      refusesCard 0x4D [(3, 51234), (1, 1), (4, 6001)] .insufficient mall ∧
      refusesCard 0x4D [(3, 51234), (1, 1), (4, 6000)] .journalFull (brim mall)) ∧
    (∀ q ∈ [(0x49, card), (0x4A, card), (0x4B, card), (0x4C, [(3, 51234), (2, 9999)]), (0x4D, [(3, 51234), (1, 0), (4, 1)])],
      cardAt q.1 q.2 mall ∧ q.1 ∈ [0x49, 0x4A, 0x4B, 0x4C, 0x4D] ∧ mall.settle.accruals.length < 16 ∧ mall.lookup 51234 = some 2 ∧
        fieldAt (office q.2) 2 3 = 51234 ∧ readable { mall with ledger.faults := [51234] } 51234 (some 2) = false ∧
        readable (damaged .active) 51234 (some 2) = false) := by decide +kernel

/-- R42: a record that reads CLOSED is written CLOSED and in no other state. -/
theorem test_rewrite_keeps_closed :
    let t (state balance : Nat) := after .rewriteCard (asOffice 0x4E (office (rewriteFields state 2 balance 0)) (damaged .closed))
    ((t 2 6000).officeLink.answerPlace.map (·.code) = some .wrongState ∧ (t 2 6000).card 51234 = (damaged .closed).card 51234) ∧
    ((t 4 0).officeLink.answerPlace.map (·.code) = some .done ∧ ((t 4 0).card 51234).state = .closed) := by decide +kernel

theorem witness_RewriteRepairsAFaultedRecord :
    let blankFields := [(3, 51234), (1, 0), (1, 0), (1, 255), (4, 0), (2, 65535), (1, 0), (2, 65535), (2, 0), (2, 0), (3, 41)]
    let record (state : CardState) (balance failures : Nat) : CardRecord :=
      { familyCard with state := state, balance := balance, code := some 9999, failures := failures, issuing := some 37,
                        activation := some 12, lastUse := some 12 }
    let at' (fields : List (Nat × Nat)) (s : State) : Bool := cardAt 0x4E fields s && decide (s.ledger.mode = .opened) &&
      decide (s.lookup 51234 = some 2) && faulty (s.card 51234) (some 2) && decide (51234 ∉ s.ledger.faults)
    let active := damaged .active
    let closed := damaged .closed
    let brim (s : State) : State := { s with store.oldestUnack := 4164, journal.nextStream := 4164 }
    let supplies (state balance failures : Nat) (st : CardState) : Prop :=
      rewriteOfBody (office (rewriteFields state 2 balance failures)) = some (record st balance failures) ∧
        suppliedSound (record st balance failures) 2
    (at' (rewriteFields 2 2 2147483647 3) active ∧ supplies 2 2147483647 3 .active ∧
      ¬ leavesClosed (active.card 51234) (record .active 2147483647 3) ∧ active.hasOpenHold 51234 = false ∧
      active.canReserve .general 1 = true) ∧
    (at' blankFields active ∧ rewriteOfBody (office blankFields) = some { CardRecord.blank with seq := 41 } ∧
      suppliedSound { CardRecord.blank with seq := 41 } 2) ∧
    (at' (rewriteFields 4 2 0 3) closed ∧ supplies 4 0 3 .closed ∧ ¬ leavesClosed (closed.card 51234) (record .closed 0 3) ∧
      closed.canReserve .general 1 = true) ∧
    (cardAt 0x4E (rewriteFields 2 2 6000 0) { mall with ledger.faults := [51234] } ∧
      51234 ∈ { mall with ledger.faults := [51234] }.ledger.faults) ∧
    (let withHold := held.setCard 51234 { held.card 51234 with checkOk := false }
     at' (rewriteFields 2 2 6000 0) withHold ∧ withHold.hasOpenHold 51234 = true) ∧
    (at' (rewriteFields 2 2 6000 4) active ∧ at' (rewriteFields 5 2 6000 0) active ∧
      (∀ r, rewriteOfBody (office (rewriteFields 2 2 6000 4)) = some r → ¬ suppliedSound r 2) ∧
      rewriteOfBody (office (rewriteFields 5 2 6000 0)) = none) ∧
    (at' (rewriteFields 2 2 6000 0) closed ∧ supplies 2 6000 0 .active ∧ leavesClosed (closed.card 51234) (record .active 6000 0)) ∧
    (at' (rewriteFields 2 2 6000 0) (brim active) ∧ (brim active).canReserve .general 1 = false ∧
      ¬ leavesClosed ((brim active).card 51234) (record .active 6000 0)) ∧
    (cardAt 0x4E (rewriteFields 2 2 6000 0) mall ∧ 51234 ∉ mall.ledger.faults ∧
      faulty (mall.card 51234) (some 2) = false) := by
  simp only [suppliedSound, leavesClosed]
  refine ⟨?_, ?_, ?_, ?_, ?_, ⟨?_, ?_, fun r h => ?_, ?_⟩, ?_, ?_, ?_⟩ <;> (try cases h) <;> decide +kernel

/-- An office shop request is at its turn. -/
def shopAt (kind : Nat) (fields : List (Nat × Nat)) (s : State) : Bool :=
  let t := asOffice (BitVec.ofNat 8 kind) (office fields) s
  decide (t.officeBody kind = some (office fields)) && decide (t.nextWork = some .request) && t.store.signature

/-- R111, R173: a RESOLVE SETTLED that saturates the settled total sets the house flag and raises SETTLE_FAULT. -/
theorem test_resolve_saturates_house :
    let s := mall.setShop 37 { trading with closing := { owed37.closing with state := .inDoubt, tag := some 902 } }
    let t := after .resolve (asOffice 0x53 (office [(2, 37), (1, 0)])
      { s with store.houseRec := { s.store.houseRec with settled := 9223372036854775807 } })
    t.store.houseRec.sat = true ∧ t.store.houseRec.settled = 9223372036854775807 ∧
      (t.shop 37).closing.state = .settled ∧ t.attn.pending = 2 := by
  decide +kernel

/-- R126, R173: a RESOLVE that saturates the carry sets the flag, freezes the shop and raises SETTLE_FAULT, not PAYOUT_RETURNED. -/
theorem test_resolve_saturates :
    let s := mall.setShop 37 { trading with carry := 140737488355327, closing := { owed37.closing with state := .inDoubt, tag := some 902 } }
    let t := after .resolve (asOffice 0x53 (office [(2, 37), (1, 1)]) s)
    (t.shop 37).sat = true ∧ (t.shop 37).office = .frozen ∧ (t.shop 37).carry = 140737488355327 ∧ t.attn.pending = 2 := by
  decide +kernel

theorem witness_TheOfficeServesShops :
    let fields := [(2, 511), (1, 3), (4, 10000001)]
    let doubt := mall.setShop 37 { trading with closing := { owed37.closing with state := .inDoubt, tag := some 902 } }
    let fullBehind := { closed12 with store.oldestUnack := 4164, journal.nextStream := 4164 }
    (shopAt 0x52 fields mall ∧ OfficeState.ofCode 3 = some .departed ∧ mall.behind 37 = false ∧
      shopAt 0x52 fields closed12 ∧ closed12.behind 511 = true ∧ closed12.canReserve .general 1 = true ∧
      shopAt 0x52 fields fullBehind ∧ fullBehind.behind 511 = true ∧ fullBehind.canReserve .general 1 = false) ∧
    shopAt 0x50 [(2, 511)] mall ∧
    (shopAt 0x51 [(2, 37)] mall ∧ mall.office.latch = none ∧ shopAt 0x51 [(2, 511)] closed12) ∧
    shopAt 0x44 [] mall ∧
    (shopAt 0x53 [(2, 37), (1, 0)] doubt ∧ shopAt 0x53 [(2, 37), (1, 1)] doubt ∧ (doubt.shop 37).closing.state = .inDoubt ∧
      doubt.canReserve .general 1 = true ∧ shopAt 0x53 [(2, 37), (1, 1)] mall ∧ (mall.shop 37).closing.state ≠ .inDoubt) ∧
    (shopAt 0x52 [(2, 512), (1, 0), (4, 0)] mall ∧ shopAt 0x52 [(2, 0), (1, 4), (4, 0)] mall ∧ shopAt 0x50 [(2, 512)] mall ∧
      shopAt 0x51 [(2, 512)] mall ∧ shopAt 0x51 [(2, 511)] fullBehind ∧ shopAt 0x53 [(2, 512), (1, 0)] doubt ∧
      shopAt 0x53 [(2, 37), (1, 2)] doubt) ∧
    (let brim := { doubt with store.oldestUnack := 4164, journal.nextStream := 4164 }
     shopAt 0x53 [(2, 37), (1, 1)] brim ∧ (brim.shop 37).closing.state = .inDoubt ∧ brim.canReserve .general 1 = false) ∧
    (let latched := { mall with office.latch := some { shop := 37, record := trading, period := 12, time := 0 } }
     inFlight 0x51 [(2, 37)] [] latched ∧ latched.office.latch ≠ none) ∧
    (let blank := { mall with store.signature := false }
     blank.office.latch = none ∧ ∀ q ∈ [(0x52, fields), (0x50, [(2, 37)]), (0x44, []), (0x53, [(2, 37), (1, 0)]), (0x51, [(2, 37)])],
       inFlight q.1 q.2 [] blank ∧
         (asOffice (BitVec.ofNat 8 q.1) (office q.2) blank).nextWork = some .request) ∧
    (∀ q ∈ [(0x52, fields), (0x50, [(2, 37)]), (0x44, []), (0x53, [(2, 37), (1, 0)]), (0x51, [(2, 37)])],
      inFlight q.1 q.2 [] (recovering 0)) := by decide +kernel

theorem witness_TheOfficeServesChannels :
    let st (x : ChannelState) (p : Bool) := mall.setChannel 3 { Channel.initial with st := x, maskPending := p }
    (∀ q ∈ [(0, 0), (1, 2)], inFlight 0x54 [(1, 3), (2, 512), (2, 512), (1, q.1), (1, q.2), (1, 1)]
      [(2, 1, 3), (7, 1, q.1), (8, 1, q.2), (9, 1, 1)] mall) ∧
    (inFlight 0x55 [(1, 3)] [(2, 1, 3)] mall ∧ mall.ledger.mode ≠ .recovering ∧ (mall.channel 3).st = .idle ∧
      inFlight 0x55 [(1, 3)] [] (st .running false)) ∧
    (inFlight 0x56 [(1, 3)] [] (st .waitStep false) ∧ ((st .waitStep false).channel 3).st = .waitStep ∧ inFlight 0x56 [(1, 0)] [] mall) ∧
    (inFlight 0x58 [(1, 3), (1, 0)] [(2, 1, 3), (3, 1, 0)] mall ∧ inFlight 0x58 [(1, 3), (1, 1)] [(3, 1, 1)] mall ∧
      (∀ x ∈ [ChannelState.waitClose, .waitSlot, .waitStep, .waitPull, .running, .done],
        ((st x true).channel 3).st = x ∧ ((st x true).channel 3).maskPending = true)) ∧
    (inFlight 0x58 [(1, 3), (1, 1)] [] (st .running false) ∧ ((st .running false).channel 3).maskPending = false) ∧
    (inFlight 0x57 [(1, 3)] [(2, 1, 3)] mall ∧ inFlight 0x57 [(1, 4)] [(2, 1, 4)] mall) ∧
    (inFlight 0x54 [(1, 0), (2, 0), (2, 0), (1, 0), (1, 0), (1, 0)] [] State.reset ∧ State.reset.store.signature = false ∧
      ∀ q ∈ [(4, 0, 0, 0), (3, 2, 0, 0), (3, 0, 3, 0), (3, 0, 0, 2)],
        inFlight 0x54 [(1, q.1), (2, 0), (2, 0), (1, q.2.1), (1, q.2.2.1), (1, q.2.2.2)]
          [(2, 1, q.1), (7, 1, q.2.1), (8, 1, q.2.2.1), (9, 1, q.2.2.2)] mall) ∧
    (inFlight 0x55 [(1, 4)] [(2, 1, 4)] mall ∧ inFlight 0x56 [(1, 4)] [(2, 1, 4)] mall ∧
      ∀ q ∈ [(4, 0), (4, 1), (3, 2)], inFlight 0x58 [(1, q.1), (1, q.2)] [(2, 1, q.1), (3, 1, q.2)] mall) ∧
    ((recovering 0).ledger.mode = .recovering ∧ inFlight 0x55 [(1, 0)] [] (recovering 0) ∧ inFlight 0x56 [(1, 0)] [] (recovering 0) ∧
      inFlight 0x58 [(1, 0), (1, 0)] [(3, 1, 0)] (recovering 0) ∧ inFlight 0x58 [(1, 0), (1, 1)] [(3, 1, 1)] (recovering 0)) := by decide +kernel

/-! ### Witnesses: invariants -/

/-- The mall with a redemption at the front of the queue. -/
def spending : State := { onLane 0x16 (spendReq 17 51234 4550 0) mall with pending := [.redeem] }

theorem witness_EveryStepKeepsTheJournalSound : spending.journalSound ∧ ∃ t, step spending = .next t :=
  ⟨⟨fun _ => by decide, by decide, by decide, by decide⟩, _, rfl⟩

theorem witness_EveryStepKeepsTablesAndQueues :
    spending.tablesSound ∧ spending.withinCapacity ∧ ∃ t, step spending = .next t := by
  refine ⟨by unfold State.tablesSound; decide +kernel, ⟨fun l => ?_, by decide, by decide, by decide, by decide, by decide,
    by decide, by decide⟩, _, rfl⟩
  by_cases h : l = 0
  · subst h; decide
  · have : spending.lane l = Lane.initial := by
      rw [State.lane, show spending.lanes = [(0, { Lane.initial with rx := .run, queue := [entryOf 0x16 (spendReq 17 51234 4550 0)] })]
        from by decide +kernel, Table.read, if_neg h]; rfl
    rw [this]; decide

/-- Two cards, the second with its one open hold, and the capture of that hold at the front of the queue. -/
def purse : State :=
  let c : CardRecord := { familyCard with program := some 0, held := 4000, holdCount := 1 }
  let h : HoldSlot := { gen := 3, memory := none, hold := some { someHold with card := 1 } }
  onLane 0x14 (request 17 [(2, 163), (4, 3800)])
    { mall with cap := 2, store.programs := [(0, { family with boundary := 2 })], store.accept := [(2, { re := 1, le := 1, xe := 0 })],
                store.cards := [(1, c)], holds := [(5, h)], expiryQ := [{ slot := 5, gen := 3, deadline := 6800000 }],
                pending := [.capture] }

/-- Its one taken slot. -/
theorem purse_slot (j : Nat) :
    purse.holdSlot j =
      if j = 5 then { gen := 3, memory := none, hold := some { someHold with card := 1 } } else HoldSlot.initial := rfl

/-- The slots of its cards. -/
theorem purse_slotsOf (k : Nat) : purse.slotsOf k = if k = 1 then {5} else ∅ := by
  ext j
  simp only [State.slotsOf, Finset.mem_filter, Finset.mem_range, purse_slot]
  by_cases hj : j = 5 <;> by_cases hk : k = 1 <;> simp [hj, hk, HoldSlot.initial]
  exact fun h => hk h.symm

theorem witness_EveryStepKeepsTheCardsSound :
    purse.cardsSound ∧ (∀ c rest, purse.pending = .powerOnReset c :: rest → c.cards = purse.cap) ∧
      ∃ t, step purse = .next t := by
  refine ⟨⟨by unfold State.modeSound; decide +kernel, ⟨fun j => ?_, fun j h e => ?_, by decide +kernel, ?_, fun j h e => ?_, by decide⟩,
    ⟨by decide, by decide +kernel, by decide +kernel, by decide +kernel, by decide +kernel, ?_⟩, ⟨?_, ?_⟩⟩, ?_, _, rfl⟩
  · rw [purse_slot]; split <;> decide
  · rw [purse_slot] at e
    split at e <;> cases e
    subst_vars; decide
  · intro it h
    obtain rfl : it = { slot := 5, gen := 3, deadline := 6800000 } := List.mem_singleton.mp h
    exact ⟨_, rfl, rfl, rfl⟩
  · rw [purse_slot] at e
    split at e <;> cases e
    subst_vars
    exact ⟨{ slot := 5, gen := 3, deadline := 6800000 }, by decide +kernel, rfl⟩
  · intro _
    unfold State.cardSound
    decide +kernel
  · intro _ k hk _ _
    have : k = 0 ∨ k = 1 := by have : k < 2 := hk; omega
    obtain rfl | rfl := this
    · rw [State.heldOn, purse_slotsOf]; decide +kernel
    · rw [State.heldOn, purse_slotsOf]; decide +kernel
  · intro h; cases h
  · intro c rest h; cases h

/-- Shop 3 EMITTED and its slot FILLED, shop 37 OWED and to be visited next, the other 510 shops behind. -/
def payday : State :=
  { mall with
    ledger := { mall.ledger with period := 13 }, store.periodWord := 13, store.nextTag := 903,
    store.shops := [(3, { owed37 with closing := { owed37.closing with state := .emitted, tag := some 902 } }), (37, owed37)],
    settle := { Settle.initial with period := 13, unrolled := 510, openPayouts := 1, visits := [{ channel := 0, shop := 37, slot := 15 }] },
    channels := [(0, { Channel.initial with st := .running, mask := false, cur := 37, remaining := 474, slot := some 15 })],
    plu := { PayoutUnit.initial with slots := [(4, .filled { somePayout with shop := 3 }), (15, .granted 0)], payList := [4] },
    pending := [.channelVisit] }

/-- Its two taken slots. -/
theorem payday_slot (j : Nat) :
    payday.slot j = if j = 4 then .filled { somePayout with shop := 3 } else if j = 15 then .granted 0 else .free := rfl

theorem witness_EveryStepKeepsTheSettlementSound :
    payday.journalSound ∧ payday.settlementSound ∧ ∃ t, step payday = .next t := by
  have filled : ∀ j p, payday.slot j = .filled p → j = 4 ∧ p = { somePayout with shop := 3 } := by
    intro j p e
    rw [payday_slot] at e
    split at e
    · cases e; exact ⟨‹_›, rfl⟩
    · split at e <;> cases e
  refine ⟨⟨fun _ => by decide, by decide, by decide, by decide⟩,
    ⟨by unfold State.modeSound; decide +kernel, ⟨by decide +kernel, (fun _ _ e => by cases e), fun _ h => absurd h List.not_mem_nil,
      (fun _ _ _ h => absurd h List.not_mem_nil), fun _ h => absurd h List.not_mem_nil, (fun _ _ _ h => absurd h List.not_mem_nil),
      (fun _ _ _ _ h => absurd h List.not_mem_nil)⟩, ⟨by decide +kernel, fun _ => ?_⟩, fun _ _ => ?_, ⟨?_, ?_, ?_⟩, ?_⟩, _, rfl⟩
  · exact ⟨rfl, rfl, by decide +kernel, fun k h => absurd h (Nat.not_lt_zero k), by decide +kernel, by decide, by decide⟩
  · exact ⟨by decide +kernel, by decide +kernel, fun h => absurd rfl h⟩
  · intro j p e
    obtain ⟨rfl, rfl⟩ := filled j p e
    decide +kernel
  · intro i j p q hp hq _
    rw [(filled i p hp).1, (filled j q hq).1]
  · intro _ k hk e
    have : ∀ k, k ≤ 511 → (payday.shop k).closing.state = .emitted → k = 3 := by decide +kernel
    exact ⟨4, _, rfl, (this k hk e).symm⟩
  · refine ⟨by decide, by decide, by decide +kernel, fun j c e => ?_, by decide +kernel, ?_⟩
    · rw [payday_slot] at e
      split at e
      · cases e
      · split at e <;> cases e
        exact ⟨_, List.mem_singleton.mpr rfl, Eq.symm ‹_›, rfl⟩
    · intro c hc
      obtain rfl | rfl | rfl | rfl : c = 0 ∨ c = 1 ∨ c = 2 ∨ c = 3 := by omega
      all_goals exact ⟨⟨by decide, by show _ ≤ _; decide⟩, by decide, by show _ ≤ _; decide⟩

end Sys2Proof.Tests
end

section
/-! PROOFS. Links and frames (chapter 1): LANE_UP (R8). -/

namespace Sys2Proof.Machine

/-! ### An office request served by its block (R187) -/

/-- A well-formed request of the named kind in flight is served by its block. -/
theorem officeStep_of_officeBody {s : State} {kind : Nat} {b : List Byte} (serve : List Byte → State → State)
    (hb : s.officeBody kind = some b) : officeStep kind serve s = serve b s := by
  simp only [officeStep, hb]

/-! ### LANE_UP (R8) -/

/-- The lane's receiver resynchronised: HUNT, no consecutive errors, and every other field of the lane as it was. -/
theorem serveLaneUp_of_le {b : List Byte} (hl : fieldAt b 2 1 ≤ 3) (s : State) :
    serveLaneUp b s =
      (s.setLane (fieldAt b 2 1) { s.lane (fieldAt b 2 1) with rx := .hunt, consecutive := 0 }).done [] :=
  if_neg (Nat.not_lt.mpr hl)

theorem serveLaneUp_of_lt {b : List Byte} (hl : 3 < fieldAt b 2 1) (s : State) : serveLaneUp b s = s.refuse .badValue :=
  if_pos hl

/-- LANE_UP looks at the request in flight alone: neither the receiver's state nor the ledger's guards it. -/
theorem exec_laneUp_of_officeBody {s : State} {b : List Byte} (hb : s.officeBody 0x61 = some b) :
    exec .laneUp s = .next (serveLaneUp b s) :=
  congrArg Host.Outcome.next (officeStep_of_officeBody serveLaneUp hb)

/-- Settles O46: the request in flight reaches `serveLaneUp`, whose two branches are the two clauses. -/
theorem laneUpResynchronisesALane : Obligations.LaneUpResynchronisesALane := by
  intro s b hb
  rw [exec_laneUp_of_officeBody hb]
  constructor
  · intro hlane
    rw [serveLaneUp_of_le hlane]
  · intro hother
    rw [serveLaneUp_of_lt hother]

end Sys2Proof.Machine
end

section
/-! PROOFS. Settlement arithmetic (chapter 6): the division of a roll (R120). -/

namespace Sys2Proof.Machine

/-! ### The commission and the remainder (R120)

The divisor is positive, so the division toward minus infinity is the Euclidean one and the remainder is its remainder. -/

theorem commissionOf_eq_ediv (t : Int) : commissionOf t = t / 10000 :=
  Int.fdiv_eq_ediv_of_nonneg t (by decide)

theorem remainderOf_eq_emod (t : Int) : remainderOf t = t % 10000 := by
  rw [remainderOf, commissionOf_eq_ediv, Int.emod_def]

theorem commissionOf_add_remainderOf (t : Int) : 10000 * commissionOf t + remainderOf t = t :=
  add_sub_cancel _ _

theorem remainderOf_nonneg (t : Int) : 0 ≤ remainderOf t := by
  rw [remainderOf_eq_emod]
  exact Int.emod_nonneg t (by decide)

theorem remainderOf_le (t : Int) : remainderOf t ≤ 9999 := by
  rw [remainderOf_eq_emod]
  exact Int.le_of_lt_add_one (Int.emod_lt_of_pos t (by decide))

/-- Rounding toward minus infinity: K is the greatest whole number of cents that T covers. -/
theorem le_commissionOf_iff (m t : Int) : m ≤ commissionOf t ↔ 10000 * m ≤ t := by
  rw [commissionOf_eq_ediv, Int.le_ediv_iff_mul_le (by decide), mul_comm]

/-! ### What a roll writes of them -/

section
variable (k : Nat) (r : ShopRecord) (house : Bool) (payoutMin now : Nat)

theorem rollOf_entry_commission :
    (rollOf k r house payoutMin now).entry.commission = commissionOf (r.bank.q + r.remainder) := rfl

/-- The entry's remainder is a natural number; no value is lost by that, since q1 is never negative. -/
theorem rollOf_entry_q1 :
    ((rollOf k r house payoutMin now).entry.q1 : Int) = remainderOf (r.bank.q + r.remainder) :=
  Int.toNat_of_nonneg (remainderOf_nonneg _)

theorem rollOf_shop_remainder :
    (rollOf k r house payoutMin now).shop.remainder = (rollOf k r house payoutMin now).entry.q1 := rfl

theorem rollOf_closing_commission :
    (rollOf k r house payoutMin now).shop.closing.commission = (rollOf k r house payoutMin now).entry.commission := rfl

end

/-- Settles O27: the entry's commission and remainder are those of T = Q + q0, and the shop record holds the same two. -/
theorem theRollDividesTheResidue : Obligations.TheRollDividesTheResidue := by
  intro k r house payoutMin now
  have hq1 := rollOf_entry_q1 k r house payoutMin now
  refine ⟨?whole, ?range, ?floor, rollOf_shop_remainder .., rollOf_closing_commission ..⟩
  case whole =>
    rw [hq1, rollOf_entry_commission]
    exact commissionOf_add_remainderOf _
  case range =>
    have hle := remainderOf_le (r.bank.q + r.remainder)
    rw [← hq1] at hle
    exact Int.ofNat_le.mp hle
  case floor =>
    intro m
    rw [rollOf_entry_commission]
    exact le_commissionOf_iff m _

end Sys2Proof.Machine
end

section
/-! PROOFS. What every request can do at its block: the shared frames of a lane request, an office request and a shop request, and what
admission can end in. -/

namespace Sys2Proof.Machine

/-! ### The frames of service -/

/-- The state without what links, Office Unit, attention unit, Time Base and arbiter rotation hold: what a command that only receives,
sends, reads or answers leaves alone. -/
def State.core (s : State) : State :=
  { s with
    time := 0, lanes := [], officeLink := OfficeLink.initial, payLink := PayLink.initial, ledger.top := 0,
    office := State.reset.office, attn := Attention.initial, journal.streamOn := false, journal.unit := .milliseconds,
    journal.interval := 0, journal.streamCount := 0, pending := [] }

@[simp] theorem State.setLane_core (s : State) (l : Nat) (v : Lane) : (s.setLane l v).core = s.core := rfl

@[simp] theorem State.takeLane_core (s : State) (l : Nat) : (s.takeLane l).core = s.core := rfl

@[simp] theorem State.takeOffice_core (s : State) : s.takeOffice.core = s.core := rfl

@[simp] theorem State.raise_core (s : State) (src : Source) : (s.raise src).core = s.core := rfl

@[simp] theorem State.raiseIf_core (s : State) (b : Bool) (src : Source) : (s.raiseIf b src).core = s.core := by
  rw [State.raiseIf_frame]; rfl

@[simp] theorem State.handOver_core (s : State) (l : Nat) (a : LaneAnswer) : (s.handOver l a).core = s.core := by
  rw [State.handOver_frame]; rfl

@[simp] theorem State.officeSettle_core (s : State) : s.officeSettle.core = s.core := by
  rw [State.officeSettle_frame]; rfl

@[simp] theorem State.answerOffice_core (s : State) (code : OfficeCode) (data : List Byte) :
    (s.answerOffice code data).core = s.core := by
  rw [State.answerOffice_frame]; rfl

@[simp] theorem State.done_core (s : State) (data : List Byte) : (s.done data).core = s.core := State.answerOffice_core ..

@[simp] theorem State.refuse_core (s : State) (code : OfficeCode) : (s.refuse code).core = s.core := State.answerOffice_core ..

/-- A predicate of the machine that does not look at links, Office Unit, attention unit, Time Base or rotation. -/
def OfCore (P : State → Prop) : Prop := ∀ s, P s.core ↔ P s

theorem OfCore.of_eq {P : State → Prop} (hP : OfCore P) {s t : State} (h : t.core = s.core) (hs : P s) : P t := by
  rw [← hP, h, hP]; exact hs

/-- A predicate of the machine that an office answer keeps. -/
structure Answerable (P : State → Prop) : Prop where
  answer : ∀ s code data, P s → P (s.answerOffice code data)

theorem Answerable.done {P : State → Prop} (hP : Answerable P) {s : State} (hs : P s) (data : List Byte) : P (s.done data) :=
  hP.answer s .done data hs

theorem Answerable.refuse {P : State → Prop} (hP : Answerable P) {s : State} (hs : P s) (code : OfficeCode) : P (s.refuse code) :=
  hP.answer s code [] hs

theorem OfCore.answerable {P : State → Prop} (hP : OfCore P) : Answerable P :=
  ⟨fun s code data hs => hP.of_eq (State.answerOffice_core s code data) hs⟩

theorem OfCore.done {P : State → Prop} (hP : OfCore P) {s : State} (hs : P s) (data : List Byte) : P (s.done data) :=
  hP.answerable.done hs data

theorem OfCore.refuse {P : State → Prop} (hP : OfCore P) {s : State} (hs : P s) (code : OfficeCode) : P (s.refuse code) :=
  hP.answerable.refuse hs code

theorem OfCore.takeOffice {P : State → Prop} (hP : OfCore P) {s : State} (hs : P s) : P s.takeOffice :=
  hP.of_eq (State.takeOffice_core s) hs

/-! ### When the Card Ledger and the Office Unit serve -/

theorem State.cardLedgerFree_of_pick {s : State} {p : Pick} (h : s.pick = some p) :
    s.pfw = false ∧ s.ledger.formatting = false ∧ s.ledger.closeOutstanding = false := by
  unfold State.pick at h
  split at h
  · cases h
  · next hf => simpa [State.cardLedgerFree, and_assoc] using hf

theorem State.rotate_spec {s : State} : ∀ {n i : Nat} {p : Pick}, s.rotate n i = some p →
    (p = .office ∧ s.officeEligible = true) ∨ ∃ l, l ≤ 3 ∧ p = .lane l ∧ s.laneEligible l = true
  | 0, _, _, h => by simp [State.rotate] at h
  | n + 1, i, p, h => by
    unfold State.rotate at h
    split at h
    · split at h
      · next he => cases h; exact .inl ⟨rfl, he⟩
      · exact State.rotate_spec h
    · next hne =>
      split at h
      · next he => cases h; exact .inr ⟨i % 5, by omega, rfl, he⟩
      · exact State.rotate_spec h

/-- What the arbiter takes is eligible (R48). -/
theorem State.pick_spec {s : State} {p : Pick} (h : s.pick = some p) :
    (p = .expiry ∧ s.waiting ≠ [] ∧ s.canReserve .general 1 = true) ∨ (p = .office ∧ s.officeEligible = true) ∨
      ∃ l, l ≤ 3 ∧ p = .lane l ∧ s.laneEligible l = true := by
  unfold State.pick at h
  split at h
  · cases h
  · split at h
    · next hw =>
      cases h
      simp only [Bool.and_eq_true, Bool.not_eq_true', List.isEmpty_eq_false_iff] at hw
      exact .inl ⟨rfl, hw⟩
    · exact .inr (State.rotate_spec h)

theorem State.laneWork_spec {s : State} {kind l : Nat} {e : LaneEntry} (h : s.laneWork kind = some (l, e)) :
    s.pick = some (.lane l) ∧ s.laneHead l = some e ∧ e.kind.toNat = kind ∧ laneWellFormed e.kind e.body = true := by
  unfold State.laneWork at h
  split at h
  · next j hp =>
    split at h
    · next x hh =>
      split at h
      · next hw => cases h; exact ⟨hp, hh, hw⟩
      · cases h
    · cases h
  · cases h

/-- A lane request is taken by a free Card Ledger, in one of the four lanes, and one that can post an accrual with a free place on the
accrual queue (R11, R48). -/
theorem State.laneWork_free {s : State} {kind l : Nat} {e : LaneEntry} (h : s.laneWork kind = some (l, e)) :
    s.pfw = false ∧ s.ledger.formatting = false ∧ s.ledger.closeOutstanding = false ∧ l ≤ 3 ∧
      (laneKindPosts e.kind = true → s.accrualFree = true) := by
  obtain ⟨hp, hh, -, -⟩ := State.laneWork_spec h
  obtain ⟨h1, h2, h3⟩ := State.cardLedgerFree_of_pick hp
  refine ⟨h1, h2, h3, ?_⟩
  rcases State.pick_spec hp with ⟨h, -⟩ | ⟨h, -⟩ | ⟨j, hj, h, he⟩
  · cases h
  · cases h
  · cases h
    refine ⟨hj, fun hk => ?_⟩
    simpa [State.laneEligible, hh, hk] using he

theorem State.officeRequest_spec {s : State} {f : Frame} (h : s.officeRequest = some f) :
    s.pfw = false ∧ s.office.inFlight = some { frame := f, answer := none } := by
  unfold State.officeRequest at h
  split at h
  · next hf =>
    split at h
    · cases h
    · next hp => cases h; exact ⟨by simpa using hp, hf⟩
  · cases h

theorem State.officeBody_spec {s : State} {kind : Nat} {b : List Byte} (h : s.officeBody kind = some b) :
    ∃ f, s.officeRequest = some f ∧ f.kind.toNat = kind ∧ officeWellFormed f = true ∧ f.body = b := by
  unfold State.officeBody at h
  split at h
  · next f hf =>
    split at h
    · next hw => cases h; exact ⟨f, hf, hw.1, hw.2, rfl⟩
    · cases h
  · cases h

theorem State.pfw_of_officeBody {s : State} {kind : Nat} {b : List Byte} (h : s.officeBody kind = some b) : s.pfw = false := by
  obtain ⟨f, hf, -⟩ := State.officeBody_spec h
  exact (State.officeRequest_spec hf).1

theorem State.cardWork_spec {s : State} {kind : Nat} {b : List Byte} (h : s.cardWork kind = some b) :
    s.pick = some .office ∧ s.officeBody kind = some b := by
  unfold State.cardWork at h
  split at h
  · next hp => exact ⟨hp, h⟩
  · cases h

theorem State.nextWork_spec {s : State} {w : Work} (h : s.nextWork = some w) : s.pfw = false ∧ s.ledger.mode ≠ .recovering := by
  unfold State.nextWork at h
  split at h
  · cases h
  · next hn => simpa using hn

/-! ### What a served request leaves -/

section
variable {P : State → Prop} {s : State}

/-- A lane request that is decided within P keeps P: taking it and handing its answer over touch the lane and the rotation alone. -/
theorem OfCore.laneStep (hP : OfCore P) {kind : Nat} {decision : LaneReq → State → State × Reply} (hs : P s)
    (hd : ∀ l e, s.laneWork kind = some (l, e) → P (s.takeLane l) → P (decision (requestOf l e) (s.takeLane l)).1) :
    P (laneStep kind decision s) := by
  unfold Machine.laneStep
  split
  · next l e hw => exact hP.of_eq (State.handOver_core ..) (hd l e hw (hP.of_eq (State.takeLane_core ..) hs))
  · exact hs

theorem officeStep_of {kind : Nat} {serve : List Byte → State → State} (hs : P s)
    (hd : ∀ b, s.officeBody kind = some b → P (serve b s)) : P (officeStep kind serve s) := by
  unfold officeStep
  split
  · next b hb => exact hd b hb
  · exact hs

theorem cardStep_of {kind : Nat} {serve : List Byte → State → State} (hs : P s)
    (hd : ∀ b, s.cardWork kind = some b → P (serve b s.takeOffice)) : P (cardStep kind serve s) := by
  unfold cardStep
  split
  · next b hb => exact hd b hb
  · exact hs

/-- The state in which the Settlement Unit serves an office shop request. -/
theorem State.noteWork_visitsHigher (s : State) :
    ({ s.noteWork with settle.visitsHigher := true } : State) = requestServed s := by
  rw [State.noteWork_eq]; rfl

theorem shopStep_of {kind : Nat} {serve : List Byte → State → State} (hs : P s) (hr : P (s.refuse .wrongState))
    (hq : P ((requestServed s).refuse .wrongState))
    (hd : ∀ b, s.officeBody kind = some b → s.nextWork = some .request → s.store.signature = true → P (serve b (requestServed s))) :
    P (shopStep kind serve s) := by
  unfold shopStep
  split
  · exact hs
  · next b hb =>
    split
    · exact hr
    · split
      · next hw =>
        simp only [State.noteWork_visitsHigher]
        split
        · next hg => exact hd b hb hw (by simpa [requestServed] using hg)
        · exact hq
      · exact hs

theorem Answerable.writeStep (hP : Answerable P) {code : Nat} {serve : List Byte → State → State} (hs : P s)
    (hd : ∀ b, s.officeBody 0x5A = some b → fieldAt b 2 1 = code → s.store.signature = true → fieldAt b 3 2 < tableSize code →
      P (serve b s)) : P (writeStep code serve s) := by
  unfold Machine.writeStep
  split
  · exact hs
  · next b hb =>
    split
    · next hc =>
      split
      · exact hP.refuse hs _
      · next hg =>
        split
        · exact hP.refuse hs _
        · next hx => exact hd b hb hc (by simpa using hg) (by simp only [not_or, not_le] at hx; exact hx.1)
    · split
      · exact hP.refuse hs _
      · exact hs

theorem Answerable.onChannel (hP : Answerable P) {serve : Nat → State → State} {b : List Byte} (hs : P s)
    (hd : fieldAt b 2 1 ≤ 3 → s.ledger.mode ≠ .recovering → P (serve (fieldAt b 2 1) s)) : P (onChannel serve b s) := by
  unfold Machine.onChannel
  split
  · exact hP.refuse hs _
  · next hm =>
    split
    · exact hP.refuse hs _
    · next hc => exact hd (Nat.not_lt.mp hc) hm

theorem Answerable.onAction (hP : Answerable P) {action : Nat} {serve : Nat → State → State} (hs : P s)
    (hd : ∀ b, s.officeBody 0x58 = some b → fieldAt b 2 1 ≤ 3 → s.ledger.mode ≠ .recovering → P (serve (fieldAt b 2 1) s)) :
    P (onAction action serve s) := by
  unfold Machine.onAction
  split
  · exact hs
  · next b hb =>
    split
    · exact hP.onChannel hs (hd b hb)
    · split
      · exact hP.onChannel hs (fun _ _ => hP.refuse hs _)
      · exact hs

end

/-! ### Admission -/

theorem State.admitShop_ok {s : State} {cls : ShopClass} {req : LaneReq} {shop : Nat} (h : s.admitShop cls req = .ok shop) :
    laneFieldsOk req.kind req.body = true ∧ s.boundShop req.lane (fieldAt req.body 0 1) = some shop ∧ s.ledger.mode = .opened ∧
      shopDecline cls (s.shop shop).office (s.shop shop).debtBar = none := by
  unfold State.admitShop at h
  split at h
  · cases h
  · next hf =>
    split at h
    · cases h
    · next k hk =>
      split at h
      · cases h
      · next hm =>
        split at h
        · cases h
        · next hd => cases h; exact ⟨by simpa using hf, hk, not_not.mp hm, hd⟩

/-- A read of a record ends in one of three ways: the serial is listed, the record faults and is noted, or it is read (R52). -/
theorem State.readRecord_cases (s : State) (serial : Nat) (expected : Option Nat) :
    (serial ∈ s.ledger.faults ∧ s.readRecord serial expected = (s, none)) ∨
    (serial ∉ s.ledger.faults ∧ faulty (s.card serial) expected = true ∧
      s.readRecord serial expected = (s.noteFault serial, none)) ∨
    (serial ∉ s.ledger.faults ∧ faulty (s.card serial) expected = false ∧
      s.readRecord serial expected = (s, some (s.card serial))) := by
  unfold State.readRecord
  by_cases hl : serial ∈ s.ledger.faults
  · exact .inl ⟨hl, if_pos hl⟩
  · rw [if_neg hl]
    cases hf : faulty (s.card serial) expected
    · exact .inr (.inr ⟨hl, rfl, rfl⟩)
    · exact .inr (.inl ⟨hl, rfl, rfl⟩)

/-- The entry of a committed code failure (R54). -/
def failureEntry (serial : Nat) (r : CardRecord) : EntryBody :=
  .cardState serial (failedCard r).seq .codeFailure (failedCard r).state (failedCard r).suspend (failedCard r).failures none

/-- What a lane request that is not approved can leave at the Card Ledger: nothing, a noted record fault, or one committed code
failure (R49, R52, R54). -/
inductive Declines (s : State) : State → Prop
  | kept : Declines s s
  | noted (serial : Nat) (expected : Option Nat) : s.ledger.mode = .opened → serial ∉ s.ledger.faults →
      faulty (s.card serial) expected = true → (expected = s.lookup serial ∨ expected = s.rangeProgram serial) →
      Declines s (s.noteFault serial)
  | failed {s1 : State} (serial prog : Nat) : soundCard s serial prog (s.card serial) →
      ((s.card serial).state = .active ∨ (s.card serial).state = .stock) → s.reserve .general 1 = some s1 →
      Declines s ((s1.writeCard serial (failedCard (s.card serial))).post (failureEntry serial (s.card serial)) none)

/-- The rules let STOCK and ACTIVE cards alone pass (R51). -/
def CardRule.admitsInUse (rule : CardRule) : Prop := ∀ c, rule.stateOk c = true → c.state = .active ∨ c.state = .stock

theorem State.admitCard_stop {s s1 : State} {rule : CardRule} {req : LaneReq} {d : LaneResult} (hr : rule.admitsInUse)
    (h : s.admitCard rule req = .stop s1 d) : Declines s s1 := by
  unfold State.admitCard at h
  split at h
  · cases h; exact .kept
  · next shop hshop =>
    obtain ⟨-, -, hmode, -⟩ := State.admitShop_ok hshop
    split at h
    · cases h; exact .kept
    · next prog hprog =>
      rcases s.readRecord_cases (fieldAt req.body 3 3) (some prog) with ⟨-, e⟩ | ⟨hl, hf, e⟩ | ⟨hl, hf, e⟩ <;>
        simp only [e] at h
      · cases h; exact .kept
      · cases h; exact .noted _ _ hmode hl hf (.inl hprog.symm)
      · split at h
        · cases h; exact .kept
        · split at h
          · cases h; exact .kept
          · next hst =>
            split at h
            · cases h
              unfold State.codeFailure
              split
              · exact .kept
              · next s0 hs0 =>
                exact .failed _ prog ⟨hmode, hprog, hl, rfl, hf⟩ (hr _ (by simpa using hst)) hs0
            · split at h
              · cases h; exact .kept
              · cases h

theorem State.admitCard_pass {s : State} {rule : CardRule} {req : LaneReq} {shop prog : Nat} {card : CardRecord}
    (h : s.admitCard rule req = .pass shop prog card) :
    s.admitShop rule.cls req = .ok shop ∧ soundCard s (fieldAt req.body 3 3) prog card ∧
      rule.accepts (s.acceptRow (shop / 16)) prog = true ∧ rule.stateOk card = true ∧
      card.code = some (fieldAt req.body 6 2) ∧
      (rule.amount = true → 0 < fieldAt req.body 8 4 ∧ fieldAt req.body 8 4 ≤ 10000000) := by
  unfold State.admitCard at h
  split at h
  · cases h
  · next k hshop =>
    obtain ⟨-, -, hmode, -⟩ := State.admitShop_ok hshop
    split at h
    · cases h
    · next p hprog =>
      rcases s.readRecord_cases (fieldAt req.body 3 3) (some p) with ⟨-, e⟩ | ⟨hl, hf, e⟩ | ⟨hl, hf, e⟩ <;>
        simp only [e] at h
      · cases h
      · cases h
      · split at h
        · cases h
        · next hacc =>
          split at h
          · cases h
          · next hst =>
            split at h
            · cases h
            · next hcode =>
              split at h
              · cases h
              · next hamt =>
                cases h
                refine ⟨hshop, ⟨hmode, hprog, hl, rfl, hf⟩, by simpa [segment] using hacc, by simpa using hst, not_not.mp hcode, fun ha => ?_⟩
                simp only [ha, Bool.true_and, Bool.or_eq_true, decide_eq_true_eq, not_or, Config.amountMax, not_lt] at hamt
                exact ⟨Nat.pos_of_ne_zero hamt.1, hamt.2⟩

end Sys2Proof.Machine
end

section
/-! PROOFS. What each decision of the Card Ledger can end in: a decline, or its one commit with all that admitted it. -/

namespace Sys2Proof.Machine

/-! ### The lane requests that name a serial -/

theorem activateRule_admitsInUse : activateRule.admitsInUse := by
  intro c h; simp only [activateRule, Bool.and_eq_true, decide_eq_true_eq] at h; exact .inr h.1

theorem loadRule_admitsInUse : loadRule.admitsInUse := by
  intro c h; exact .inl (of_decide_eq_true h)

theorem balanceRule_admitsInUse : balanceRule.admitsInUse := by
  intro c h; exact .inl (of_decide_eq_true h)

theorem redeemRule_admitsInUse : redeemRule.admitsInUse := by
  intro c h; exact .inl (of_decide_eq_true h)

theorem cashoutRule_admitsInUse : cashoutRule.admitsInUse := by
  intro c h; exact .inl (of_decide_eq_true h)

/-- A lane request that names a serial has passed its checks (R51). -/
structure Admitted (s : State) (rule : CardRule) (req : LaneReq) (shop prog : Nat) : Prop where
  shopOk : s.admitShop rule.cls req = .ok shop
  bound : s.boundShop req.lane (fieldAt req.body 0 1) = some shop
  sound : soundCard s (fieldAt req.body 3 3) prog (s.card (fieldAt req.body 3 3))
  accepts : rule.accepts (s.acceptRow (shop / 16)) prog = true
  stateOk : rule.stateOk (s.card (fieldAt req.body 3 3)) = true
  code : (s.card (fieldAt req.body 3 3)).code = some (fieldAt req.body 6 2)
  amount : rule.amount = true → 0 < fieldAt req.body 8 4 ∧ fieldAt req.body 8 4 ≤ 10000000

theorem Admitted.of_pass {s : State} {rule : CardRule} {req : LaneReq} {shop prog : Nat} {card : CardRecord}
    (h : s.admitCard rule req = .pass shop prog card) :
    card = s.card (fieldAt req.body 3 3) ∧ Admitted s rule req shop prog := by
  obtain ⟨hshop, hsound, hacc, hst, hcode, hamt⟩ := State.admitCard_pass h
  obtain ⟨-, hb, -, -⟩ := State.admitShop_ok hshop
  obtain ⟨hm, hl, hf, rfl, hok⟩ := hsound
  exact ⟨rfl, hshop, hb, ⟨hm, hl, hf, rfl, hok⟩, hacc, hst, hcode, hamt⟩

/-- ACTIVATE: a decline, or the commit of R55 within the program's limits. -/
theorem decideActivate_cases (req : LaneReq) (s : State) :
    Declines s (decideActivate req s).1 ∨
    ∃ shop prog s1, Admitted s activateRule req shop prog ∧ (s.program prog).activationMin ≤ fieldAt req.body 8 4 ∧
      fieldAt req.body 8 4 ≤ (s.program prog).loadLimit ∧ s.reserve .general 1 = some s1 ∧
      decideActivate req s =
        let serial := fieldAt req.body 3 3
        let c := activatedCard (s.card serial) shop (fieldAt req.body 8 4) s.ledger.period
        (((s1.writeCard serial c).setTotals (s.store.totals.load (fieldAt req.body 8 4))).post
          (.activate serial c.seq req.lane (fieldAt req.body 0 1) shop (fieldAt req.body 8 4) c.balance)
          (some (.sold shop (fieldAt req.body 8 4))),
         Reply.approve .approved (fieldAt req.body 8 4) c.available) := by
  unfold decideActivate
  split
  · next h => exact .inl (State.admitCard_stop activateRule_admitsInUse h)
  · next shop prog card h =>
    obtain ⟨rfl, hadm⟩ := Admitted.of_pass h
    dsimp only
    split
    · exact .inl .kept
    · next hlim =>
      simp only [not_or, not_lt] at hlim
      split
      · exact .inl .kept
      · next s1 hs1 => exact .inr ⟨shop, prog, s1, hadm, hlim.1, hlim.2, hs1, rfl⟩

/-- LOAD: a decline, or the commit of R56 within the load limit. -/
theorem decideLoad_cases (req : LaneReq) (s : State) :
    Declines s (decideLoad req s).1 ∨
    ∃ shop prog s1, Admitted s loadRule req shop prog ∧
      (s.card (fieldAt req.body 3 3)).balance + fieldAt req.body 8 4 ≤ (s.program prog).loadLimit ∧
      s.reserve .general 1 = some s1 ∧
      decideLoad req s =
        let serial := fieldAt req.body 3 3
        let c := loadedCard (s.card serial) (fieldAt req.body 8 4) s.ledger.period
        (((s1.writeCard serial c).setTotals (s.store.totals.load (fieldAt req.body 8 4))).post
          (.load serial c.seq req.lane (fieldAt req.body 0 1) shop (fieldAt req.body 8 4) c.balance)
          (some (.sold shop (fieldAt req.body 8 4))),
         Reply.approve .approved (fieldAt req.body 8 4) c.available) := by
  unfold decideLoad
  split
  · next h => exact .inl (State.admitCard_stop loadRule_admitsInUse h)
  · next shop prog card h =>
    obtain ⟨rfl, hadm⟩ := Admitted.of_pass h
    dsimp only
    split
    · exact .inl .kept
    · next hlim =>
      split
      · exact .inl .kept
      · next s1 hs1 => exact .inr ⟨shop, prog, s1, hadm, not_lt.mp hlim, hs1, rfl⟩

/-- BALANCE never commits but for a code failure (R57). -/
theorem decideBalance_declines (req : LaneReq) (s : State) : Declines s (decideBalance req s).1 := by
  unfold decideBalance
  split
  · next h => exact State.admitCard_stop balanceRule_admitsInUse h
  · exact .kept

/-- What is approved out of the available balance is part of it, and more than nothing (R58, R82). -/
theorem approvedAmount_spec {amount available a : Nat} {allowPart : Bool} {r : LaneResult} (h0 : 0 < amount)
    (h : approvedAmount amount available allowPart = some (a, r)) : 0 < a ∧ a ≤ available ∧ a ≤ amount := by
  unfold approvedAmount at h
  split at h
  · next hle => cases h; exact ⟨h0, hle, le_refl _⟩
  · next hlt =>
    split at h
    · next hp =>
      cases h
      simp only [Bool.and_eq_true, decide_eq_true_eq] at hp
      exact ⟨hp.2, le_refl _, by omega⟩
    · cases h

/-- REDEEM: a decline, or the commit of R58 of an amount within what is available. -/
theorem decideRedeem_cases (req : LaneReq) (s : State) :
    Declines s (decideRedeem req s).1 ∨
    ∃ shop prog s1 amount result, Admitted s redeemRule req shop prog ∧
      approvedAmount (fieldAt req.body 8 4) (s.card (fieldAt req.body 3 3)).available (fieldAt req.body 12 1 == 1) =
        some (amount, result) ∧
      s.reserve .general 1 = some s1 ∧
      decideRedeem req s =
        let serial := fieldAt req.body 3 3
        let rate := (s.program prog).rate
        let c := redeemedCard (s.card serial) amount s.ledger.period
        let record : CaptureRecord :=
          { ref := s.store.nextToWrite, card := serial, shop := shop, program := prog, rate := rate, captured := amount,
            refunded := 0, period := s.ledger.period }
        ((((s1.writeCard serial c).setTotals (s.store.totals.capture amount)).addWindow record).post
          (.redeem serial c.seq shop req.lane (fieldAt req.body 0 1) prog rate amount) (some (.redeemed shop amount rate)),
         { Reply.approve result amount c.available with captureRef := some s.store.nextToWrite }) := by
  unfold decideRedeem
  split
  · next h => exact .inl (State.admitCard_stop redeemRule_admitsInUse h)
  · next shop prog card h =>
    obtain ⟨rfl, hadm⟩ := Admitted.of_pass h
    dsimp only
    split
    · exact .inl .kept
    · next amount result happ =>
      split
      · exact .inl .kept
      · next s1 hs1 => exact .inr ⟨shop, prog, s1, amount, result, hadm, happ, hs1, rfl⟩

/-- CASHOUT: a decline, or the commit of R59 of a card without holds. -/
theorem decideCashout_cases (req : LaneReq) (s : State) :
    Declines s (decideCashout req s).1 ∨
    ∃ shop prog s1, Admitted s cashoutRule req shop prog ∧ (s.card (fieldAt req.body 3 3)).holdCount = 0 ∧
      0 < (s.card (fieldAt req.body 3 3)).balance ∧
      (s.card (fieldAt req.body 3 3)).balance ≤ (s.program prog).ceiling ∧ s.reserve .general 1 = some s1 ∧
      decideCashout req s =
        let serial := fieldAt req.body 3 3
        let c := cashedCard (s.card serial) s.ledger.period
        (((s1.writeCard serial c).setTotals (s.store.totals.cash (s.card serial).balance)).post
          (.cashout serial c.seq shop req.lane (fieldAt req.body 0 1) (s.card serial).balance)
          (some (.cashed shop (s.card serial).balance)),
         Reply.approve .approved (s.card serial).balance 0) := by
  unfold decideCashout
  split
  · next h => exact .inl (State.admitCard_stop cashoutRule_admitsInUse h)
  · next shop prog card h =>
    obtain ⟨rfl, hadm⟩ := Admitted.of_pass h
    dsimp only
    split
    · exact .inl .kept
    · next hh =>
      split
      · exact .inl .kept
      · next hb =>
        simp only [not_or, not_lt] at hb
        split
        · exact .inl .kept
        · next s1 hs1 =>
          exact .inr ⟨shop, prog, s1, hadm, Nat.eq_zero_of_not_pos hh, Nat.pos_of_ne_zero hb.1, hb.2, hs1, rfl⟩

/-- AUTHORIZE: a decline, or the commit of R83 in the lowest free slot. -/
theorem decideAuthorize_cases (req : LaneReq) (s : State) :
    Declines s (decideAuthorize req s).1 ∨
    ∃ shop prog s1 slot amount result, Admitted s redeemRule req shop prog ∧
      (s.card (fieldAt req.body 3 3)).holdCount < (s.program prog).maxHolds ∧ s.freeHoldSlot = some slot ∧
      approvedAmount (fieldAt req.body 8 4) (s.card (fieldAt req.body 3 3)).available (fieldAt req.body 12 1 == 1) =
        some (amount, result) ∧
      s.reserve .general 1 = some s1 ∧
      decideAuthorize req s =
        let p := s.program prog
        let serial := fieldAt req.body 3 3
        let c := authorizedCard (s.card serial) amount s.ledger.period
        let deadline := s.time + milliseconds p.lifetime
        let ref := holdRefOf slot (s.holdSlot slot).gen
        let hold : Hold :=
          { card := serial, shop := shop, lane := req.lane, terminal := fieldAt req.body 0 1, amount := amount,
            rate := p.rate, deadline := deadline }
        (((s1.openHold slot hold).writeCard serial c).post
          (.authorize serial c.seq ref shop req.lane (fieldAt req.body 0 1) amount p.rate deadline) none,
         { Reply.approve result amount c.available with holdRef := some ref }) := by
  unfold decideAuthorize
  split
  · next h => exact .inl (State.admitCard_stop redeemRule_admitsInUse h)
  · next shop prog card h =>
    obtain ⟨rfl, hadm⟩ := Admitted.of_pass h
    dsimp only
    split
    · exact .inl .kept
    · next hmax =>
      split
      · exact .inl .kept
      · next slot hslot =>
        split
        · exact .inl .kept
        · next amount result happ =>
          split
          · exact .inl .kept
          · next s1 hs1 =>
            exact .inr ⟨shop, prog, s1, slot, amount, result, hadm, not_le.mp hmax, hslot, happ, hs1, rfl⟩

/-! ### CAPTURE, VOID, REFUND -/

theorem State.resolveHold_active {s : State} {ref slot gen : Nat} {hold : Hold}
    (h : s.resolveHold ref = .active slot gen hold) :
    slot = ref / 32 ∧ gen = ref % 32 ∧ (s.holdSlot slot).hold = some hold ∧ (s.holdSlot slot).gen = gen := by
  unfold State.resolveHold at h
  dsimp only at h
  split at h
  · next hh =>
    split at h
    · next hg => cases h; exact ⟨rfl, rfl, hh, hg⟩
    · cases h
  · split at h <;> cases h
  · cases h

/-- The record a request reads by its range is sound: not listed, not faulty (R52, R81, R98). -/
def readSound (s : State) (serial : Nat) : Prop :=
  s.ledger.mode = .opened ∧ serial ∉ s.ledger.faults ∧ faulty (s.card serial) (s.rangeProgram serial) = false

/-- CAPTURE: a decline, or the commit of R86 of an open hold of the capturing shop. -/
theorem decideCapture_cases (req : LaneReq) (s : State) :
    Declines s (decideCapture req s).1 ∨
    ∃ s1 slot gen hold, s.admitShop .spend req = .ok hold.shop ∧
      s.resolveHold (fieldAt req.body 3 2) = .active slot gen hold ∧ readSound s hold.card ∧
      0 < fieldAt req.body 5 4 ∧ fieldAt req.body 5 4 ≤ 10000000 ∧ fieldAt req.body 5 4 ≤ hold.amount ∧
      s.reserve .general 1 = some s1 ∧
      decideCapture req s =
        let ref := fieldAt req.body 3 2
        let amount := fieldAt req.body 5 4
        let prog := (s.card hold.card).program.getD 0
        let rate := (s.program prog).rate
        let c := capturedCard (s.card hold.card) hold.amount amount s.ledger.period
        let record : CaptureRecord :=
          { ref := s.store.nextToWrite, card := hold.card, shop := hold.shop, program := prog, rate := rate,
            captured := amount, refunded := 0, period := s.ledger.period }
        (((((s1.endHold slot gen .captured).writeCard hold.card c).setTotals
            (s.store.totals.capture amount)).addWindow record).post
          (.capture hold.card c.seq ref hold.shop prog hold.amount amount rate) (some (.redeemed hold.shop amount rate)),
         { Reply.approve .approved amount c.available with
           holdRef := some ref, captureRef := some s.store.nextToWrite }) := by
  unfold decideCapture
  split
  · exact .inl .kept
  · next shop hshop =>
    obtain ⟨-, -, hmode, -⟩ := State.admitShop_ok hshop
    dsimp only
    split
    · next slot gen hold hres =>
      rcases s.readRecord_cases hold.card (s.rangeProgram hold.card) with ⟨-, e⟩ | ⟨hl, hf, e⟩ | ⟨hl, hf, e⟩ <;>
        simp only [e]
      · exact .inl .kept
      · exact .inl (.noted _ _ hmode hl hf (.inr rfl))
      · split
        · exact .inl .kept
        · next hamt =>
          simp only [Bool.or_eq_true, decide_eq_true_eq, not_or, Config.amountMax, not_lt] at hamt
          split
          · exact .inl .kept
          · next hown =>
            obtain rfl := not_not.mp hown
            split
            · exact .inl .kept
            · next hle =>
              split
              · exact .inl .kept
              · next s1 hs1 =>
                exact .inr ⟨s1, slot, gen, hold, hshop, hres, ⟨hmode, hl, hf⟩, Nat.pos_of_ne_zero hamt.1, hamt.2, not_lt.mp hle,
                  hs1, rfl⟩
    · split <;> exact .inl .kept

/-- VOID: a decline, or the commit of R88 of an open hold of the voiding shop. -/
theorem decideVoid_cases (req : LaneReq) (s : State) :
    Declines s (decideVoid req s).1 ∨
    ∃ s1 slot gen hold, s.admitShop .giveBack req = .ok hold.shop ∧
      s.resolveHold (fieldAt req.body 3 2) = .active slot gen hold ∧ readSound s hold.card ∧
      s.reserve .general 1 = some s1 ∧
      decideVoid req s =
        let ref := fieldAt req.body 3 2
        let c := voidedCard (s.card hold.card) hold.amount s.ledger.period
        (((s1.endHold slot gen .voided).writeCard hold.card c).post
          (.void hold.card c.seq ref hold.shop hold.amount) none,
         { Reply.approve .approved hold.amount c.available with holdRef := some ref }) := by
  unfold decideVoid
  split
  · exact .inl .kept
  · next shop hshop =>
    obtain ⟨-, -, hmode, -⟩ := State.admitShop_ok hshop
    dsimp only
    split
    · next slot gen hold hres =>
      rcases s.readRecord_cases hold.card (s.rangeProgram hold.card) with ⟨-, e⟩ | ⟨hl, hf, e⟩ | ⟨hl, hf, e⟩ <;>
        simp only [e]
      · exact .inl .kept
      · exact .inl (.noted _ _ hmode hl hf (.inr rfl))
      · split
        · exact .inl .kept
        · next hown =>
          obtain rfl := not_not.mp hown
          split
          · exact .inl .kept
          · next s1 hs1 => exact .inr ⟨s1, slot, gen, hold, hshop, hres, ⟨hmode, hl, hf⟩, hs1, rfl⟩
    · exact .inl .kept

theorem State.refundDecline_none {s : State} {shop amount : Nat} {rec : CaptureRecord} {card : CardRecord}
    (h : s.refundDecline shop amount rec card = none) :
    s.ledger.period ≤ rec.period + (s.program rec.program).refundWindow ∧
      (shop = rec.shop ∨ (s.acceptRow (segment shop)).effectiveXe rec.program = true) ∧
      (card.state = .active ∨ card.state = .suspended) ∧ rec.refunded + amount ≤ rec.captured ∧
      card.balance + amount ≤ 2147483647 := by
  unfold State.refundDecline at h
  split at h
  · cases h
  · next h1 =>
    split at h
    · cases h
    · next h2 =>
      split at h
      · cases h
      · next h3 =>
        split at h
        · cases h
        · next h4 =>
          split at h
          · cases h
          · next h5 =>
            refine ⟨not_lt.mp h1, ?_, ?_, not_lt.mp h4, not_lt.mp h5⟩
            · by_cases hs : shop = rec.shop
              · exact .inl hs
              · exact .inr (by simpa [hs] using h2)
            · by_cases hs : card.state = .active
              · exact .inl hs
              · exact .inr (by simpa [hs] using h3)

/-- REFUND: a decline, or the commit of R104 against a record of the window. -/
theorem decideRefund_cases (req : LaneReq) (s : State) :
    Declines s (decideRefund req s).1 ∨
    ∃ shop s1 rec, s.admitShop .giveBack req = .ok shop ∧ s.findCapture (fieldAt req.body 3 4) = some rec ∧
      rec.card < s.cap ∧ readSound s rec.card ∧ 0 < fieldAt req.body 7 4 ∧ fieldAt req.body 7 4 ≤ 10000000 ∧
      s.refundDecline shop (fieldAt req.body 7 4) rec (s.card rec.card) = none ∧ s.reserve .general 1 = some s1 ∧
      decideRefund req s =
        let ref := fieldAt req.body 3 4
        let amount := fieldAt req.body 7 4
        let c := refundedCard (s.card rec.card) amount s.ledger.period
        let s2 := (s1.writeCard rec.card c).setTotals (s.store.totals.refund amount)
        (State.post { s2 with store.window := refundRecord ref amount s.store.window }
          (.refund rec.card c.seq ref shop req.lane (fieldAt req.body 0 1) rec.shop amount rec.rate rec.period
            (rec.refunded + amount))
          (some (.refunded rec.shop amount rec.rate)),
         { Reply.approve .approved amount c.available with captureRef := some ref }) := by
  unfold decideRefund
  split
  · exact .inl .kept
  · next shop hshop =>
    obtain ⟨-, -, hmode, -⟩ := State.admitShop_ok hshop
    dsimp only
    split
    · split <;> exact .inl .kept
    · next rec hrec =>
      split
      · exact .inl .kept
      · next hcap =>
        rcases s.readRecord_cases rec.card (s.rangeProgram rec.card) with ⟨-, e⟩ | ⟨hl, hf, e⟩ | ⟨hl, hf, e⟩ <;>
          simp only [e]
        · exact .inl .kept
        · exact .inl (.noted _ _ hmode hl hf (.inr rfl))
        · split
          · exact .inl .kept
          · next hamt =>
            simp only [Bool.or_eq_true, decide_eq_true_eq, not_or, Config.amountMax, not_lt] at hamt
            split
            · exact .inl .kept
            · next hdec =>
              split
              · exact .inl .kept
              · next s1 hs1 =>
                exact .inr ⟨shop, s1, rec, hshop, hrec, not_le.mp hcap, ⟨hmode, hl, hf⟩, Nat.pos_of_ne_zero hamt.1, hamt.2,
                  hdec, hs1, rfl⟩

/-! ### Expiry -/

/-- The arbiter's expiry: the request is stale, or its hold ends under one reservation, with its card when the record is sound
(R78, R79). -/
theorem State.expire_cases (s : State) (it : ExpiryItem) :
    (∀ slot gen hold, s.resolveHold (holdRefOf it.slot it.gen) ≠ .active slot gen hold) ∧
        s.expire it = { s with waiting := s.waiting.tail } ∨
    ∃ slot gen hold, s.resolveHold (holdRefOf it.slot it.gen) = .active slot gen hold ∧
      ((s.reserve .general 1 = none ∧ s.expire it = s) ∨
        ∃ s1, s.reserve .general 1 = some s1 ∧
          ((hold.card ∈ s.ledger.faults ∧ s.expire it = (s1.endHold slot gen .expired).post
              (.expire hold.card (holdRefOf slot gen) hold.shop hold.lane hold.terminal hold.rate hold.amount none) none) ∨
            (hold.card ∉ s.ledger.faults ∧ faulty (s.card hold.card) (s.rangeProgram hold.card) = true ∧
              s.expire it = ((s1.noteFault hold.card).endHold slot gen .expired).post
                (.expire hold.card (holdRefOf slot gen) hold.shop hold.lane hold.terminal hold.rate hold.amount none) none) ∨
            (hold.card ∉ s.ledger.faults ∧ faulty (s.card hold.card) (s.rangeProgram hold.card) = false ∧
              s.expire it =
                ((s1.endHold slot gen .expired).writeCard hold.card (releasedCard (s.card hold.card) hold.amount)).post
                  (.expire hold.card (holdRefOf slot gen) hold.shop hold.lane hold.terminal hold.rate hold.amount
                    (some (releasedCard (s.card hold.card) hold.amount).seq)) none))) := by
  unfold State.expire
  split
  · next slot gen hold hres =>
    refine .inr ⟨slot, gen, hold, hres, ?_⟩
    rcases s.reserve_spec .general 1 with ⟨-, hn⟩ | ⟨-, s1, hs1, he, -⟩
    · simp only [hn, true_and, true_or]
    · refine .inr ⟨s1, hs1, ?_⟩
      have hfaults : s1.ledger.faults = s.ledger.faults := by rw [he]
      have hcard : s1.card hold.card = s.card hold.card := by rw [he]; rfl
      have hrange : s1.rangeProgram hold.card = s.rangeProgram hold.card := by rw [he]; rfl
      have hread := s1.readRecord_cases hold.card (s1.rangeProgram hold.card)
      simp only [hfaults, hcard, hrange] at hread
      rcases hread with ⟨hl, e⟩ | ⟨hl, hf, e⟩ | ⟨hl, hf, e⟩ <;> simp only [hs1, hrange, e]
      · exact .inl ⟨hl, trivial⟩
      · exact .inr (.inl ⟨hl, hf, trivial⟩)
      · exact .inr (.inr ⟨hl, hf, trivial⟩)
  · next hno => exact .inl ⟨fun slot gen hold h => hno slot gen hold h, rfl⟩

end Sys2Proof.Machine
end

section
/-! PROOFS. What each office card request can end in: a refusal, or its one commit with all that admitted it (R49, R61 to R68). -/

namespace Sys2Proof.Machine

/-- What an office card request that is not committed leaves: the Card Ledger as it was or with one noted record fault, and an answer. -/
inductive Answers (s : State) : State → Prop
  | kept (code : OfficeCode) (data : List Byte) : Answers s (s.answerOffice code data)
  | noted (serial : Nat) (expected : Option Nat) (code : OfficeCode) (data : List Byte) : serial ∉ s.ledger.faults →
      faulty (s.card serial) expected = true → expected = s.lookup serial → Answers s ((s.noteFault serial).answerOffice code data)

/-- A commit of an office card request: one reservation, the record written whole, the totals, one entry, the answer DONE (R49). -/
def officeCommits (s t : State) (serial : Nat) (r : CardRecord) (totals : Totals) (body : EntryBody) (effect : Option Effect) : Prop :=
  ∃ s1, s.reserve .general 1 = some s1 ∧ t = (((s1.writeCard serial r).setTotals totals).post body effect).done []

theorem State.commitOffice_cases (s : State) (serial : Nat) (r : CardRecord) (totals : Totals) (body : EntryBody)
    (effect : Option Effect) :
    Answers s (s.commitOffice serial r totals body effect) ∨
      officeCommits s (s.commitOffice serial r totals body effect) serial r totals body effect := by
  unfold State.commitOffice
  split
  · exact .inl (.kept _ _)
  · next s1 hs1 => exact .inr ⟨s1, hs1, rfl⟩

theorem State.admitOffice_stop {s s1 : State} {serial : Nat} {code : OfficeCode} (h : s.admitOffice serial = .stop s1 code) :
    Answers s (s1.refuse code) := by
  unfold State.admitOffice at h
  split at h
  · cases h; exact .kept _ _
  · split at h
    · cases h; exact .kept _ _
    · next prog hprog =>
      rcases s.readRecord_cases serial (some prog) with ⟨-, e⟩ | ⟨hl, hf, e⟩ | ⟨hl, hf, e⟩ <;> simp only [e] at h
      · cases h; exact .kept _ _
      · cases h; exact .noted _ _ _ _ hl hf hprog.symm
      · cases h

theorem State.admitOffice_pass {s : State} {serial prog : Nat} {card : CardRecord} (h : s.admitOffice serial = .pass prog card) :
    card = s.card serial ∧ soundCard s serial prog (s.card serial) := by
  unfold State.admitOffice at h
  split at h
  · cases h
  · next hm =>
    split at h
    · cases h
    · next p hprog =>
      rcases s.readRecord_cases serial (some p) with ⟨-, e⟩ | ⟨hl, hf, e⟩ | ⟨hl, hf, e⟩ <;> simp only [e] at h
      · cases h
      · cases h
      · cases h; exact ⟨rfl, not_not.mp hm, hprog, hl, rfl, hf⟩

theorem serveReadCard_answers (b : List Byte) (s : State) : Answers s (serveReadCard b s) := by
  unfold serveReadCard
  dsimp only
  split
  · exact .kept _ _
  · split
    · exact .kept _ _
    · next prog hprog =>
      by_cases hf : faulty (s.card (officeSerial b)) (some prog) = true
      · rw [if_pos hf]
        by_cases hl : officeSerial b ∈ s.ledger.faults
        · rw [State.noteFault, if_pos hl]; exact .kept _ _
        · exact .noted _ _ _ _ hl hf hprog.symm
      · rw [if_neg hf]; exact .kept _ _

theorem serveReadTotals_answers (b : List Byte) (s : State) : Answers s (serveReadTotals b s) := by
  unfold serveReadTotals
  split <;> exact .kept _ _

/-- PROVISION of a BLANK card (R63). -/
theorem serveProvision_cases (b : List Byte) (s : State) :
    Answers s (serveProvision b s) ∨
    ∃ prog, soundCard s (fieldAt b 2 3) prog (s.card (fieldAt b 2 3)) ∧ (s.card (fieldAt b 2 3)).state = .blank ∧
      fieldAt b 5 2 ≤ 9999 ∧
      let c := provisionedCard (s.card (fieldAt b 2 3)) prog (fieldAt b 5 2)
      officeCommits s (serveProvision b s) (fieldAt b 2 3) c s.store.totals (.provision (fieldAt b 2 3) c.seq prog) none := by
  unfold serveProvision
  dsimp only
  split
  · next h => exact .inl (State.admitOffice_stop h)
  · next prog card h =>
    obtain ⟨rfl, hs⟩ := State.admitOffice_pass h
    split
    · exact .inl (.kept _ _)
    · next hc =>
      split
      · exact .inl (.kept _ _)
      · next hb =>
        exact (State.commitOffice_cases ..).imp_right fun h => ⟨prog, hs, not_not.mp hb, not_lt.mp hc, h⟩

/-- SUSPEND of an ACTIVE card or of a LOCKOUT (R64). -/
theorem serveSuspend_cases (b : List Byte) (s : State) :
    Answers s (serveSuspend b s) ∨
    ∃ prog, soundCard s (fieldAt b 2 3) prog (s.card (fieldAt b 2 3)) ∧
      ((s.card (fieldAt b 2 3)).state = .active ∨ (s.card (fieldAt b 2 3)).state = .suspended) ∧
      let c := suspendedCard (s.card (fieldAt b 2 3))
      officeCommits s (serveSuspend b s) (fieldAt b 2 3) c s.store.totals (cardStateEntry (fieldAt b 2 3) c .suspend) none := by
  unfold serveSuspend
  dsimp only
  split
  · next h => exact .inl (State.admitOffice_stop h)
  · next prog card h =>
    obtain ⟨rfl, hs⟩ := State.admitOffice_pass h
    split
    · exact .inl (.kept _ _)
    · split
      · next ha => exact (State.commitOffice_cases ..).imp_right fun h => ⟨prog, hs, ha, h⟩
      · exact .inl (.kept _ _)

/-- RESUME of a SUSPENDED card, or of a STOCK card with three failures (R65). -/
theorem serveResume_cases (b : List Byte) (s : State) :
    Answers s (serveResume b s) ∨
    ∃ prog, soundCard s (fieldAt b 2 3) prog (s.card (fieldAt b 2 3)) ∧
      ((s.card (fieldAt b 2 3)).state = .suspended ∨
        ((s.card (fieldAt b 2 3)).state = .stock ∧ (s.card (fieldAt b 2 3)).failures = 3)) ∧
      let c := resumedCard (s.card (fieldAt b 2 3))
      officeCommits s (serveResume b s) (fieldAt b 2 3) c s.store.totals (cardStateEntry (fieldAt b 2 3) c .resume) none := by
  unfold serveResume
  dsimp only
  split
  · next h => exact .inl (State.admitOffice_stop h)
  · next prog card h =>
    obtain ⟨rfl, hs⟩ := State.admitOffice_pass h
    split
    · next ha => exact (State.commitOffice_cases ..).imp_right fun h => ⟨prog, hs, ha, h⟩
    · exact .inl (.kept _ _)

/-- CLOSE_CARD of a card without holds, with a free place for its accrual (R48, R66). -/
theorem serveCloseCard_cases (b : List Byte) (s : State) :
    Answers s (serveCloseCard b s) ∨
    ∃ prog, s.accrualFree = true ∧ soundCard s (fieldAt b 2 3) prog (s.card (fieldAt b 2 3)) ∧
      (s.card (fieldAt b 2 3)).state ≠ .blank ∧ (s.card (fieldAt b 2 3)).state ≠ .closed ∧
      (s.card (fieldAt b 2 3)).holdCount = 0 ∧
      let card := s.card (fieldAt b 2 3)
      officeCommits s (serveCloseCard b s) (fieldAt b 2 3) (closedCard card)
        (if card.balance = 0 then s.store.totals else s.store.totals.close card.balance)
        (.closeCard (fieldAt b 2 3) (closedCard card).seq card.balance)
        (if card.balance = 0 then none else some (.unclaimed card.balance)) := by
  unfold serveCloseCard
  dsimp only
  split
  · exact .inl (.kept _ _)
  · next hfree =>
    split
    · next h => exact .inl (State.admitOffice_stop h)
    · next prog card h =>
      obtain ⟨rfl, hs⟩ := State.admitOffice_pass h
      split
      · exact .inl (.kept _ _)
      · next hst =>
        rw [not_or] at hst
        split
        · exact .inl (.kept _ _)
        · next hh =>
          exact (State.commitOffice_cases ..).imp_right fun h =>
            ⟨prog, by simpa using hfree, hs, hst.1, hst.2, Nat.eq_zero_of_not_pos hh, h⟩

/-- ADJUST within the balance and what is available (R67). -/
theorem serveAdjust_cases (b : List Byte) (s : State) :
    Answers s (serveAdjust b s) ∨
    ∃ prog d, soundCard s (fieldAt b 2 3) prog (s.card (fieldAt b 2 3)) ∧ AdjustDirection.ofCode (fieldAt b 5 1) = some d ∧
      0 < fieldAt b 6 4 ∧ fieldAt b 6 4 ≤ 10000000 ∧
      ((s.card (fieldAt b 2 3)).state = .active ∨ (s.card (fieldAt b 2 3)).state = .suspended) ∧
      (d = .credit → (s.card (fieldAt b 2 3)).balance + fieldAt b 6 4 ≤ 2147483647) ∧
      (d = .debit → fieldAt b 6 4 ≤ (s.card (fieldAt b 2 3)).available) ∧
      let c := adjustedCard (s.card (fieldAt b 2 3)) d (fieldAt b 6 4)
      officeCommits s (serveAdjust b s) (fieldAt b 2 3) c (s.store.totals.adjust (adjustChange d (fieldAt b 6 4)))
        (.adjust (fieldAt b 2 3) c.seq d (fieldAt b 6 4)) none := by
  unfold serveAdjust
  dsimp only
  split
  · next h => exact .inl (State.admitOffice_stop h)
  · next prog card h =>
    obtain ⟨rfl, hs⟩ := State.admitOffice_pass h
    split
    · exact .inl (.kept _ _)
    · next d hd =>
      split
      · exact .inl (.kept _ _)
      · next hamt =>
        simp only [not_or, not_lt] at hamt
        split
        · exact .inl (.kept _ _)
        · next hst =>
          split
          · exact .inl (.kept _ _)
          · next hcr =>
            split
            · exact .inl (.kept _ _)
            · next hdb =>
              refine (State.commitOffice_cases ..).imp_right fun h =>
                ⟨prog, d, hs, hd, Nat.pos_of_ne_zero hamt.1, hamt.2, ?_, fun hc => ?_, fun hc => ?_, h⟩
              · by_cases ha : (s.card (fieldAt b 2 3)).state = .active
                · exact .inl ha
                · exact .inr (by simpa [ha] using hst)
              · exact not_lt.mp fun hlt => hcr ⟨hc, hlt⟩
              · exact not_lt.mp fun hlt => hdb ⟨hc, hlt⟩

/-- REWRITE_CARD of a record that is listed or faults, with a supplied record within R68's conditions and no open hold: the record is
written, the difference booked, the serial taken off the list (R68). `s1` is the state after the read, which notes the fault. -/
theorem serveRewriteCard_cases (b : List Byte) (s : State) :
    Answers s (serveRewriteCard b s) ∨
    ∃ prog r s1 s2, s.ledger.mode = .opened ∧ s.lookup (fieldAt b 2 3) = some prog ∧
      ((fieldAt b 2 3 ∈ s.ledger.faults ∧ s1 = s) ∨
        (fieldAt b 2 3 ∉ s.ledger.faults ∧ faulty (s.card (fieldAt b 2 3)) (some prog) = true ∧
          s1 = s.noteFault (fieldAt b 2 3))) ∧
      s1.hasOpenHold (fieldAt b 2 3) = false ∧ rewriteOfBody b = some r ∧ rewriteBad r prog = false ∧
      ((s.card (fieldAt b 2 3)).state = .closed → r.state = .closed) ∧ s1.reserve .general 1 = some s2 ∧
      serveRewriteCard b s =
        let serial := fieldAt b 2 3
        let c := { r with seq := nextCardSeq r.seq }
        let diff : Int := (c.balance : Int) - ((s.card serial).balance : Int)
        let s3 := ((s2.writeCard serial c).setTotals (s.store.totals.adjust diff)).post
          (.cardState serial c.seq .rewrite c.state c.suspend c.failures (some (c, diff))) none
        State.done { s3 with ledger.faults := s3.ledger.faults.filter (fun x => decide (x ≠ serial)) } [] := by
  unfold serveRewriteCard
  dsimp only
  split
  · exact .inl (.kept _ _)
  · next hm =>
    split
    · exact .inl (.kept _ _)
    · next prog hprog =>
      suffices H : ∀ s1 : State, (∀ code, Answers s (s1.refuse code)) →
          ((fieldAt b 2 3 ∈ s.ledger.faults ∧ s1 = s) ∨
            (fieldAt b 2 3 ∉ s.ledger.faults ∧ faulty (s.card (fieldAt b 2 3)) (some prog) = true ∧
              s1 = s.noteFault (fieldAt b 2 3))) → s.readRecord (fieldAt b 2 3) (some prog) = (s1, none) → _ by
        rcases s.readRecord_cases (fieldAt b 2 3) (some prog) with ⟨hl, e⟩ | ⟨hl, hf, e⟩ | ⟨hl, hf, e⟩
        · exact H s (fun _ => .kept _ _) (.inl ⟨hl, rfl⟩) e
        · exact H _ (fun _ => .noted _ _ _ _ hl hf hprog.symm) (.inr ⟨hl, hf, rfl⟩) e
        · simp only [e]; exact .inl (.kept _ _)
      intro s1 hans hs1 e
      simp only [e]
      split
      · exact .inl (hans _)
      · next hhold =>
        split
        · exact .inl (hans _)
        · next r hr =>
          split
          · exact .inl (hans _)
          · next hbad =>
            split
            · exact .inl (hans _)
            · next hcl =>
              split
              · exact .inl (hans _)
              · next s2 hs2 =>
                exact .inr ⟨prog, r, s1, s2, not_not.mp hm, hprog, hs1, by simpa using hhold, hr, by simpa using hbad,
                  fun hc => by_contra fun hn => hcl ⟨hc, hn⟩, hs2, rfl⟩

end Sys2Proof.Machine
end

section
/-! PROOFS. The commands that only receive, send, read or answer, and the invariant of the journal. -/

namespace Sys2Proof.Machine

/-! ### Outcomes -/

/-- A property of the next state, where there is one. -/
def nextAll (P : State → Prop) : Out → Prop
  | .next t => P t
  | .fault _ => True
  | .refused _ => True

theorem nextAll.apply {P : State → Prop} {o : Out} {t : State} (h : nextAll P o) (ho : o = .next t) : P t := by
  rw [ho] at h; exact h

theorem nextAll.mono {P Q : State → Prop} {o : Out} (h : nextAll P o) (hPQ : ∀ t, P t → Q t) : nextAll Q o := by
  cases o with
  | next t => exact hPQ t h
  | fault _ => trivial
  | refused _ => trivial

/-! ### The commands of the links, the Office Unit and the attention unit -/

theorem State.laneError_core (s : State) (l : Nat) (after : RxState) : (s.laneError l after).core = s.core := by
  unfold State.laneError
  dsimp only
  split <;> rfl

theorem execIdleGap_core (link : Nat) (s : State) : nextAll (fun t => t.core = s.core) (execIdleGap link s) := by
  unfold execIdleGap
  split_ifs <;> rfl

theorem execTruncatedFrame_core (link : Nat) (s : State) : nextAll (fun t => t.core = s.core) (execTruncatedFrame link s) := by
  unfold execTruncatedFrame
  split
  · rfl
  · split
    · split
      · exact State.laneError_core s link .run
      · rfl
    · split_ifs <;> rfl

theorem execLaneFrameReceived_core (lane : Nat) (chars : List RxChar) (s : State) :
    nextAll (fun t => t.core = s.core) (execLaneFrameReceived lane chars s) := by
  unfold execLaneFrameReceived
  split
  · rfl
  · split
    · rfl
    · exact State.laneError_core s lane .hunt
    · rfl

theorem execOfficeFrameReceived_core (chars : List RxChar) (s : State) :
    nextAll (fun t => t.core = s.core) (execOfficeFrameReceived chars s) := by
  unfold execOfficeFrameReceived
  split
  · rfl
  · split
    · rfl
    · rfl
    · exact State.officeSettle_core _

theorem execBankFrameReceived_core (chars : List RxChar) (s : State) :
    nextAll (fun t => t.core = s.core) (execBankFrameReceived chars s) := by
  unfold execBankFrameReceived
  split
  · rfl
  · split <;> rfl

theorem execLaneAnswerSent_core (lane : Nat) (s : State) : nextAll (fun t => t.core = s.core) (execLaneAnswerSent lane s) := by
  unfold execLaneAnswerSent
  dsimp only
  split <;> rfl

theorem execOfficeFrameSent_core (s : State) : nextAll (fun t => t.core = s.core) (execOfficeFrameSent s) := by
  unfold execOfficeFrameSent
  split
  · rfl
  · split
    · exact State.officeSettle_core _
    all_goals rfl

theorem execPayFrameSent_core (s : State) : nextAll (fun t => t.core = s.core) (execPayFrameSent s) := by
  unfold execPayFrameSent
  split <;> rfl

theorem execLaneBadRequest_core (s : State) : nextAll (fun t => t.core = s.core) (execLaneBadRequest s) := by
  unfold execLaneBadRequest
  split
  · exact State.handOver_core ..
  · rfl

theorem execAttnChoice_core (s : State) : nextAll (fun t => t.core = s.core) (execAttnChoice s) := by
  unfold execAttnChoice
  split
  · rfl
  · split <;> rfl

theorem execOfficeBadRequest_core (s : State) : nextAll (fun t => t.core = s.core) (execOfficeBadRequest s) := by
  unfold execOfficeBadRequest
  split
  · split
    · rfl
    · exact State.refuse_core ..
  · rfl

theorem execTransmitterBeginsFrame_core (link : Nat) (s : State) :
    nextAll (fun t => t.core = s.core) (execTransmitterBeginsFrame link s) := by
  unfold execTransmitterBeginsFrame
  split_ifs <;> rfl

/-- An office request whose service leaves the core alone. -/
theorem officeStep_core {kind : Nat} {serve : List Byte → State → State} (h : ∀ b s, (serve b s).core = s.core) (s : State) :
    (officeStep kind serve s).core = s.core :=
  officeStep_of (P := fun t => t.core = s.core) rfl fun b _ => h b s

theorem serveLaneUp_core (b : List Byte) (s : State) : (serveLaneUp b s).core = s.core := by
  unfold serveLaneUp
  dsimp only
  split
  · exact State.refuse_core ..
  · exact State.done_core ..

theorem serveLaneStatus_core (b : List Byte) (s : State) : (serveLaneStatus b s).core = s.core := by
  unfold serveLaneStatus
  dsimp only
  split_ifs <;> exact State.answerOffice_core ..

theorem serveReadStatus_core (b : List Byte) (s : State) : (serveReadStatus b s).core = s.core := State.done_core ..

theorem serveRestart_core (b : List Byte) (s : State) : (serveRestart b s).core = s.core := State.done_core ..

theorem serveReadTable_core (b : List Byte) (s : State) : (serveReadTable b s).core = s.core := by
  unfold serveReadTable
  split_ifs <;> exact State.answerOffice_core ..

theorem serveReadSnap_core (b : List Byte) (s : State) : (serveReadSnap b s).core = s.core := by
  unfold serveReadSnap
  split <;> exact State.answerOffice_core ..

theorem serveJournalRead_core (b : List Byte) (s : State) : (serveJournalRead b s).core = s.core := by
  unfold serveJournalRead
  dsimp only
  split
  · split <;> exact State.answerOffice_core ..
  · exact State.refuse_core ..

theorem serveStreamSet_core (b : List Byte) (s : State) : (serveStreamSet b s).core = s.core := by
  unfold serveStreamSet
  split <;> exact State.answerOffice_core ..

theorem serveAttnMask_core (b : List Byte) (s : State) : (serveAttnMask b s).core = s.core := State.done_core ..

theorem serveAttnEnd_core (b : List Byte) (s : State) : (serveAttnEnd b s).core = s.core := by
  unfold serveAttnEnd
  dsimp only
  split
  · exact State.refuse_core ..
  · split
    · exact State.refuse_core ..
    · split <;> exact State.answerOffice_core ..

theorem serveAttnMode_core (b : List Byte) (s : State) : (serveAttnMode b s).core = s.core := by
  unfold serveAttnMode
  split <;> exact State.answerOffice_core ..

/-- The commands that only receive, send, read or answer. -/
inductive LinkCommand : Instr → Prop
  | idleGap (link : Nat) : LinkCommand (.idleGap link)
  | truncatedFrame (link : Nat) : LinkCommand (.truncatedFrame link)
  | laneFrameReceived (lane : Nat) (chars : List RxChar) : LinkCommand (.laneFrameReceived lane chars)
  | officeFrameReceived (chars : List RxChar) : LinkCommand (.officeFrameReceived chars)
  | bankFrameReceived (chars : List RxChar) : LinkCommand (.bankFrameReceived chars)
  | laneAnswerSent (lane : Nat) : LinkCommand (.laneAnswerSent lane)
  | officeFrameSent : LinkCommand .officeFrameSent
  | payFrameSent : LinkCommand .payFrameSent
  | laneBadRequest : LinkCommand .laneBadRequest
  | attnChoice : LinkCommand .attnChoice
  | laneUp : LinkCommand .laneUp
  | laneStatus : LinkCommand .laneStatus
  | readStatus : LinkCommand .readStatus
  | restart : LinkCommand .restart
  | readTable : LinkCommand .readTable
  | readSnap : LinkCommand .readSnap
  | journalRead : LinkCommand .journalRead
  | streamSet : LinkCommand .streamSet
  | attnMask : LinkCommand .attnMask
  | attnEnd : LinkCommand .attnEnd
  | attnMode : LinkCommand .attnMode
  | officeBadRequest : LinkCommand .officeBadRequest
  | transmitterBeginsFrame (link : Nat) : LinkCommand (.transmitterBeginsFrame link)

/-- They leave the core alone. -/
theorem LinkCommand.core {i : Instr} (hi : LinkCommand i) (s : State) : nextAll (fun t => t.core = s.core) (exec i s) := by
  cases hi with
  | idleGap link => exact execIdleGap_core link s
  | truncatedFrame link => exact execTruncatedFrame_core link s
  | laneFrameReceived lane chars => exact execLaneFrameReceived_core lane chars s
  | officeFrameReceived chars => exact execOfficeFrameReceived_core chars s
  | bankFrameReceived chars => exact execBankFrameReceived_core chars s
  | laneAnswerSent lane => exact execLaneAnswerSent_core lane s
  | officeFrameSent => exact execOfficeFrameSent_core s
  | payFrameSent => exact execPayFrameSent_core s
  | laneBadRequest => exact execLaneBadRequest_core s
  | attnChoice => exact execAttnChoice_core s
  | laneUp => exact officeStep_core serveLaneUp_core s
  | laneStatus => exact officeStep_core serveLaneStatus_core s
  | readStatus => exact officeStep_core serveReadStatus_core s
  | restart => exact officeStep_core serveRestart_core s
  | readTable => exact officeStep_core serveReadTable_core s
  | readSnap => exact officeStep_core serveReadSnap_core s
  | journalRead => exact officeStep_core serveJournalRead_core s
  | streamSet => exact officeStep_core serveStreamSet_core s
  | attnMask => exact officeStep_core serveAttnMask_core s
  | attnEnd => exact officeStep_core serveAttnEnd_core s
  | attnMode => exact officeStep_core serveAttnMode_core s
  | officeBadRequest => exact execOfficeBadRequest_core s
  | transmitterBeginsFrame link => exact execTransmitterBeginsFrame_core link s

theorem OfCore.link {P : State → Prop} (hP : OfCore P) {i : Instr} (hi : LinkCommand i) {s : State} (hs : P s) :
    nextAll P (exec i s) :=
  (hi.core s).mono fun _ ht => hP.of_eq ht hs

end Sys2Proof.Machine
end

section
/-! PROOFS. The journal stays sound (R131, R178, R179, R180). -/

namespace Sys2Proof.Machine

/-! ### The invariant with n reservations of the work in hand -/

/-- The journal is sound while the work in hand holds n reservations besides that of an outstanding close; such work is done only while
the warning is not asserted. -/
def State.journalHolds (s : State) (n : Nat) : Prop :=
  (s.store.signature = true →
    1 ≤ s.store.oldestUnack ∧ s.store.oldestUnack ≤ s.journal.nextStream ∧ s.journal.nextStream ≤ s.store.nextToWrite) ∧
  s.unack + s.journal.reserved ≤ 16384 ∧ s.store.nextToWrite + s.journal.reserved ≤ 4294967296 ∧
  (s.pfw = false → s.journal.reserved = s.ledger.closeOutstanding.toNat + n) ∧ (0 < n → s.pfw = false)

theorem State.journalSound_iff (s : State) : s.journalSound ↔ s.journalHolds 0 := by
  simp [State.journalSound, State.journalHolds]

theorem State.journalHolds_ofCore (n : Nat) : OfCore (fun s => s.journalHolds n) := fun _ => Iff.rfl

/-- What the invariant looks at. -/
def State.journalView (s : State) : Bool × Bool × Nat × Nat × Nat × Nat × Bool :=
  (s.pfw, s.store.signature, s.store.oldestUnack, s.store.nextToWrite, s.journal.nextStream, s.journal.reserved,
    s.ledger.closeOutstanding)

theorem State.journalHolds.of_view {s t : State} {n : Nat} (h : s.journalHolds n) (hv : t.journalView = s.journalView) :
    t.journalHolds n := by
  simp only [State.journalView, Prod.mk.injEq] at hv
  obtain ⟨h1, h2, h3, h4, h5, h6, h7⟩ := hv
  simpa only [State.journalHolds, State.unack, State.nextWrite, State.oldest, h1, h2, h3, h4, h5, h6, h7] using h

/-- A view left alone by a next state. -/
theorem State.journalHolds.of_nextAll_view {s : State} {o : Out} (h : s.journalHolds 0)
    (ho : nextAll (fun t => t.journalView = s.journalView) o) : nextAll (fun t => t.journalHolds 0) o :=
  ho.mono fun _ => h.of_view

theorem State.raiseIf_journalView (s : State) (b : Bool) (src : Source) : (s.raiseIf b src).journalView = s.journalView := by
  rw [State.raiseIf_frame]; rfl

theorem State.unack_of_signature {s : State} (h : s.store.signature = true) :
    s.unack = s.store.nextToWrite - s.store.oldestUnack := by
  simp [State.unack, State.nextWrite, State.oldest, h]

theorem State.unack_of_blank {s : State} (h : s.store.signature = false) : s.unack = 0 := by
  simp [State.unack, State.nextWrite, State.oldest, h]

theorem State.canReserve_spec {s : State} {cls : ResClass} {n : Nat} (h : s.canReserve cls n = true) :
    s.pfw = false ∧ s.store.signature = true ∧ s.unack + s.journal.reserved + n ≤ cls.limit ∧
      s.store.nextToWrite + s.journal.reserved + n ≤ 4294967296 := by
  simp only [State.canReserve, State.numberingSpent, Bool.and_eq_true, Bool.not_eq_true', decide_eq_true_eq,
    decide_eq_false_iff_not, not_lt, Config.wrap32] at h
  obtain ⟨⟨⟨hp, hg⟩, hl⟩, hn⟩ := h
  exact ⟨hp, hg, hl, by simpa [State.nextWrite, hg] using hn⟩

theorem ResClass.limit_le (cls : ResClass) : cls.limit ≤ 16384 := by cases cls <;> decide

/-- A grant of n is held by the work in hand (R180). -/
theorem State.journalHolds.reserve {s t : State} {cls : ResClass} {m n : Nat} (h : s.journalHolds m)
    (hr : s.reserve cls n = some t) : t.journalHolds (m + n) := by
  obtain ⟨hc, rfl⟩ := State.reserve_eq hr
  obtain ⟨hp, hg, hl, hn⟩ := State.canReserve_spec hc
  obtain ⟨horder, -, -, hres, -⟩ := h
  have := cls.limit_le
  refine ⟨by simpa using horder, ?_, ?_, ?_, fun _ => by simpa using hp⟩
  · simp only [State.raiseIf_unack, State.raiseIf_journal]
    exact (Nat.add_assoc ..).symm.le.trans (hl.trans this)
  · simpa [← Nat.add_assoc] using hn
  · intro _; simp [hres hp, Nat.add_assoc]

/-- An append uses a reservation of the work in hand (R178, R180). -/
theorem State.journalHolds.append {s : State} {n : Nat} (h : s.journalHolds (n + 1)) (p : Nat) (b : EntryBody) :
    (s.append p b).journalHolds n := by
  obtain ⟨horder, hring, hnum, hres, hp⟩ := h
  have hr := hres (hp n.succ_pos)
  refine ⟨fun hg => ?_, ?_, ?_, fun _ => ?_, fun _ => ?_⟩
  · obtain ⟨h1, h2, h3⟩ := horder (by simpa using hg)
    exact ⟨by simpa using h1, by simpa using h2, by simpa using Nat.le_succ_of_le h3⟩
  · cases hg : s.store.signature
    · rw [State.unack_of_blank (by simpa using hg)]; simp; omega
    · rw [State.unack_of_signature (by simpa using hg)]
      rw [State.unack_of_signature hg] at hring
      simp; omega
  · simp; omega
  · simp [hr, ← Nat.add_assoc]
  · simpa using hp n.succ_pos

theorem State.journalHolds.giveBack {s : State} {n : Nat} (h : s.journalHolds (n + 1)) : (s.giveBack 1).journalHolds n := by
  obtain ⟨horder, hring, hnum, hres, hp⟩ := h
  have hr := hres (hp n.succ_pos)
  exact ⟨horder, by show s.unack + (s.journal.reserved - 1) ≤ _; omega,
    by show s.store.nextToWrite + (s.journal.reserved - 1) ≤ _; omega,
    fun _ => by show s.journal.reserved - 1 = s.ledger.closeOutstanding.toNat + n; omega, fun _ => hp n.succ_pos⟩

theorem State.journalHolds.post {s : State} {n : Nat} (h : s.journalHolds (n + 1)) (b : EntryBody) (e : Option Effect) :
    (s.post b e).journalHolds n := by
  cases e with
  | none => exact h.append s.ledger.period b
  | some e => exact (h.append s.ledger.period b).of_view (by rfl)

/-- A commit under one reservation: whatever else it writes, one entry is appended (R49). -/
theorem State.journalHolds.commit {s s1 t : State} {cls : ResClass} (h : s.journalHolds 0) (hr : s.reserve cls 1 = some s1)
    (hv : t.journalView = s1.journalView) (b : EntryBody) (e : Option Effect) : (t.post b e).journalHolds 0 :=
  ((h.reserve hr).of_view hv).post b e

theorem State.journalHolds.commitRoll {s : State} {n : Nat} (h : s.journalHolds (n + 1)) (k : Nat) :
    (s.commitRoll k).journalHolds n := by
  unfold State.commitRoll
  exact State.journalHolds.of_view (State.journalHolds.append (State.journalHolds.of_view h (by rfl)) _ _)
    (State.raiseIf_journalView _ _ _)

theorem State.journalHolds.rollIfBehind {s t : State} {k : Nat} (h : s.journalHolds 0) (hr : s.rollIfBehind k = some t) :
    t.journalHolds 0 := by
  unfold State.rollIfBehind at hr
  split at hr
  · obtain ⟨s1, hs1, rfl⟩ := Option.map_eq_some_iff.mp hr
    exact (h.reserve hs1).commitRoll k
  · cases hr; exact h

theorem State.journalHolds.rollForEffect {s t : State} {e : Effect} (h : s.journalHolds 0) (hr : s.rollForEffect e = some t) :
    t.journalHolds 0 := by
  unfold State.rollForEffect at hr
  split at hr
  · exact h.rollIfBehind hr
  · cases hr; exact h

/-! ### What leaves the view alone -/

theorem State.noteFault_journalView (s : State) (serial : Nat) : (s.noteFault serial).journalView = s.journalView := by
  unfold State.noteFault
  split_ifs <;> rfl

theorem State.noteWork_journalView (s : State) : s.noteWork.journalView = s.journalView := by
  rw [State.noteWork_frame]; rfl

theorem State.grantSlots_journalView (s : State) : s.grantSlots.journalView = s.journalView := by
  rw [State.grantSlots_frame]; rfl

theorem State.applyEffect_journalView (s : State) (e : Effect) (source : Nat) :
    (s.applyEffect e source).journalView = s.journalView := by
  cases e <;> exact State.raiseIf_journalView ..

theorem State.makeCounts_journalView (s : State) : s.makeCounts.journalView = s.journalView := by
  unfold State.makeCounts
  split
  · rfl
  · exact State.raiseIf_journalView ..

theorem State.makeSettled_journalView (s : State) (k : Nat) : (s.makeSettled k).journalView = s.journalView :=
  State.raiseIf_journalView ..

theorem State.makeReturned_journalView (s : State) (k : Nat) : (s.makeReturned k).journalView = s.journalView :=
  State.raiseIf_journalView ..

theorem State.rearm_journalView (s : State) : s.rearm.journalView = s.journalView := by
  unfold State.rearm
  exact (State.raiseIf_journalView ..).trans (State.raiseIf_journalView ..)

/-! ### The operations that touch nothing of it -/

section
variable {s : State} {n : Nat} (h : s.journalHolds n)
include h

theorem State.journalHolds.noteFault (serial : Nat) : (s.noteFault serial).journalHolds n :=
  h.of_view (State.noteFault_journalView s serial)

theorem State.journalHolds.grantSlots : s.grantSlots.journalHolds n := h.of_view (State.grantSlots_journalView s)

theorem State.journalHolds.raiseIf (b : Bool) (src : Source) : (s.raiseIf b src).journalHolds n :=
  h.of_view (State.raiseIf_journalView s b src)

theorem State.journalHolds.applyEffect (e : Effect) (source : Nat) : (s.applyEffect e source).journalHolds n :=
  h.of_view (State.applyEffect_journalView s e source)

theorem State.journalHolds.makeCounts : s.makeCounts.journalHolds n := h.of_view (State.makeCounts_journalView s)

end

/-! ### The Card Ledger -/

theorem State.journalHolds.declines {s t : State} (h : s.journalHolds 0) (hd : Declines s t) : t.journalHolds 0 := by
  cases hd with
  | kept => exact h
  | noted serial => exact h.of_view (State.noteFault_journalView s serial)
  | failed serial prog _ _ hr => exact h.commit hr (by rfl) _ _

theorem State.journalHolds.answers {s t : State} (h : s.journalHolds 0) (ha : Answers s t) : t.journalHolds 0 := by
  cases ha with
  | kept code data => exact (State.journalHolds_ofCore 0).of_eq (State.answerOffice_core ..) h
  | noted serial expected code data =>
    exact (State.journalHolds_ofCore 0).of_eq (State.answerOffice_core ..) (h.of_view (State.noteFault_journalView s serial))

theorem State.journalHolds.officeCommits {s t : State} {serial : Nat} {r : CardRecord} {totals : Totals} {body : EntryBody}
    {effect : Option Effect} (h : s.journalHolds 0) (hc : officeCommits s t serial r totals body effect) : t.journalHolds 0 := by
  obtain ⟨s1, hr, rfl⟩ := hc
  exact (State.journalHolds_ofCore 0).done (h.commit (t := (s1.writeCard serial r).setTotals totals) hr (by rfl) _ _) _

/-- A lane request keeps the journal when its decision does. -/
theorem State.journalHolds.laneStep {s : State} {kind : Nat} {decision : LaneReq → State → State × Reply} (h : s.journalHolds 0)
    (hd : ∀ req u, u.journalHolds 0 → (decision req u).1.journalHolds 0) : (laneStep kind decision s).journalHolds 0 :=
  (State.journalHolds_ofCore 0).laneStep h fun _ _ _ hu => hd _ _ hu

theorem State.journalHolds.cardStep {s : State} {kind : Nat} {serve : List Byte → State → State} (h : s.journalHolds 0)
    (hd : ∀ b u, u.journalHolds 0 → (serve b u).journalHolds 0) : (cardStep kind serve s).journalHolds 0 :=
  cardStep_of (P := fun t => t.journalHolds 0) h fun b _ => hd b _ ((State.journalHolds_ofCore 0).takeOffice h)

section
variable {u : State} (h : u.journalHolds 0)
include h

theorem decideActivate_journal (req : LaneReq) : (decideActivate req u).1.journalHolds 0 := by
  rcases decideActivate_cases req u with hd | ⟨shop, prog, s1, -, -, -, hr, e⟩
  · exact h.declines hd
  · rw [e]; exact h.commit hr (by rfl) _ _

theorem decideLoad_journal (req : LaneReq) : (decideLoad req u).1.journalHolds 0 := by
  rcases decideLoad_cases req u with hd | ⟨shop, prog, s1, -, -, hr, e⟩
  · exact h.declines hd
  · rw [e]; exact h.commit hr (by rfl) _ _

theorem decideRedeem_journal (req : LaneReq) : (decideRedeem req u).1.journalHolds 0 := by
  rcases decideRedeem_cases req u with hd | ⟨shop, prog, s1, amount, result, -, -, hr, e⟩
  · exact h.declines hd
  · rw [e]; exact h.commit hr (by rfl) _ _

theorem decideCashout_journal (req : LaneReq) : (decideCashout req u).1.journalHolds 0 := by
  rcases decideCashout_cases req u with hd | ⟨shop, prog, s1, -, -, -, -, hr, e⟩
  · exact h.declines hd
  · rw [e]; exact h.commit hr (by rfl) _ _

theorem decideAuthorize_journal (req : LaneReq) : (decideAuthorize req u).1.journalHolds 0 := by
  rcases decideAuthorize_cases req u with hd | ⟨shop, prog, s1, slot, amount, result, -, -, -, -, hr, e⟩
  · exact h.declines hd
  · rw [e]; exact h.commit hr (by rfl) _ _

theorem decideCapture_journal (req : LaneReq) : (decideCapture req u).1.journalHolds 0 := by
  rcases decideCapture_cases req u with hd | ⟨s1, slot, gen, hold, -, -, -, -, -, -, hr, e⟩
  · exact h.declines hd
  · rw [e]; exact h.commit hr (by rfl) _ _

theorem decideVoid_journal (req : LaneReq) : (decideVoid req u).1.journalHolds 0 := by
  rcases decideVoid_cases req u with hd | ⟨s1, slot, gen, hold, -, -, -, hr, e⟩
  · exact h.declines hd
  · rw [e]; exact h.commit hr (by rfl) _ _

theorem decideRefund_journal (req : LaneReq) : (decideRefund req u).1.journalHolds 0 := by
  rcases decideRefund_cases req u with hd | ⟨shop, s1, rec, -, -, -, -, -, -, -, hr, e⟩
  · exact h.declines hd
  · rw [e]; exact h.commit (t := { (s1.writeCard _ _).setTotals _ with store.window := _ }) hr (by rfl) _ _

theorem State.expire_journal (it : ExpiryItem) : (u.expire it).journalHolds 0 := by
  rcases u.expire_cases it with ⟨-, e⟩ | ⟨slot, gen, hold, -, ⟨-, e⟩ | ⟨s1, hr, ⟨-, e⟩ | ⟨-, -, e⟩ | ⟨-, -, e⟩⟩⟩ <;> rw [e]
  · exact h.of_view (by rfl)
  · exact h
  · exact h.commit hr (by rfl) _ _
  · exact h.commit hr ((by rfl : _ = (s1.noteFault hold.card).journalView).trans (State.noteFault_journalView s1 hold.card)) _ _
  · exact h.commit hr (by rfl) _ _

theorem serveProvision_journal (b : List Byte) : (serveProvision b u).journalHolds 0 := by
  rcases serveProvision_cases b u with ha | ⟨_, -, -, -, hc⟩
  · exact h.answers ha
  · exact h.officeCommits hc

theorem serveSuspend_journal (b : List Byte) : (serveSuspend b u).journalHolds 0 := by
  rcases serveSuspend_cases b u with ha | ⟨_, -, -, hc⟩
  · exact h.answers ha
  · exact h.officeCommits hc

theorem serveResume_journal (b : List Byte) : (serveResume b u).journalHolds 0 := by
  rcases serveResume_cases b u with ha | ⟨_, -, -, hc⟩
  · exact h.answers ha
  · exact h.officeCommits hc

theorem serveCloseCard_journal (b : List Byte) : (serveCloseCard b u).journalHolds 0 := by
  rcases serveCloseCard_cases b u with ha | ⟨_, -, -, -, -, -, hc⟩
  · exact h.answers ha
  · exact h.officeCommits hc

theorem serveAdjust_journal (b : List Byte) : (serveAdjust b u).journalHolds 0 := by
  rcases serveAdjust_cases b u with ha | ⟨_, _, -, -, -, -, -, -, -, hc⟩
  · exact h.answers ha
  · exact h.officeCommits hc

theorem serveRewriteCard_journal (b : List Byte) : (serveRewriteCard b u).journalHolds 0 := by
  rcases serveRewriteCard_cases b u with ha | ⟨prog, r, s1, s2, -, -, hs1, -, -, -, -, hr, e⟩
  · exact h.answers ha
  · have h1 : s1.journalHolds 0 := by
      rcases hs1 with ⟨-, rfl⟩ | ⟨-, -, rfl⟩
      · exact h
      · exact h.noteFault _
    rw [e]
    refine (State.journalHolds_ofCore 0).done (State.journalHolds.of_view (h1.commit hr ?view _ none) (by rfl)) _
    case view => rfl

/-- FORMAT destroys the signature: the pointers read as those of an empty ring (R44, R178). -/
theorem serveFormat_journal (b : List Byte) : (serveFormat b u).journalHolds 0 := by
  unfold serveFormat
  split
  · exact (State.journalHolds_ofCore 0).refuse h _
  · obtain ⟨-, hring, hnum, hres, hp⟩ := h
    refine ⟨fun hg => absurd hg Bool.false_ne_true, ?_, hnum, hres, hp⟩
    rw [State.unack_of_blank rfl]
    show 0 + u.journal.reserved ≤ _
    omega

theorem serveOpenLedger_journal (b : List Byte) : (serveOpenLedger b u).journalHolds 0 := by
  unfold serveOpenLedger
  split
  · exact (State.journalHolds_ofCore 0).refuse h _
  · split
    · exact (State.journalHolds_ofCore 0).refuse h _
    · next s1 hr =>
      exact (State.journalHolds_ofCore 0).done
        (State.journalHolds.append (State.journalHolds.of_view (h.reserve hr) (by rfl)) _ _) _

/-- An accepted CLOSE_PERIOD keeps its reservation while it is outstanding (R131). -/
theorem serveClosePeriod_journal (hfree : u.ledger.closeOutstanding = false) (b : List Byte) :
    (serveClosePeriod b u).journalHolds 0 := by
  unfold serveClosePeriod
  split_ifs
  any_goals exact (State.journalHolds_ofCore 0).refuse h _
  split
  · exact (State.journalHolds_ofCore 0).refuse h _
  · next s1 hr =>
    obtain ⟨horder, hring, hnum, hres, hp⟩ := h.reserve hr
    have hclose : s1.ledger.closeOutstanding = false := by
      obtain ⟨-, e⟩ := State.reserve_eq hr
      rw [e]; simpa using hfree
    refine ⟨horder, hring, hnum, fun hw => ?_, fun hn => absurd hn (Nat.lt_irrefl 0)⟩
    have := hres hw
    rw [hclose] at this
    exact this

end

/-! ### The Settlement Unit -/

section
variable {s : State}

theorem execAccrualApply_journal (h : s.journalHolds 0) : nextAll (fun t => t.journalHolds 0) (execAccrualApply s) := by
  unfold execAccrualApply
  split
  · split
    · split
      · next s1 hr =>
        have h1 : s1.journalHolds 0 := (h.of_view (State.noteWork_journalView s)).rollForEffect hr
        exact (h1.applyEffect _ _).of_view (by rfl)
      · exact h
    · exact h
  · exact h

/-- The reservation of an outstanding close is used by its PERIOD entry or given back (R131, R132, R133). -/
theorem State.journalHolds.closeEnds {u : State} (h : s.journalHolds 0) (hp : s.pfw = false)
    (hc : s.ledger.closeOutstanding = true)
    (hv : u.journalView = ({ s with ledger.closeOutstanding := false } : State).journalView) : u.journalHolds 1 := by
  refine State.journalHolds.of_view (s := { s with ledger.closeOutstanding := false }) ?_ hv
  obtain ⟨horder, hring, hnum, hres, -⟩ := h
  refine ⟨horder, hring, hnum, fun hw => ?_, fun _ => hp⟩
  have := hres hw
  rw [hc] at this
  exact this

theorem foldl_setChannel_frame (f : State → Nat → Channel) (l : List Nat) (s : State) :
    ∃ a, l.foldl (fun t c => t.setChannel c (f t c)) s = { s with channels := a } := by
  induction l generalizing s with
  | nil => exact ⟨_, rfl⟩
  | cons c l ih =>
    obtain ⟨a, ha⟩ := ih (s.setChannel c (f s c))
    exact ⟨a, by rw [List.foldl_cons, ha]; rfl⟩

/-- The advance notice writes channels and grants slots (R157). -/
theorem State.advanceNotice_frame (s : State) :
    ∃ a b c, s.advanceNotice = { s with settle := a, channels := b, plu := c } := by
  unfold State.advanceNotice
  obtain ⟨d, hd⟩ := foldl_setChannel_frame (fun t c => (t.channel c).advanceNotice) [0, 1, 2, 3] s
  rw [hd, State.grantSlots_frame]
  exact ⟨_, _, _, rfl⟩

theorem State.journalHolds.advanceNotice {n : Nat} (h : s.journalHolds n) : s.advanceNotice.journalHolds n := by
  obtain ⟨a, b, c, e⟩ := s.advanceNotice_frame
  rw [e]; exact h.of_view (by rfl)

theorem execCloseEntry_journal (h : s.journalHolds 0) : nextAll (fun t => t.journalHolds 0) (execCloseEntry s) := by
  unfold execCloseEntry
  split
  · next hw =>
    obtain ⟨hp, -⟩ := State.nextWork_spec hw
    split
    · next requested rest _ =>
      dsimp only
      split
      · exact h
      · next hc =>
        have ends := fun u (hv : State.journalView u = _) => h.closeEnds (u := u) hp (by simpa using hc) hv
        have refuses : ∀ code, (s.noteWork.refuseClose code).journalHolds 0 := fun code =>
          (State.journalHolds_ofCore 0).refuse (ends _ (by rw [State.noteWork_frame]; rfl)).giveBack _
        split
        · exact refuses _
        · split
          · exact refuses _
          · have hcommit : (s.noteWork.commitPeriod requested).journalHolds 0 := by
              unfold State.commitPeriod
              exact State.journalHolds.append (ends _ (by rw [State.noteWork_frame]; rfl)) _ _
            exact (State.journalHolds_ofCore 0).done hcommit.advanceNotice _
    · exact h
  · exact h

theorem execRollSweep_journal (h : s.journalHolds 0) : nextAll (fun t => t.journalHolds 0) (execRollSweep s) := by
  unfold execRollSweep
  split
  · split
    · next hr => exact ((h.reserve hr).commitRoll _).of_view (by rfl)
    · exact h
  · exact h

theorem execSlotGrant_journal (h : s.journalHolds 0) : nextAll (fun t => t.journalHolds 0) (execSlotGrant s) := by
  unfold execSlotGrant
  split
  · next s1 hg =>
    obtain ⟨a, b, c, rfl⟩ := State.grantOnce_frame hg
    exact h.of_view (by rfl)
  · exact h

/-- A visit uses both of its reservations or gives back what it does not use (R153). -/
theorem State.journalHolds.makeVisit (h : s.journalHolds 2) (v : Visit) : (s.makeVisit v).1.journalHolds 0 := by
  unfold State.makeVisit
  dsimp only
  have h1 : (if s.behind v.shop = true then s.commitRoll v.shop else s.giveBack 1).journalHolds 1 := by
    split
    · exact h.commitRoll _
    · exact h.giveBack
  generalize (if s.behind v.shop = true then s.commitRoll v.shop else s.giveBack 1) = s1 at h1
  split
  · exact State.journalHolds.append (State.journalHolds.of_view h1 (by rfl)) _ _
  · exact State.journalHolds.giveBack (State.journalHolds.of_view h1 (by rfl))

theorem State.takeVisit_journalView (s : State) : s.takeVisit.journalView = s.journalView := by
  unfold State.takeVisit
  rw [State.noteWork_frame]; rfl

theorem execChannelVisit_journal (h : s.journalHolds 0) : nextAll (fun t => t.journalHolds 0) (execChannelVisit s) := by
  unfold execChannelVisit
  split
  · split
    · next v rest _ =>
      have h0 : s.takeVisit.journalHolds 0 := h.of_view (State.takeVisit_journalView s)
      show (s.takeVisit.serveVisit v).journalHolds 0
      unfold State.serveVisit
      split
      · exact State.journalHolds.grantSlots (h0.of_view (by rfl))
      · next s1 hr =>
        have hv : (s1.makeVisit v).1.journalHolds 0 := (h0.reserve hr).makeVisit v
        exact State.journalHolds.grantSlots (State.journalHolds.raiseIf (hv.of_view (by rfl)) _ _)
    · exact h
  · exact h

theorem execBankFrameTaken_journal (h : s.journalHolds 0) : nextAll (fun t => t.journalHolds 0) (execBankFrameTaken s) := by
  unfold execBankFrameTaken
  split
  · split
    · split <;> exact h.of_view (by rfl)
    · exact h
  · exact h

theorem execPull_journal (h : s.journalHolds 0) : nextAll (fun t => t.journalHolds 0) (execPull s) := by
  unfold execPull
  split
  · split
    · dsimp only
      split
      · exact h.of_view (by rfl)
      · exact State.journalHolds.grantSlots (h.of_view (by rfl))
    · exact h
  · exact h

theorem State.journalHolds.commitDone (h : s.journalHolds 1) (tag shop : Nat) (late : Bool) :
    (s.commitDone tag shop late).journalHolds 0 :=
  (h.of_view (State.makeSettled_journalView s shop)).append _ _

theorem State.journalHolds.commitBack (h : s.journalHolds 1) (tag shop reason : Nat) (late : Bool) :
    (s.commitBack tag shop reason late).journalHolds 0 :=
  ((h.of_view (State.makeReturned_journalView s shop)).append _ _).of_view (by rfl)

theorem State.journalHolds.releaseSlot (h : s.journalHolds 0) (k : Nat) : (s.releaseSlot k).journalHolds 0 :=
  State.journalHolds.grantSlots (h.of_view (by rfl))

theorem State.dropAnswer_journalView (s : State) : s.noteWork.dropAnswer.journalView = s.journalView := by
  rw [State.noteWork_frame]; rfl

theorem execDoneAnswer_journal (h : s.journalHolds 0) : nextAll (fun t => t.journalHolds 0) (execDoneAnswer s) := by
  unfold execDoneAnswer
  split
  · split
    · have h0 : s.noteWork.dropAnswer.journalHolds 0 := h.of_view (State.dropAnswer_journalView s)
      dsimp only
      split
      · exact h0.of_view (by rfl)
      · next hr => exact ((h0.reserve hr).commitDone _ _ _).releaseSlot _
      · next hr => exact ((h0.reserve hr).commitDone _ _ _).of_view (by rfl)
      · exact h
    · exact h
  · exact h

theorem execBackAnswer_journal (h : s.journalHolds 0) : nextAll (fun t => t.journalHolds 0) (execBackAnswer s) := by
  unfold execBackAnswer
  split
  · split
    · have h0 : s.noteWork.dropAnswer.journalHolds 0 := h.of_view (State.dropAnswer_journalView s)
      dsimp only
      split
      · exact h0.of_view (by rfl)
      · next hr => exact ((h0.reserve hr).commitBack _ _ _ _).releaseSlot _
      · next hr => exact ((h0.reserve hr).commitBack _ _ _ _).of_view (by rfl)
      · exact h
    · exact h
  · exact h

theorem execPayDeadlineReached_journal (h : s.journalHolds 0) (slot : Nat) :
    nextAll (fun t => t.journalHolds 0) (execPayDeadlineReached slot s) := by
  unfold execPayDeadlineReached
  split
  · split
    · exact h
    · exact h.of_view (by rfl)
  · exact h

theorem execDeadlineExpiry_journal (h : s.journalHolds 0) : nextAll (fun t => t.journalHolds 0) (execDeadlineExpiry s) := by
  unfold execDeadlineExpiry
  split
  · split
    · next k tag rest _ =>
      have h0 : s.noteWork.dropAnswer.journalHolds 0 := h.of_view (State.dropAnswer_journalView s)
      dsimp only
      split
      · next p _ =>
        split
        · split
          · next s2 hr =>
            have h1 : (s2.makeInDoubt p.shop).journalHolds 1 := (h0.reserve hr).of_view (by rfl)
            exact State.journalHolds.releaseSlot ((h1.append _ _).of_view (by rfl)) k
          · exact h
        · exact h0
      · exact h0
    · exact h
  · exact h

theorem execPaySend_journal (h : s.journalHolds 0) : nextAll (fun t => t.journalHolds 0) (execPaySend s) := by
  unfold execPaySend
  split
  · split
    · exact h
    · split <;> exact h.of_view (by rfl)
  · exact h

/-! ### Office shop requests -/

theorem State.journalHolds.shopStep (h : s.journalHolds 0) {kind : Nat} {serve : List Byte → State → State}
    (hd : ∀ b u, u.journalHolds 0 → (serve b u).journalHolds 0) : (shopStep kind serve s).journalHolds 0 :=
  shopStep_of (P := fun t => t.journalHolds 0) h ((State.journalHolds_ofCore 0).refuse h _)
    ((State.journalHolds_ofCore 0).refuse (s := requestServed s) (h.of_view (by rfl)) _)
    fun b _ _ _ => hd b _ (h.of_view (by rfl))

end

section
variable {u : State} (h : u.journalHolds 0)
include h

theorem serveSetShop_journal (b : List Byte) : (serveSetShop b u).journalHolds 0 := by
  have hP := State.journalHolds_ofCore 0
  unfold serveSetShop
  dsimp only
  split
  · exact hP.refuse h _
  · split
    · exact hP.refuse h _
    · split
      · exact hP.refuse h _
      · next s1 hr => exact hP.done ((h.rollIfBehind hr).of_view (by rfl)) _

theorem serveReadShop_journal (b : List Byte) : (serveReadShop b u).journalHolds 0 := by
  unfold serveReadShop
  dsimp only
  split
  · exact (State.journalHolds_ofCore 0).refuse h _
  · exact (State.journalHolds_ofCore 0).done h _

theorem serveSnapShop_journal (b : List Byte) : (serveSnapShop b u).journalHolds 0 := by
  have hP := State.journalHolds_ofCore 0
  unfold serveSnapShop
  dsimp only
  split
  · exact hP.refuse h _
  · split
    · exact hP.refuse h _
    · next s1 hr => exact hP.done ((h.rollIfBehind hr).of_view (by rfl)) _

theorem serveResolve_journal (b : List Byte) : (serveResolve b u).journalHolds 0 := by
  have hP := State.journalHolds_ofCore 0
  unfold serveResolve
  dsimp only
  split
  · exact hP.refuse h _
  · split
    · exact hP.refuse h _
    · split
      · exact hP.refuse h _
      · split
        · exact hP.refuse h _
        · next s1 hr =>
          refine hP.done (State.journalHolds.append ?_ _ _) _
          split
          · exact (h.reserve hr).of_view (State.makeSettled_journalView ..)
          · exact (h.reserve hr).of_view (State.makeReturned_journalView ..)

/-! ### Channels and tables -/

theorem serveSetChannel_journal (b : List Byte) : (serveSetChannel b u).journalHolds 0 := by
  have hP := State.journalHolds_ofCore 0
  unfold serveSetChannel
  split_ifs
  · exact hP.refuse h _
  · exact hP.refuse h _
  · split
    · exact hP.refuse h _
    · exact hP.done (State.journalHolds.of_view h (by rfl)) _

theorem serveArm_journal (c : Nat) : (serveArm c u).journalHolds 0 := by
  have hP := State.journalHolds_ofCore 0
  unfold serveArm
  dsimp only
  split
  · exact hP.refuse h _
  · exact hP.done (State.journalHolds.grantSlots (h.of_view (by rfl))) _

theorem serveStep_journal (c : Nat) : (serveStep c u).journalHolds 0 := by
  have hP := State.journalHolds_ofCore 0
  unfold serveStep
  dsimp only
  split
  · exact hP.done (State.journalHolds.grantSlots (h.of_view (by rfl))) _
  · exact hP.refuse h _

theorem serveMask_journal (c : Nat) : (serveMask c u).journalHolds 0 :=
  (State.journalHolds_ofCore 0).done (h.of_view (by rfl)) _

theorem serveUnmask_journal (c : Nat) : (serveUnmask c u).journalHolds 0 := by
  have hP := State.journalHolds_ofCore 0
  unfold serveUnmask
  dsimp only
  split
  · exact hP.done (State.journalHolds.grantSlots (h.of_view (by rfl))) _
  · exact hP.done (h.of_view (by rfl)) _
  · exact hP.refuse h _
  all_goals exact hP.done h _

theorem serveChannelStatus_journal (b : List Byte) : (serveChannelStatus b u).journalHolds 0 := by
  have hP := State.journalHolds_ofCore 0
  unfold serveChannelStatus
  dsimp only
  split
  · exact hP.refuse h _
  · exact hP.done (h.of_view (by rfl)) _

omit h in
theorem State.raiseBoundaries_journalView (s : State) (k b : Nat) : (s.raiseBoundaries k b).journalView = s.journalView := by
  unfold State.raiseBoundaries
  generalize ([1, 2, 3, 4, 5, 6, 7] : List Nat) = l
  induction l generalizing s with
  | nil => rfl
  | cons j l ih =>
    rw [List.foldl_cons, ih]
    split <;> rfl

theorem serveWriteProgram_journal (b : List Byte) : (serveWriteProgram b u).journalHolds 0 := by
  have hP := State.journalHolds_ofCore 0
  unfold serveWriteProgram
  dsimp only
  split
  · exact hP.refuse h _
  · split
    · exact hP.refuse h _
    · refine hP.done (h.of_view ?_) _
      unfold State.writeProgram
      split
      · exact State.raiseBoundaries_journalView ..
      · rfl

theorem serveWriteBinding_journal (b : List Byte) : (serveWriteBinding b u).journalHolds 0 := by
  have hP := State.journalHolds_ofCore 0
  unfold serveWriteBinding
  dsimp only
  split
  · exact hP.refuse h _
  · split
    · exact hP.refuse h _
    · exact hP.done (State.journalHolds.of_view h (by rfl)) _

theorem serveWriteSettings_journal (b : List Byte) : (serveWriteSettings b u).journalHolds 0 := by
  have hP := State.journalHolds_ofCore 0
  unfold serveWriteSettings
  split
  · exact hP.refuse h _
  · exact hP.done (State.journalHolds.of_view h (by rfl)) _

/-! ### Acknowledgement and streaming -/

/-- An acknowledgement moves oldest unacknowledged up to next to write at most, and drags next to stream (R183). -/
theorem serveJournalAck_journal (b : List Byte) : (serveJournalAck b u).journalHolds 0 := by
  refine (State.journalHolds_ofCore 0).done ?_ _
  split
  · next hv =>
    obtain ⟨horder, hring, hnum, hres, hp⟩ := h
    have hg : u.store.signature = true := by
      by_contra hg
      simp [State.oldest, State.ackValue, State.nextWrite, hg] at hv
    obtain ⟨h1, h2, h3⟩ := horder hg
    have hle : u.ackValue (officeSequence b) + 1 ≤ u.store.nextToWrite := by
      simp only [State.ackValue, State.nextWrite, hg, if_true]; omega
    have hold : u.store.oldestUnack ≤ u.ackValue (officeSequence b) := by simpa [State.oldest, hg] using hv
    refine ⟨fun _ => ⟨Nat.le_add_left .., Nat.le_max_right .., Nat.max_le.mpr ⟨h3, hle⟩⟩, ?_, hnum, hres, hp⟩
    rw [State.unack_of_signature hg] at hring
    rw [State.unack_of_signature (s := u.acknowledge _) hg]
    show u.store.nextToWrite - (u.ackValue (officeSequence b) + 1) + u.journal.reserved ≤ _
    omega
  · exact h

omit h in
theorem State.streamable_le (s : State) : ∀ n k, k ≤ s.nextWrite → k + (s.streamable n k).length ≤ s.nextWrite
  | 0, _, h => h
  | n + 1, k, h => by
    unfold State.streamable
    split
    · split
      · next hlt => have := State.streamable_le s n (k + 1) hlt; simp only [List.length_cons]; omega
      · exact h
    · exact h

omit h in
theorem fitting_length_le (room : Nat) (es : List JournalEntry) : (fitting room es).length ≤ es.length := by
  induction es generalizing room with
  | nil => exact Nat.le_refl _
  | cons e es ih =>
    unfold fitting
    split
    · exact Nat.succ_le_succ (ih _)
    · exact Nat.zero_le _

theorem execStreamMark_journal : nextAll (fun t => t.journalHolds 0) (execStreamMark u) := by
  unfold execStreamMark
  split
  · dsimp only
    split
    · exact State.journalHolds.of_view h (by rfl)
    · next hn =>
      obtain ⟨horder, hring, hnum, hres, hp⟩ := h
      refine ⟨fun hg => ?_, hring, hnum, hres, hp⟩
      obtain ⟨h1, h2, h3⟩ := horder hg
      have hw : u.nextWrite = u.store.nextToWrite := by
        have : u.store.signature = true := hg
        simp [State.nextWrite, this]
      have hfit := fitting_length_le 249 (u.streamable 4 u.journal.nextStream)
      have hle := u.streamable_le 4 u.journal.nextStream (hw ▸ h3)
      refine ⟨h1, h2.trans (Nat.le_add_right ..), ?_⟩
      show u.journal.nextStream + u.streamEntries.length ≤ u.store.nextToWrite
      unfold State.streamEntries
      omega
  · exact h

/-! ### Resets, the warning, recovery -/

/-- A reset gives every reservation back and puts next to stream at oldest unacknowledged (R178, R180). -/
theorem resetChip_journal (cause : ResetCause) (capacity : Nat) (pfw : Bool) : (resetChip cause capacity pfw u).journalHolds 0 := by
  obtain ⟨horder, hring, hnum, hres, hp⟩ := h
  refine ⟨fun hg => ?_, ?_, ?_, fun _ => rfl, fun hn => absurd hn (Nat.lt_irrefl 0)⟩
  · have hg' : u.store.signature = true := hg
    obtain ⟨h1, h2, h3⟩ := horder hg'
    have ho : (resetChip cause capacity pfw u).journal.nextStream = u.store.oldestUnack := by
      show u.oldest = _
      simp [State.oldest, hg']
    rw [ho]
    exact ⟨h1, le_refl _, h2.trans h3⟩
  · show u.unack + 0 ≤ _; omega
  · show u.store.nextToWrite + 0 ≤ _; omega

omit h in
theorem State.workInHand_pos {k n : Nat} (hw : u.workInHand = some (k, n)) : 0 < n := by
  have rolls : ∀ e : Effect, e.rolls = some (k, n) → 0 < n := by
    intro e he
    obtain ⟨j, -, hj⟩ := Option.map_eq_some_iff.mp he
    cases hj; exact Nat.one_pos
  unfold State.workInHand at hw
  split at hw
  · obtain ⟨x, -, hx⟩ := Option.bind_eq_some_iff.mp hw
    obtain ⟨e, -, he⟩ := Option.bind_eq_some_iff.mp hx
    exact rolls e he
  · split at hw
    · split at hw
      · exact rolls _ hw
      · cases hw
    · obtain ⟨v, -, hv⟩ := Option.map_eq_some_iff.mp hw
      cases hv; exact Nat.two_pos
    · obtain ⟨v, -, hv⟩ := Option.map_eq_some_iff.mp hw
      cases hv; exact Nat.one_pos
    · cases hw

theorem execPfwAssert_journal : nextAll (fun t => t.journalHolds 0) (execPfwAssert u) := by
  obtain ⟨m, hm, e⟩ := execPfwAssert_spec u
  have cut : ∀ {v : State} {n}, v.journalHolds n →
      ({ v with pfw := true, ledger.formatting := false, warnings := u.warnings + 1 } : State).journalHolds 0 :=
    fun ⟨h1, h2, h3, _, _⟩ => ⟨h1, h2, h3, fun hw => absurd hw.symm Bool.false_ne_true, fun hn => absurd hn (Nat.lt_irrefl 0)⟩
  show nextAll _ (exec .pfwAssert u)
  rw [e]
  rcases hm with rfl | rfl
  · exact cut h
  · rcases u.rollInHand_cases with e | ⟨k, n, s1, hw, -, hr, e⟩
    · rw [e]; exact cut h
    · rw [e]
      have hc : u.makeCountsIfRecovering.journalHolds 0 := by
        unfold State.makeCountsIfRecovering
        split
        · exact h.makeCounts
        · exact h
      obtain ⟨n, rfl⟩ := Nat.exists_eq_add_one.mpr (State.workInHand_pos hw)
      exact cut (n := n) (((Nat.zero_add (n + 1)) ▸ hc.reserve hr).commitRoll k)

theorem execCardPassRecord_journal : nextAll (fun t => t.journalHolds 0) (execCardPassRecord u) := by
  unfold execCardPassRecord
  split
  · refine State.journalHolds.of_view h ?_
    unfold State.cardPass
    dsimp only
    split_ifs
    · exact State.noteFault_journalView u _
    all_goals rfl
  · exact h

theorem execRecoveryDoubt_journal : nextAll (fun t => t.journalHolds 0) (execRecoveryDoubt u) := by
  unfold execRecoveryDoubt
  split
  · split
    · exact h
    · split
      · exact h
      · next s1 hr =>
        exact State.journalHolds.makeCounts (State.journalHolds.of_view (s := State.append (s1.setShop _ _) _ _)
          (State.journalHolds.append (State.journalHolds.of_view (h.reserve hr) (by rfl)) _ _) (by rfl))
  · exact h

theorem execAccrualReplay_journal : nextAll (fun t => t.journalHolds 0) (execAccrualReplay u) := by
  unfold execAccrualReplay
  have hc := h.makeCounts
  split
  · dsimp only
    split
    · exact hc
    · split
      · exact hc
      · split
        · exact hc
        · next hr =>
          exact State.journalHolds.of_view ((hc.rollForEffect hr).of_view (State.applyEffect_journalView ..)) rfl
  · exact h

theorem State.journalHolds.leaveRecovery (mode : LedgerState) : (u.leaveRecovery mode).journalHolds 0 :=
  (State.journalHolds.of_view h (by rfl)).of_view (State.rearm_journalView _)

theorem execRecoveryEnd_journal : nextAll (fun t => t.journalHolds 0) (execRecoveryEnd u) := by
  unfold execRecoveryEnd
  have hc := h.makeCounts
  split
  · exact h
  · split
    · exact h.leaveRecovery _
    · split
      · exact h
      · dsimp only
        split
        · exact hc.leaveRecovery _
        · split
          · exact hc
          · next hr => exact State.journalHolds.leaveRecovery ((hc.reserve hr).append _ _) _

theorem execFormatComplete_journal : nextAll (fun t => t.journalHolds 0) (execFormatComplete u) := by
  unfold execFormatComplete
  split
  · refine (State.journalHolds_ofCore 0).done ?_ _
    obtain ⟨-, hring, -, hres, hp⟩ := h
    refine ⟨fun _ => ⟨le_refl _, le_refl _, le_refl _⟩, ?_, ?_, hres, hp⟩
    · rw [State.unack_of_signature rfl]
      show 1 - 1 + u.journal.reserved ≤ _
      omega
    · show 1 + u.journal.reserved ≤ _
      omega
  · exact h

end

/-! ### Every step -/

/-- Every command keeps the journal sound. -/
theorem exec_journal {s : State} (h : s.journalHolds 0) (i : Instr) : nextAll (fun t => t.journalHolds 0) (exec i s) := by
  have hP := State.journalHolds_ofCore 0
  have office : ∀ {kind serve}, (∀ b u, State.journalHolds u 0 → (serve b u).journalHolds 0) →
      (officeStep kind serve s).journalHolds 0 :=
    fun hd => officeStep_of (P := fun t => t.journalHolds 0) h fun b _ => hd b s h
  cases i with
  | powerOnReset c => exact resetChip_journal h _ _ _
  | pfwAssert => exact execPfwAssert_journal h
  | pfwRelease =>
    show nextAll _ (execPfwRelease s)
    unfold execPfwRelease
    split
    · exact resetChip_journal h _ _ _
    · exact h
  | restartPerformed =>
    show nextAll _ (execRestartPerformed s)
    unfold execRestartPerformed
    split
    · exact resetChip_journal h _ _ _
    · exact h
  | idleGap link => exact hP.link (.idleGap link) h
  | truncatedFrame link => exact hP.link (.truncatedFrame link) h
  | laneFrameReceived lane chars => exact hP.link (.laneFrameReceived lane chars) h
  | officeFrameReceived chars => exact hP.link (.officeFrameReceived chars) h
  | bankFrameReceived chars => exact hP.link (.bankFrameReceived chars) h
  | laneAnswerSent lane => exact hP.link (.laneAnswerSent lane) h
  | officeFrameSent => exact hP.link .officeFrameSent h
  | paySend => exact execPaySend_journal h
  | payFrameSent => exact hP.link .payFrameSent h
  | laneBadRequest => exact hP.link .laneBadRequest h
  | activate => exact h.laneStep fun req _ hu => decideActivate_journal hu req
  | load => exact h.laneStep fun req _ hu => decideLoad_journal hu req
  | balance => exact h.laneStep fun req u hu => hu.declines (decideBalance_declines req u)
  | redeem => exact h.laneStep fun req _ hu => decideRedeem_journal hu req
  | cashout => exact h.laneStep fun req _ hu => decideCashout_journal hu req
  | authorize => exact h.laneStep fun req _ hu => decideAuthorize_journal hu req
  | capture => exact h.laneStep fun req _ hu => decideCapture_journal hu req
  | void => exact h.laneStep fun req _ hu => decideVoid_journal hu req
  | refund => exact h.laneStep fun req _ hu => decideRefund_journal hu req
  | holdDeadlineReached =>
    show nextAll _ (execHoldDeadlineReached s)
    unfold execHoldDeadlineReached
    split
    · split
      · exact h.of_view (by rfl)
      · exact h
    · exact h
  | expiry =>
    show nextAll _ (execExpiry s)
    unfold execExpiry
    split
    · split
      · exact State.expire_journal h _
      · exact h
    · exact h
  | accrualApply => exact execAccrualApply_journal h
  | closeEntry => exact execCloseEntry_journal h
  | rollSweep => exact execRollSweep_journal h
  | slotGrant => exact execSlotGrant_journal h
  | channelVisit => exact execChannelVisit_journal h
  | bankFrameTaken => exact execBankFrameTaken_journal h
  | pull => exact execPull_journal h
  | doneAnswer => exact execDoneAnswer_journal h
  | backAnswer => exact execBackAnswer_journal h
  | payDeadlineReached slot => exact execPayDeadlineReached_journal h slot
  | deadlineExpiry => exact execDeadlineExpiry_journal h
  | streamMark => exact execStreamMark_journal h
  | attnChoice => exact hP.link .attnChoice h
  | cardPassRecord => exact execCardPassRecord_journal h
  | recoveryDoubt => exact execRecoveryDoubt_journal h
  | accrualReplay => exact execAccrualReplay_journal h
  | recoveryEnd => exact execRecoveryEnd_journal h
  | laneUp => exact hP.link .laneUp h
  | laneStatus => exact hP.link .laneStatus h
  | readStatus => exact hP.link .readStatus h
  | restart => exact hP.link .restart h
  | readTable => exact hP.link .readTable h
  | writeTableProgram => exact hP.answerable.writeStep h fun b _ _ _ _ => serveWriteProgram_journal h b
  | writeTableAccept => exact hP.answerable.writeStep h fun b _ _ _ _ => hP.done (h.of_view (by rfl)) _
  | writeTableHouse => exact hP.answerable.writeStep h fun b _ _ _ _ => hP.done (h.of_view (by rfl)) _
  | writeTableBinding => exact hP.answerable.writeStep h fun b _ _ _ _ => serveWriteBinding_journal h b
  | writeTableSettings => exact hP.answerable.writeStep h fun b _ _ _ _ => serveWriteSettings_journal h b
  | format => exact h.cardStep fun b _ hu => serveFormat_journal hu b
  | openLedger => exact h.cardStep fun b _ hu => serveOpenLedger_journal hu b
  | readCard => exact h.cardStep fun b u hu => hu.answers (serveReadCard_answers b u)
  | provision => exact h.cardStep fun b _ hu => serveProvision_journal hu b
  | suspend => exact h.cardStep fun b _ hu => serveSuspend_journal hu b
  | resume => exact h.cardStep fun b _ hu => serveResume_journal hu b
  | closeCard => exact h.cardStep fun b _ hu => serveCloseCard_journal hu b
  | adjust => exact h.cardStep fun b _ hu => serveAdjust_journal hu b
  | rewriteCard => exact h.cardStep fun b _ hu => serveRewriteCard_journal hu b
  | readTotals => exact h.cardStep fun b u hu => hu.answers (serveReadTotals_answers b u)
  | closePeriod =>
    refine cardStep_of (P := fun t => t.journalHolds 0) h fun b hb => serveClosePeriod_journal (hP.takeOffice h) ?_ b
    obtain ⟨-, -, hfree⟩ := State.cardLedgerFree_of_pick (State.cardWork_spec hb).1
    exact hfree
  | setShop => exact h.shopStep fun b _ hu => serveSetShop_journal hu b
  | readShop => exact h.shopStep fun b _ hu => serveReadShop_journal hu b
  | snapShop =>
    show nextAll _ (execSnapShop s)
    unfold execSnapShop
    split
    · exact hP.refuse h _
    · exact h.shopStep fun b _ hu => serveSnapShop_journal hu b
  | readSnap => exact hP.link .readSnap h
  | readHouse => exact h.shopStep fun b _ hu => hP.done hu _
  | resolve => exact h.shopStep fun b _ hu => serveResolve_journal hu b
  | setChannel => exact office fun b _ hu => serveSetChannel_journal hu b
  | armChannel => exact office fun b _ hu => hP.answerable.onChannel hu fun _ _ => serveArm_journal hu _
  | stepChannel => exact office fun b _ hu => hP.answerable.onChannel hu fun _ _ => serveStep_journal hu _
  | maskChannelMask => exact hP.answerable.onAction h fun _ _ _ _ => serveMask_journal h _
  | maskChannelUnmask => exact hP.answerable.onAction h fun _ _ _ _ => serveUnmask_journal h _
  | channelStatus => exact office fun b _ hu => serveChannelStatus_journal hu b
  | journalRead => exact hP.link .journalRead h
  | journalAck => exact office fun b _ hu => serveJournalAck_journal hu b
  | streamSet => exact hP.link .streamSet h
  | attnMask => exact hP.link .attnMask h
  | attnEnd => exact hP.link .attnEnd h
  | attnMode => exact hP.link .attnMode h
  | officeBadRequest => exact hP.link .officeBadRequest h
  | formatComplete => exact execFormatComplete_journal h
  | transmitterBeginsFrame link => exact hP.link (.transmitterBeginsFrame link) h

/-- A property of states that every command keeps, and that does not look at the queue of commands, the Time Base or the stream's
count, is kept by every step. -/
theorem OfCore.step {P : State → Prop} (hP : OfCore P) {s t : State} (hs : P s)
    (hexec : ∀ (c : Instr) (rest : List Instr), s.pending = c :: rest → P { s with pending := rest } →
      nextAll P (exec c { s with pending := rest }))
    (ht : step s = .next t) : P t := by
  unfold Machine.step at ht
  split at ht
  · next c rest hp => exact (hexec c rest hp (hP.of_eq (s := s) (by rfl) hs)).apply ht
  · cases ht; exact hP.of_eq (s := s) (by rfl) hs

/-- Settles O57, by the invariant with the reservations of the work in hand. -/
theorem everyStepKeepsTheJournalSound : Obligations.EveryStepKeepsTheJournalSound := by
  intro s t hs ht
  rw [State.journalSound_iff] at hs ⊢
  exact (State.journalHolds_ofCore 0).step hs (fun c _ _ h => exec_journal h c) ht

end Sys2Proof.Machine
end

section
/-! PROOFS. Every table stays canonical and every queue within its places (R10, R16, R17, R53, R93, R113, R137, R178). -/

namespace Sys2Proof.Machine

/-! ### The invariant, by its parts -/

/-- Every table is canonical and every queue within its places: the parts of `tablesSound` and `withinCapacity` by name. -/
structure Bounded (s : State) : Prop where
  lanes : Table.wf Lane.initial s.lanes = true
  holds : Table.wf HoldSlot.initial s.holds = true
  channels : Table.wf Channel.initial s.channels = true
  slots : Table.wf Slot.free s.plu.slots = true
  cards : Table.wf CardRecord.blank s.store.cards = true
  programs : Table.wf Program.initial s.store.programs = true
  accept : Table.wf AcceptRow.initial s.store.accept = true
  bindings : Table.wf Binding.initial s.store.bindings = true
  setups : Table.wf ChannelSetup.initial s.store.setups = true
  shops : Table.wf ShopRecord.initial s.store.shops = true
  laneQueue : ∀ l, (s.lane l).queue.length ≤ 16
  officeQueue : s.officeLink.queue.length ≤ 8
  payQueue : s.payLink.queue.length ≤ 8
  faults : s.ledger.faults.length ≤ 16
  accruals : s.settle.accruals.length ≤ 16
  wait : s.settle.wait ≤ 8
  window : s.store.window.length ≤ 16384
  ring : s.store.ring.length ≤ 16384

theorem bounded_iff (s : State) : Bounded s ↔ s.tablesSound ∧ s.withinCapacity := by
  constructor
  · intro h
    exact ⟨⟨h.lanes, h.holds, h.channels, h.slots, h.cards, h.programs, h.accept, h.bindings, h.setups, h.shops⟩,
      ⟨h.laneQueue, h.officeQueue, h.payQueue, h.faults, h.accruals, h.wait, h.window, h.ring⟩⟩
  · rintro ⟨⟨h1, h2, h3, h4, h5, h6, h7, h8, h9, h10⟩, ⟨k1, k2, k3, k4, k5, k6, k7, k8⟩⟩
    exact ⟨h1, h2, h3, h4, h5, h6, h7, h8, h9, h10, k1, k2, k3, k4, k5, k6, k7, k8⟩

/-! ### One rule per operation -/

theorem takeFirst_length (q : List LaneEntry) : (takeFirst q).length = q.length := by
  induction q with
  | nil => rfl
  | cons e es ih => unfold takeFirst; split <;> simp [ih]

theorem answerTaken_length (a : LaneAnswer) (q : List LaneEntry) : (answerTaken a q).length = q.length := by
  induction q with
  | nil => rfl
  | cons e es ih => unfold answerTaken; split <;> simp [ih]

theorem dropTaken_length_le (q : List LaneEntry) : (dropTaken q).length ≤ q.length := by
  induction q with
  | nil => exact Nat.le_refl _
  | cons e es ih => unfold dropTaken; split <;> simp; omega

theorem dropAnswered_length_le (q : List LaneEntry) : (dropAnswered q).length ≤ q.length := by
  induction q with
  | nil => exact Nat.le_refl _
  | cons e es ih => unfold dropAnswered; split <;> simp; omega

theorem keepOnDown_length_le (b : Bool) (q : List LaneEntry) : (keepOnDown b q).length ≤ q.length := by
  induction q generalizing b with
  | nil => exact Nat.le_refl _
  | cons e es ih =>
    have := ih b
    have := ih false
    unfold keepOnDown
    split
    · simp only [List.length_cons]; omega
    · simp only [List.length_cons]; omega
    · split <;> simp only [List.length_cons] <;> omega

theorem addCapture_length_le {w : List CaptureRecord} (h : w.length ≤ 16384) (r : CaptureRecord) :
    (addCapture w r).length ≤ 16384 := by
  unfold addCapture
  split
  · next hl => simp only [Config.windowMax] at hl; simp only [List.length_append, List.length_tail, List.length_singleton]; omega
  · next hl => simp only [Config.windowMax, not_le] at hl; simp only [List.length_append, List.length_singleton]; omega

theorem refundRecord_length (ref amount : Nat) (w : List CaptureRecord) : (refundRecord ref amount w).length = w.length := by
  induction w with
  | nil => rfl
  | cons r rs ih => unfold refundRecord; split <;> simp [ih]

theorem waitAfter_le {s : State} (h : s.settle.wait ≤ 8) : waitAfter s ≤ 8 := by
  unfold waitAfter
  split
  · exact Nat.min_le_left ..
  · exact h

namespace Bounded

section
variable {s : State} (h : Bounded s)
include h

theorem setLane (l : Nat) {v : Lane} (hv : v.queue.length ≤ 16) : Bounded (s.setLane l v) :=
  { h with
    lanes := Table.wf_write _ _ _ _ h.lanes
    laneQueue := fun k => by
      by_cases hk : k = l
      · rw [hk, State.setLane_lane_same]; exact hv
      · rw [State.setLane_lane_ne _ _ _ hk]; exact h.laneQueue k }

theorem setHoldSlot (k : Nat) (v : HoldSlot) : Bounded (s.setHoldSlot k v) :=
  { h with holds := Table.wf_write _ _ _ _ h.holds }

theorem setChannel (c : Nat) (v : Channel) : Bounded (s.setChannel c v) :=
  { h with channels := Table.wf_write _ _ _ _ h.channels }

theorem setSlot (k : Nat) (v : Slot) : Bounded (s.setSlot k v) := { h with slots := Table.wf_write _ _ _ _ h.slots }

theorem setCard (k : Nat) (v : CardRecord) : Bounded (s.setCard k v) := { h with cards := Table.wf_write _ _ _ _ h.cards }

theorem writeCard (k : Nat) (v : CardRecord) : Bounded (s.writeCard k v) := h.setCard k _

theorem setShop (k : Nat) (v : ShopRecord) : Bounded (s.setShop k v) := { h with shops := Table.wf_write _ _ _ _ h.shops }

theorem setProgram (k : Nat) (v : Program) : Bounded (s.setProgram k v) :=
  { h with programs := Table.wf_write _ _ _ _ h.programs }

theorem setTotals (t : Totals) : Bounded (s.setTotals t) := { h with }

theorem addWindow (r : CaptureRecord) : Bounded (s.addWindow r) := { h with window := addCapture_length_le h.window r }

theorem raiseIf (b : Bool) (src : Source) : Bounded (s.raiseIf b src) := by
  rw [State.raiseIf_frame]; exact { h with }

theorem append (p : Nat) (b : EntryBody) : Bounded (s.append p b) := by
  have hr : ((s.append p b).store.ring).length ≤ 16384 := by
    rw [State.append_store_ring, List.length_take]; exact Nat.min_le_left ..
  constructor
  case ring => exact hr
  case laneQueue => intro l; simpa using h.laneQueue l
  case lanes => simpa using h.lanes
  case holds => simpa using h.holds
  case channels => simpa using h.channels
  case slots => simpa using h.slots
  case cards => simpa using h.cards
  case programs => simpa using h.programs
  case accept => simpa using h.accept
  case bindings => simpa using h.bindings
  case setups => simpa using h.setups
  case shops => simpa using h.shops
  case officeQueue => simpa using h.officeQueue
  case payQueue => simpa using h.payQueue
  case faults => simpa using h.faults
  case accruals => simpa using h.accruals
  case wait => simpa using h.wait
  case window => simpa using h.window

theorem reserve {t : State} {cls : ResClass} {n : Nat} (hr : s.reserve cls n = some t) : Bounded t := by
  obtain ⟨-, rfl⟩ := State.reserve_eq hr
  exact Bounded.raiseIf (by exact { h with }) _ _

theorem post (b : EntryBody) {e : Option Effect} (he : e ≠ none → s.accrualFree = true) : Bounded (s.post b e) := by
  cases e with
  | none => exact h.append s.ledger.period b
  | some e =>
    have hfree : s.settle.accruals.length < 16 := of_decide_eq_true (he nofun)
    refine { h.append s.ledger.period b with accruals := ?_ }
    show ((s.append s.ledger.period b).settle.accruals ++ [_]).length ≤ 16
    rw [List.length_append, State.append_settle]
    exact hfree

theorem noteFault (serial : Nat) : Bounded (s.noteFault serial) := by
  unfold State.noteFault
  split
  · exact h
  · split
    · next hl =>
      refine Bounded.raiseIf (s := { s with ledger.faults := s.ledger.faults ++ [serial] }) { h with faults := ?_ } true _
      rw [List.length_append]
      exact hl
    · exact Bounded.raiseIf (s := { s with ledger.faultOverflow := true }) { h with } true _

theorem noteWork : Bounded s.noteWork := by
  rw [State.noteWork_eq]
  exact { h with wait := waitAfter_le h.wait }

theorem requestServed : Bounded (requestServed s) := { h with wait := waitAfter_le h.wait }

theorem officeHandOver : Bounded s.officeHandOver := by
  unfold State.officeHandOver
  split
  · exact { h with }
  · exact h

theorem officeTake : Bounded s.officeTake := by
  unfold State.officeTake
  split
  · next hq =>
    split
    · exact h
    · have := h.officeQueue
      rw [hq, List.length_cons] at this
      exact { h with officeQueue := Nat.le_of_succ_le this }
  · exact h

theorem officeSettle : Bounded s.officeSettle := h.officeHandOver.officeTake

end

theorem answerable : Answerable Bounded := by
  refine ⟨fun s code data h => ?_⟩
  unfold State.answerOffice
  split
  · exact officeSettle (by exact { h with })
  · exact h

section
variable {s : State} (h : Bounded s)
include h

theorem done (data : List Byte) : Bounded (s.done data) := answerable.done h data

theorem refuse (code : OfficeCode) : Bounded (s.refuse code) := answerable.refuse h code

theorem takeLane (l : Nat) : Bounded (s.takeLane l) := by
  refine { h.setLane l (v := { s.lane l with queue := takeFirst (s.lane l).queue }) ?_ with }
  rw [takeFirst_length]; exact h.laneQueue l

theorem handOver (l : Nat) (a : LaneAnswer) : Bounded (s.handOver l a) := by
  unfold State.handOver
  dsimp only
  split
  · exact h.setLane l ((dropTaken_length_le _).trans (h.laneQueue l))
  · exact h.setLane l ((answerTaken_length a _).le.trans (h.laneQueue l))

theorem laneStep {kind : Nat} {decision : LaneReq → State → State × Reply}
    (hd : ∀ req u, Bounded u → req.kind.toNat = kind → (laneKindPosts req.kind = true → u.accrualFree = true) →
      Bounded (decision req u).1) : Bounded (laneStep kind decision s) := by
  unfold Machine.laneStep
  split
  · next l e hw =>
    obtain ⟨-, -, -, -, hfree⟩ := State.laneWork_free hw
    exact (hd _ _ (h.takeLane l) (State.laneWork_spec hw).2.2.1 hfree).handOver l _
  · exact h

theorem cardStep {kind : Nat} {serve : List Byte → State → State} (hd : ∀ b u, Bounded u → Bounded (serve b u)) :
    Bounded (cardStep kind serve s) :=
  cardStep_of h fun b _ => hd b _ { h with }

theorem officeStep {kind : Nat} {serve : List Byte → State → State} (hd : ∀ b u, Bounded u → Bounded (serve b u)) :
    Bounded (officeStep kind serve s) :=
  officeStep_of h fun b _ => hd b s h

theorem shopStep {kind : Nat} {serve : List Byte → State → State} (hd : ∀ b u, Bounded u → Bounded (serve b u)) :
    Bounded (shopStep kind serve s) :=
  shopStep_of h (h.refuse _) (h.requestServed.refuse _) fun b _ _ _ => hd b _ h.requestServed

theorem declines {t : State} (hd : Declines s t) : Bounded t := by
  cases hd with
  | kept => exact h
  | noted serial => exact h.noteFault serial
  | failed serial prog _ _ hr => exact ((h.reserve hr).writeCard _ _).post _ fun hn => absurd rfl hn

theorem answers {t : State} (ha : Answers s t) : Bounded t := by
  cases ha with
  | kept code data => exact answerable.answer _ _ _ h
  | noted serial _ code data => exact answerable.answer _ _ _ (h.noteFault serial)

theorem officeCommits {t : State} {serial : Nat} {r : CardRecord} {totals : Totals} {body : EntryBody} {effect : Option Effect}
    (he : effect ≠ none → s.accrualFree = true) (hc : officeCommits s t serial r totals body effect) : Bounded t := by
  obtain ⟨s1, hr, rfl⟩ := hc
  refine ((((h.reserve hr).writeCard serial r).setTotals totals).post body fun hn => ?_).done _
  obtain ⟨-, rfl⟩ := State.reserve_eq hr
  simpa [State.accrualFree] using he hn

theorem openHold (slot : Nat) (hold : Hold) : Bounded (s.openHold slot hold) :=
  { h.setHoldSlot slot { gen := (s.holdSlot slot).gen, hold := some hold, memory := none } with }

theorem endHold (slot gen : Nat) (cause : EndCause) : Bounded (s.endHold slot gen cause) :=
  { h.setHoldSlot slot { gen := (gen + 1) % 32, hold := none, memory := some (gen, cause) } with }

end

/-! ### The Card Ledger -/

theorem accrualFree_reserve {s t : State} {cls : ResClass} {n : Nat} (hr : s.reserve cls n = some t) :
    t.accrualFree = s.accrualFree := by
  obtain ⟨-, rfl⟩ := State.reserve_eq hr
  simp [State.accrualFree]

section
variable {u : State} (h : Bounded u)
include h

theorem decideActivate (req : LaneReq) (hf : u.accrualFree = true) : Bounded (decideActivate req u).1 := by
  rcases decideActivate_cases req u with hd | ⟨shop, prog, s1, -, -, -, hr, e⟩
  · exact h.declines hd
  · rw [e]; dsimp only; exact (((h.reserve hr).writeCard _ _).setTotals _).post _ fun _ => (accrualFree_reserve hr).trans hf

theorem decideLoad (req : LaneReq) (hf : u.accrualFree = true) : Bounded (decideLoad req u).1 := by
  rcases decideLoad_cases req u with hd | ⟨shop, prog, s1, -, -, hr, e⟩
  · exact h.declines hd
  · rw [e]; dsimp only; exact (((h.reserve hr).writeCard _ _).setTotals _).post _ fun _ => (accrualFree_reserve hr).trans hf

theorem decideRedeem (req : LaneReq) (hf : u.accrualFree = true) : Bounded (decideRedeem req u).1 := by
  rcases decideRedeem_cases req u with hd | ⟨shop, prog, s1, amount, result, -, -, hr, e⟩
  · exact h.declines hd
  · rw [e]
    dsimp only
    exact ((((h.reserve hr).writeCard _ _).setTotals _).addWindow _).post _ fun _ => (accrualFree_reserve hr).trans hf

theorem decideCashout (req : LaneReq) (hf : u.accrualFree = true) : Bounded (decideCashout req u).1 := by
  rcases decideCashout_cases req u with hd | ⟨shop, prog, s1, -, -, -, -, hr, e⟩
  · exact h.declines hd
  · rw [e]; dsimp only; exact (((h.reserve hr).writeCard _ _).setTotals _).post _ fun _ => (accrualFree_reserve hr).trans hf

theorem decideAuthorize (req : LaneReq) : Bounded (decideAuthorize req u).1 := by
  rcases decideAuthorize_cases req u with hd | ⟨shop, prog, s1, slot, amount, result, -, -, -, -, hr, e⟩
  · exact h.declines hd
  · rw [e]; dsimp only; exact (((h.reserve hr).openHold _ _).writeCard _ _).post _ fun hn => absurd rfl hn

theorem decideCapture (req : LaneReq) (hf : u.accrualFree = true) : Bounded (decideCapture req u).1 := by
  rcases decideCapture_cases req u with hd | ⟨s1, slot, gen, hold, -, -, -, -, -, -, hr, e⟩
  · exact h.declines hd
  · rw [e]
    dsimp only
    have hend := (h.reserve hr).endHold slot gen .captured
    have hfree : (s1.endHold slot gen .captured).accrualFree = true := (accrualFree_reserve hr).trans hf
    generalize s1.endHold slot gen .captured = s2 at hend hfree
    exact (((hend.writeCard _ _).setTotals _).addWindow _).post _ fun _ => hfree

theorem decideVoid (req : LaneReq) : Bounded (decideVoid req u).1 := by
  rcases decideVoid_cases req u with hd | ⟨s1, slot, gen, hold, -, -, -, hr, e⟩
  · exact h.declines hd
  · rw [e]; dsimp only; exact (((h.reserve hr).endHold _ _ _).writeCard _ _).post _ fun hn => absurd rfl hn

theorem decideRefund (req : LaneReq) (hf : u.accrualFree = true) : Bounded (decideRefund req u).1 := by
  rcases decideRefund_cases req u with hd | ⟨shop, s1, rec, -, -, -, -, -, -, -, hr, e⟩
  · exact h.declines hd
  · rw [e]
    dsimp only
    refine Bounded.post ?_ _ fun _ => (accrualFree_reserve hr).trans hf
    have hw := ((h.reserve hr).writeCard rec.card (refundedCard (u.card rec.card) (fieldAt req.body 7 4) u.ledger.period)).setTotals
      (u.store.totals.refund (fieldAt req.body 7 4))
    refine { hw with window := ?_ }
    rw [refundRecord_length]; exact h.window

theorem expire (it : ExpiryItem) : Bounded (u.expire it) := by
  rcases u.expire_cases it with ⟨-, e⟩ | ⟨slot, gen, hold, -, ⟨-, e⟩ | ⟨s1, hr, ⟨-, e⟩ | ⟨-, -, e⟩ | ⟨-, -, e⟩⟩⟩ <;> rw [e]
  · exact { h with }
  · exact h
  · exact ((h.reserve hr).endHold _ _ _).post _ fun hn => absurd rfl hn
  · exact (((h.reserve hr).noteFault _).endHold _ _ _).post _ fun hn => absurd rfl hn
  · exact (((h.reserve hr).endHold _ _ _).writeCard _ _).post _ fun hn => absurd rfl hn

theorem serveProvision (b : List Byte) : Bounded (serveProvision b u) := by
  rcases serveProvision_cases b u with ha | ⟨_, -, -, -, hc⟩
  · exact h.answers ha
  · exact h.officeCommits (fun hn => absurd rfl hn) hc

theorem serveSuspend (b : List Byte) : Bounded (serveSuspend b u) := by
  rcases serveSuspend_cases b u with ha | ⟨_, -, -, hc⟩
  · exact h.answers ha
  · exact h.officeCommits (fun hn => absurd rfl hn) hc

theorem serveResume (b : List Byte) : Bounded (serveResume b u) := by
  rcases serveResume_cases b u with ha | ⟨_, -, -, hc⟩
  · exact h.answers ha
  · exact h.officeCommits (fun hn => absurd rfl hn) hc

theorem serveCloseCard (b : List Byte) : Bounded (serveCloseCard b u) := by
  rcases serveCloseCard_cases b u with ha | ⟨_, hf, -, -, -, -, hc⟩
  · exact h.answers ha
  · exact h.officeCommits (fun _ => hf) hc

theorem serveAdjust (b : List Byte) : Bounded (serveAdjust b u) := by
  rcases serveAdjust_cases b u with ha | ⟨_, _, -, -, -, -, -, -, -, hc⟩
  · exact h.answers ha
  · exact h.officeCommits (fun hn => absurd rfl hn) hc

theorem serveRewriteCard (b : List Byte) : Bounded (serveRewriteCard b u) := by
  rcases serveRewriteCard_cases b u with ha | ⟨prog, r, s1, s2, -, -, hs1, -, -, -, -, hr, e⟩
  · exact h.answers ha
  · have h1 : Bounded s1 := by
      rcases hs1 with ⟨-, rfl⟩ | ⟨-, -, rfl⟩
      · exact h
      · exact h.noteFault _
    rw [e]
    have hp := (((h1.reserve hr).writeCard (fieldAt b 2 3) { r with seq := nextCardSeq r.seq }).setTotals
      (u.store.totals.adjust (r.balance - (u.card (fieldAt b 2 3)).balance))).post
        (.cardState (fieldAt b 2 3) (nextCardSeq r.seq) .rewrite r.state r.suspend r.failures
          (some ({ r with seq := nextCardSeq r.seq }, r.balance - (u.card (fieldAt b 2 3)).balance)))
        (e := none) fun hn => absurd rfl hn
    exact Bounded.done (by exact { hp with faults := (List.length_filter_le _ _).trans hp.faults }) _

theorem serveFormat (b : List Byte) : Bounded (serveFormat b u) := by
  unfold Machine.serveFormat
  split
  · exact h.refuse _
  · exact { h with }

theorem serveOpenLedger (b : List Byte) : Bounded (serveOpenLedger b u) := by
  unfold Machine.serveOpenLedger
  split
  · exact h.refuse _
  · split
    · exact h.refuse _
    · next s1 hr => exact (Bounded.append (by exact { h.reserve hr with }) _ _).done _

theorem serveClosePeriod (b : List Byte) : Bounded (serveClosePeriod b u) := by
  unfold Machine.serveClosePeriod
  split
  · exact h.refuse _
  · next hfree =>
    split_ifs
    any_goals exact h.refuse _
    split
    · exact h.refuse _
    · next s1 hr =>
      have hf : s1.settle.accruals.length < 16 :=
        of_decide_eq_true ((accrualFree_reserve hr).trans (by simpa using hfree))
      refine { h.reserve hr with accruals := ?_ }
      rw [List.length_append]; exact hf

/-! ### The Settlement Unit and the payout window -/

theorem commitRoll (k : Nat) : Bounded (u.commitRoll k) :=
  (append (by exact { h.setShop k (u.rollFor k).shop with }) _ _).raiseIf _ _

theorem rollIfBehind {t : State} {k : Nat} (hr : u.rollIfBehind k = some t) : Bounded t := by
  unfold State.rollIfBehind at hr
  split at hr
  · obtain ⟨s1, hs1, rfl⟩ := Option.map_eq_some_iff.mp hr
    exact (h.reserve hs1).commitRoll k
  · cases hr; exact h

theorem rollForEffect {t : State} {e : Effect} (hr : u.rollForEffect e = some t) : Bounded t := by
  unfold State.rollForEffect at hr
  split at hr
  · exact h.rollIfBehind hr
  · cases hr; exact h

theorem applyEffect (e : Effect) (source : Nat) : Bounded (u.applyEffect e source) := by
  cases e with
  | unclaimed a => exact Bounded.raiseIf (by exact { h with }) _ _
  | sold k a => exact Bounded.raiseIf (by exact { h.setShop k _ with }) _ _
  | redeemed k a r => exact Bounded.raiseIf (by exact { h.setShop k _ with }) _ _
  | refunded k a r => exact Bounded.raiseIf (by exact { h.setShop k _ with }) _ _
  | cashed k a => exact Bounded.raiseIf (by exact { h.setShop k _ with }) _ _

theorem dropAccrual : Bounded u.dropAccrual :=
  { h with accruals := by rw [show u.dropAccrual.settle.accruals = u.settle.accruals.tail from rfl, List.length_tail]
                          exact (Nat.sub_le _ _).trans h.accruals }

theorem grantOnce {t : State} (hg : u.grantOnce = some t) : Bounded t := by
  unfold State.grantOnce at hg
  split at hg
  · split at hg
    · next k c _ _ =>
      cases hg
      exact { (h.setSlot k (.granted c)).setChannel c { u.channel c with st := .running, slot := some k } with }
    · cases hg
  · cases hg

omit h in
theorem grantUpTo (n : Nat) : ∀ u : State, Bounded u → Bounded (State.grantUpTo n u) := by
  induction n with
  | zero => exact fun _ h => h
  | succ n ih =>
    intro u h
    unfold State.grantUpTo
    split
    · next s1 hg => exact ih _ (h.grantOnce hg)
    · exact h

theorem grantSlots : Bounded u.grantSlots := grantUpTo 4 u h

theorem advanceNotice : Bounded u.advanceNotice := by
  refine grantSlots ?_
  simp only [List.foldl_cons, List.foldl_nil]
  exact (((h.setChannel _ _).setChannel _ _).setChannel _ _).setChannel _ _

theorem commitPeriod (requested : Nat) : Bounded (u.commitPeriod requested) :=
  append (by exact { h.dropAccrual with }) _ _

theorem refuseClose (code : OfficeCode) : Bounded (u.refuseClose code) := refuse (by exact { h.dropAccrual with }) _

theorem claim (v : Visit) : Bounded (u.claim v) := by
  unfold State.claim
  dsimp only
  refine append (setChannel ?_ _ _) _ _
  exact { (h.setShop v.shop _).setSlot v.slot _ with }

theorem makeVisit (v : Visit) : Bounded (u.makeVisit v).1 := by
  unfold State.makeVisit
  dsimp only
  have h1 : Bounded (if u.behind v.shop = true then u.commitRoll v.shop else u.giveBack 1) := by
    split
    · exact h.commitRoll _
    · exact { h with }
  generalize (if u.behind v.shop = true then u.commitRoll v.shop else u.giveBack 1) = s1 at h1
  split
  · exact h1.claim v
  · exact { h1.setSlot v.slot .free with }

theorem serveVisit (v : Visit) : Bounded (u.serveVisit v) := by
  unfold State.serveVisit
  split
  · exact ((h.setSlot _ _).setChannel _ _).grantSlots
  · next s1 hr => exact ((((h.reserve hr).makeVisit v).setChannel _ _).raiseIf _ _).grantSlots

theorem makeSettled (k : Nat) : Bounded (u.makeSettled k) := Bounded.raiseIf (by exact { h.setShop k _ with }) _ _

theorem makeReturned (k : Nat) : Bounded (u.makeReturned k) := Bounded.raiseIf (by exact { h.setShop k _ with }) _ _

theorem releaseSlot (k : Nat) : Bounded (u.releaseSlot k) := Bounded.grantSlots (by exact { h.setSlot k .free with })

theorem dropBank : Bounded u.dropBank :=
  { h with payQueue := by rw [show u.dropBank.payLink.queue = u.payLink.queue.tail from rfl, List.length_tail]
                          exact (Nat.sub_le _ _).trans h.payQueue }

theorem makeCounts : Bounded u.makeCounts := by
  unfold State.makeCounts
  split
  · exact h
  · exact Bounded.raiseIf (by exact { h with }) _ _

theorem leaveRecovery (mode : LedgerState) : Bounded (u.leaveRecovery mode) :=
  (Bounded.raiseIf (by exact { h with }) _ _).raiseIf _ _

theorem rollInHand : Bounded u.rollInHand := by
  rcases u.rollInHand_cases with e | ⟨k, n, s1, -, -, hr, e⟩ <;> rw [e]
  · exact h
  · have hc : Bounded u.makeCountsIfRecovering := by
      unfold State.makeCountsIfRecovering
      split
      · exact h.makeCounts
      · exact h
    exact (hc.reserve hr).commitRoll k

omit h in
theorem channelsAtReset_wf (u : State) : Table.wf Channel.initial (channelsAtReset u) = true := by
  unfold channelsAtReset
  simp only [List.foldl_cons, List.foldl_nil]
  exact Table.wf_write _ _ _ _ (Table.wf_write _ _ _ _ (Table.wf_write _ _ _ _ (Table.wf_write _ _ _ _ rfl)))

theorem resetChip (cause : ResetCause) (capacity : Nat) (pfw : Bool) : Bounded (resetChip cause capacity pfw u) :=
  { h with
    lanes := rfl, holds := rfl, channels := channelsAtReset_wf u, slots := rfl, laneQueue := fun _ => Nat.zero_le _,
    officeQueue := Nat.zero_le _, payQueue := Nat.zero_le _, faults := Nat.zero_le _, accruals := Nat.zero_le _,
    wait := Nat.zero_le _ }

theorem raiseBoundaries (k b : Nat) : Bounded (u.raiseBoundaries k b) := by
  unfold State.raiseBoundaries
  generalize ([1, 2, 3, 4, 5, 6, 7] : List Nat) = l
  induction l generalizing u with
  | nil => exact h
  | cons j l ih =>
    refine ih ?_
    dsimp only
    split
    · exact h.setProgram _ _
    · exact h

/-! ### The links -/

theorem laneError (l : Nat) (after : RxState) : Bounded (u.laneError l after) := by
  unfold State.laneError
  dsimp only
  split
  · exact Bounded.raiseIf (h.setLane l ((keepOnDown_length_le _ _).trans (h.laneQueue l))) true _
  · exact h.setLane l (h.laneQueue l)

omit h in
theorem lane_arrive_length {v : Lane} (hv : v.queue.length ≤ 16) (kind : Byte) (body : List Byte) :
    (v.arrive kind body).queue.length ≤ 16 := by
  unfold Lane.arrive
  dsimp only
  split
  · next hl => rw [List.length_append]; exact hl
  · split <;> exact hv

omit h in
theorem lane_begin_queue (v : Lane) : v.begin.queue = v.queue := by
  unfold Lane.begin
  split
  · split
    · rfl
    · split <;> rfl
  · rfl

omit h in
theorem officeLink_begin_queue (v : OfficeLink) : v.begin.queue = v.queue := by
  unfold OfficeLink.begin
  split
  · rfl
  · split <;> rfl

omit h in
theorem payLink_begin_queue (v : PayLink) : v.begin.queue = v.queue := by
  unfold PayLink.begin
  split <;> rfl

omit h in
theorem officeLink_arrive_length {v : OfficeLink} (hv : v.queue.length ≤ 8) (kind : Byte) (body : List Byte) :
    (v.arrive kind body).queue.length ≤ 8 := by
  unfold OfficeLink.arrive
  dsimp only
  split
  · next hl => rw [List.length_append]; exact hl
  · split <;> exact hv

omit h in
theorem payLink_arrive_length {v : PayLink} (hv : v.queue.length ≤ 8) (kind : Byte) (body : List Byte) :
    (v.arrive kind body).queue.length ≤ 8 := by
  unfold PayLink.arrive
  dsimp only
  split
  · split
    · next hl => rw [List.length_append]; exact hl
    · exact hv
  · exact hv

end

end Bounded

end Sys2Proof.Machine
end

section
/-! PROOFS. Every command keeps tables canonical and queues within their places: the walk over the commands. -/

namespace Sys2Proof.Machine

namespace Bounded

section
variable {s : State} (h : Bounded s)
include h

/-! ### Links, journal, attention -/

theorem execIdleGap (link : Nat) : nextAll Bounded (execIdleGap link s) := by
  unfold Machine.execIdleGap
  split_ifs
  any_goals exact h
  · exact h.setLane link (h.laneQueue link)
  · exact { h with }
  · exact { h with }

theorem execTruncatedFrame (link : Nat) : nextAll Bounded (execTruncatedFrame link s) := by
  unfold Machine.execTruncatedFrame
  split
  · exact h
  · split
    · split
      · exact h.laneError link .run
      · exact h
    · split_ifs
      any_goals exact h
      · exact { h with }
      · exact { h with }

theorem execLaneFrameReceived (lane : Nat) (chars : List RxChar) : nextAll Bounded (execLaneFrameReceived lane chars s) := by
  unfold Machine.execLaneFrameReceived
  split
  · exact h
  · split
    · exact h
    · exact h.laneError lane .hunt
    · exact h.setLane lane (lane_arrive_length (h.laneQueue lane) _ _)

theorem execOfficeFrameReceived (chars : List RxChar) : nextAll Bounded (execOfficeFrameReceived chars s) := by
  unfold Machine.execOfficeFrameReceived
  split
  · exact h
  · split
    · exact h
    · exact { h with }
    · exact officeSettle (by exact { h with officeQueue := officeLink_arrive_length h.officeQueue _ _ })

theorem execBankFrameReceived (chars : List RxChar) : nextAll Bounded (execBankFrameReceived chars s) := by
  unfold Machine.execBankFrameReceived
  split
  · exact h
  · split
    · exact h
    · exact { h with }
    · exact { h with payQueue := payLink_arrive_length h.payQueue _ _ }

theorem execLaneAnswerSent (lane : Nat) : nextAll Bounded (execLaneAnswerSent lane s) := by
  unfold Machine.execLaneAnswerSent
  dsimp only
  split
  · exact h.setLane lane ((dropAnswered_length_le _).trans (h.laneQueue lane))
  · exact h.setLane lane (h.laneQueue lane)
  · exact h

theorem execOfficeFrameSent : nextAll Bounded (execOfficeFrameSent s) := by
  unfold Machine.execOfficeFrameSent
  split
  · exact h
  · split
    · exact officeSettle (by exact { h with })
    · exact { h with }
    · exact { h with }
    · exact { h with }
    · exact h

theorem execPayFrameSent : nextAll Bounded (execPayFrameSent s) := by
  unfold Machine.execPayFrameSent
  split
  · exact { h with }
  · exact h

theorem execPaySend : nextAll Bounded (execPaySend s) := by
  unfold Machine.execPaySend
  split
  · split
    · exact h
    · split
      · exact setSlot (by exact { h with }) _ _
      · exact { h with }
  · exact h

theorem execLaneBadRequest : nextAll Bounded (execLaneBadRequest s) := by
  unfold Machine.execLaneBadRequest
  split
  · exact (h.takeLane _).handOver _ _
  · exact h

theorem execTransmitterBeginsFrame (link : Nat) : nextAll Bounded (execTransmitterBeginsFrame link s) := by
  unfold Machine.execTransmitterBeginsFrame
  split_ifs
  · exact h
  · exact h.setLane link ((lane_begin_queue _).symm ▸ h.laneQueue link)
  · exact { h with officeQueue := (officeLink_begin_queue s.officeLink).symm ▸ h.officeQueue }
  · exact { h with payQueue := (payLink_begin_queue s.payLink).symm ▸ h.payQueue }
  · exact h

theorem execStreamMark : nextAll Bounded (execStreamMark s) := by
  unfold Machine.execStreamMark
  split
  · dsimp only
    split
    · exact { h with }
    · exact { h with }
  · exact h

theorem execAttnChoice : nextAll Bounded (execAttnChoice s) := by
  unfold Machine.execAttnChoice
  split
  · exact h
  · split
    · exact { h with }
    · exact h

theorem execOfficeBadRequest : nextAll Bounded (execOfficeBadRequest s) := by
  unfold Machine.execOfficeBadRequest
  split
  · split
    · exact h
    · exact h.refuse _
  · exact h

theorem serveLaneUp (b : List Byte) : Bounded (serveLaneUp b s) := by
  unfold Machine.serveLaneUp
  dsimp only
  split
  · exact h.refuse _
  · exact (h.setLane _ (v := { s.lane _ with rx := .hunt, consecutive := 0 }) (h.laneQueue _)).done _

theorem serveLaneStatus (b : List Byte) : Bounded (serveLaneStatus b s) := by
  unfold Machine.serveLaneStatus
  dsimp only
  split_ifs <;> exact answerable.answer _ _ _ h

theorem serveReadTable (b : List Byte) : Bounded (serveReadTable b s) := by
  unfold Machine.serveReadTable
  split_ifs <;> exact answerable.answer _ _ _ h

theorem serveReadSnap (b : List Byte) : Bounded (serveReadSnap b s) := by
  unfold Machine.serveReadSnap
  split
  · exact h.refuse _
  · exact done (by exact { h with }) _

theorem serveJournalRead (b : List Byte) : Bounded (serveJournalRead b s) := by
  unfold Machine.serveJournalRead
  dsimp only
  split
  · split <;> exact answerable.answer _ _ _ h
  · exact h.refuse _

theorem serveJournalAck (b : List Byte) : Bounded (serveJournalAck b s) := by
  refine done ?_ _
  split
  · exact { h with }
  · exact h

theorem serveStreamSet (b : List Byte) : Bounded (serveStreamSet b s) := by
  unfold Machine.serveStreamSet
  split
  · exact done (by exact { h with }) _
  · exact h.refuse _

theorem serveAttnEnd (b : List Byte) : Bounded (serveAttnEnd b s) := by
  unfold Machine.serveAttnEnd
  dsimp only
  split
  · exact h.refuse _
  · split
    · exact h.refuse _
    · split
      · exact done (by exact { h with }) _
      · exact h.refuse _

theorem serveAttnMode (b : List Byte) : Bounded (serveAttnMode b s) := by
  unfold Machine.serveAttnMode
  split
  · exact h.refuse _
  · exact done (by exact { h with }) _

/-! ### Settlement and payouts -/

theorem execAccrualApply : nextAll Bounded (execAccrualApply s) := by
  unfold Machine.execAccrualApply
  split
  · split
    · split
      · next hr => exact ((h.noteWork.rollForEffect hr).applyEffect _ _).dropAccrual
      · exact h
    · exact h
  · exact h

theorem execCloseEntry : nextAll Bounded (execCloseEntry s) := by
  unfold Machine.execCloseEntry
  split
  · split
    · dsimp only
      split
      · exact h
      · split
        · exact h.noteWork.refuseClose _
        · split
          · exact h.noteWork.refuseClose _
          · exact ((h.noteWork.commitPeriod _).advanceNotice).done _
    · exact h
  · exact h

theorem execRollSweep : nextAll Bounded (execRollSweep s) := by
  unfold Machine.execRollSweep
  split
  · split
    · next k s1 _ hr => exact { (h.reserve hr).commitRoll k with wait := Nat.zero_le _ }
    · exact h
  · exact h

theorem execSlotGrant : nextAll Bounded (execSlotGrant s) := by
  unfold Machine.execSlotGrant
  split
  · next hg => exact h.grantOnce hg
  · exact h

theorem takeVisit : Bounded s.takeVisit := { h.noteWork with }

theorem execChannelVisit : nextAll Bounded (execChannelVisit s) := by
  unfold Machine.execChannelVisit
  split
  · split
    · exact h.takeVisit.serveVisit _
    · exact h
  · exact h

theorem execBankFrameTaken : nextAll Bounded (execBankFrameTaken s) := by
  unfold Machine.execBankFrameTaken
  split
  · split
    · split
      · exact { h.dropBank with }
      · exact { h.dropBank with }
    · exact h
  · exact h

theorem execPull : nextAll Bounded (execPull s) := by
  unfold Machine.execPull
  split
  · split
    · dsimp only
      split
      · exact { h.dropBank with }
      · exact (h.dropBank.setChannel _ _).grantSlots
    · exact h
  · exact h

theorem commitDone (tag shop : Nat) (late : Bool) : Bounded (s.commitDone tag shop late) := (h.makeSettled shop).append _ _

theorem commitBack (tag shop reason : Nat) (late : Bool) : Bounded (s.commitBack tag shop reason late) :=
  ((h.makeReturned shop).append _ _).raiseIf true _

theorem dropAnswer : Bounded s.dropAnswer := { h with }

theorem execDoneAnswer : nextAll Bounded (execDoneAnswer s) := by
  unfold Machine.execDoneAnswer
  split
  · split
    · have h0 := h.noteWork.dropAnswer
      dsimp only
      split
      · exact { h0 with }
      · next hr => exact ((h0.reserve hr).commitDone _ _ _).releaseSlot _
      · next hr => exact { (h0.reserve hr).commitDone _ _ _ with }
      · exact h
    · exact h
  · exact h

theorem execBackAnswer : nextAll Bounded (execBackAnswer s) := by
  unfold Machine.execBackAnswer
  split
  · split
    · have h0 := h.noteWork.dropAnswer
      dsimp only
      split
      · exact { h0 with }
      · next hr => exact ((h0.reserve hr).commitBack _ _ _ _).releaseSlot _
      · next hr => exact { (h0.reserve hr).commitBack _ _ _ _ with }
      · exact h
    · exact h
  · exact h

theorem execPayDeadlineReached (slot : Nat) : nextAll Bounded (execPayDeadlineReached slot s) := by
  unfold Machine.execPayDeadlineReached
  split
  · split
    · exact h
    · exact { h.setSlot slot _ with }
  · exact h

theorem execDeadlineExpiry : nextAll Bounded (execDeadlineExpiry s) := by
  unfold Machine.execDeadlineExpiry
  split
  · split
    · have h0 := h.noteWork.dropAnswer
      dsimp only
      split
      · next p _ =>
        split
        · split
          · next s2 hr =>
            have hd : Bounded (s2.makeInDoubt p.shop) := (h0.reserve hr).setShop _ _
            exact (Bounded.raiseIf (hd.append _ _) true .payoutInDoubt).releaseSlot _
          · exact h
        · exact h0
      · exact h0
    · exact h
  · exact h

/-! ### Office shop requests, channels, tables -/

theorem serveSetShop (b : List Byte) : Bounded (serveSetShop b s) := by
  unfold Machine.serveSetShop
  dsimp only
  split
  · exact h.refuse _
  · split
    · exact h.refuse _
    · split
      · exact h.refuse _
      · next hr => exact ((h.rollIfBehind hr).setShop _ _).done _

theorem serveReadShop (b : List Byte) : Bounded (serveReadShop b s) := by
  unfold Machine.serveReadShop
  dsimp only
  split <;> exact answerable.answer _ _ _ h

theorem serveSnapShop (b : List Byte) : Bounded (serveSnapShop b s) := by
  unfold Machine.serveSnapShop
  dsimp only
  split
  · exact h.refuse _
  · split
    · exact h.refuse _
    · next hr => exact done (by exact { h.rollIfBehind hr with }) _

theorem execSnapShop : nextAll Bounded (execSnapShop s) := by
  unfold Machine.execSnapShop
  split
  · exact h.refuse _
  · exact h.shopStep fun b _ hu => hu.serveSnapShop b

theorem serveResolve (b : List Byte) : Bounded (serveResolve b s) := by
  unfold Machine.serveResolve
  dsimp only
  split
  · exact h.refuse _
  · split
    · exact h.refuse _
    · split
      · exact h.refuse _
      · split
        · exact h.refuse _
        · next hr =>
          refine done (append ?_ _ _) _
          split
          · exact (h.reserve hr).makeSettled _
          · exact (h.reserve hr).makeReturned _

theorem serveSetChannel (b : List Byte) : Bounded (serveSetChannel b s) := by
  unfold Machine.serveSetChannel
  split
  · exact h.refuse _
  · split
    · exact h.refuse _
    · split
      · exact h.refuse _
      · exact done (by exact { h with setups := Table.wf_write _ _ _ _ h.setups }) _

theorem serveArm (c : Nat) : Bounded (serveArm c s) := by
  unfold Machine.serveArm
  dsimp only
  split
  · exact h.refuse _
  · exact (h.setChannel _ _).grantSlots.done _

theorem serveStep (c : Nat) : Bounded (serveStep c s) := by
  unfold Machine.serveStep
  dsimp only
  split
  · exact (h.setChannel _ _).grantSlots.done _
  · exact h.refuse _

theorem serveUnmask (c : Nat) : Bounded (serveUnmask c s) := by
  unfold Machine.serveUnmask
  dsimp only
  split
  · exact (h.setChannel _ _).grantSlots.done _
  · exact (h.setChannel _ _).done _
  · exact h.refuse _
  all_goals exact h.done _

theorem serveChannelStatus (b : List Byte) : Bounded (serveChannelStatus b s) := by
  unfold Machine.serveChannelStatus
  dsimp only
  split
  · exact h.refuse _
  · exact (h.setChannel _ _).done _

theorem serveWriteProgram (b : List Byte) : Bounded (serveWriteProgram b s) := by
  unfold Machine.serveWriteProgram
  dsimp only
  split
  · exact h.refuse _
  · split
    · exact h.refuse _
    · refine done ?_ _
      unfold State.writeProgram
      split
      · exact (h.setProgram _ _).raiseBoundaries _ _
      · exact h.setProgram _ _

theorem serveWriteAccept (b : List Byte) : Bounded (serveWriteAccept b s) :=
  done (by exact { h with accept := Table.wf_write _ _ _ _ h.accept }) _

theorem serveWriteHouse (b : List Byte) : Bounded (serveWriteHouse b s) := done (by exact { h with }) _

theorem serveWriteBinding (b : List Byte) : Bounded (serveWriteBinding b s) := by
  unfold Machine.serveWriteBinding
  dsimp only
  split
  · exact h.refuse _
  · split
    · exact h.refuse _
    · exact done (by exact { h with bindings := Table.wf_write _ _ _ _ h.bindings }) _

theorem serveWriteSettings (b : List Byte) : Bounded (serveWriteSettings b s) := by
  unfold Machine.serveWriteSettings
  split
  · exact h.refuse _
  · exact done (by exact { h with }) _

/-! ### Recovery, resets, FORMAT -/

theorem execCardPassRecord : nextAll Bounded (execCardPassRecord s) := by
  unfold Machine.execCardPassRecord
  split
  · have hc : Bounded (s.cardPass s.recovery.cardCursor) := by
      unfold State.cardPass
      dsimp only
      split
      · exact h.noteFault _
      · split
        · exact { h.writeCard _ _ with }
        · exact h
    exact { hc with }
  · exact h

theorem execRecoveryDoubt : nextAll Bounded (execRecoveryDoubt s) := by
  unfold Machine.execRecoveryDoubt
  split
  · split
    · exact h
    · split
      · exact h
      · next hr => exact makeCounts (by exact { ((h.reserve hr).setShop _ _).append _ _ with })
  · exact h

theorem execAccrualReplay : nextAll Bounded (execAccrualReplay s) := by
  unfold Machine.execAccrualReplay
  have hc := h.makeCounts
  split
  · dsimp only
    split
    · exact hc
    · split
      · exact hc
      · split
        · exact hc
        · next hr => exact { (hc.rollForEffect hr).applyEffect _ _ with }
  · exact h

theorem execRecoveryEnd : nextAll Bounded (execRecoveryEnd s) := by
  unfold Machine.execRecoveryEnd
  have hc := h.makeCounts
  split
  · exact h
  · split
    · exact h.leaveRecovery _
    · split
      · exact h
      · dsimp only
        split
        · exact hc.leaveRecovery _
        · split
          · exact hc
          · next hr => exact ((hc.reserve hr).append _ _).leaveRecovery _

theorem execFormatComplete : nextAll Bounded (execFormatComplete s) := by
  unfold Machine.execFormatComplete
  split
  · refine done ?_ _
    exact
      { h with
        cards := Table.wf_filter _ _ _ h.cards, programs := rfl, accept := rfl, bindings := rfl, setups := rfl, shops := rfl,
        faults := Nat.zero_le _, window := Nat.zero_le _, ring := Nat.zero_le _ }
  · exact h

theorem execPfwAssert : nextAll Bounded (exec .pfwAssert s) := by
  obtain ⟨m, hm, e⟩ := execPfwAssert_spec s
  rw [e]
  have hb : Bounded m := by
    rcases hm with rfl | rfl
    · exact h
    · exact h.rollInHand
  exact { hb with }

/-- Every command keeps tables canonical and queues within their places. -/
theorem exec (i : Instr) : nextAll Bounded (exec i s) := by
  cases i with
  | powerOnReset c => exact h.resetChip _ _ _
  | pfwAssert => exact h.execPfwAssert
  | pfwRelease =>
    show nextAll _ (execPfwRelease s)
    unfold execPfwRelease
    split
    · exact h.resetChip _ _ _
    · exact h
  | restartPerformed =>
    show nextAll _ (execRestartPerformed s)
    unfold execRestartPerformed
    split
    · exact h.resetChip _ _ _
    · exact h
  | idleGap link => exact h.execIdleGap link
  | truncatedFrame link => exact h.execTruncatedFrame link
  | laneFrameReceived lane chars => exact h.execLaneFrameReceived lane chars
  | officeFrameReceived chars => exact h.execOfficeFrameReceived chars
  | bankFrameReceived chars => exact h.execBankFrameReceived chars
  | laneAnswerSent lane => exact h.execLaneAnswerSent lane
  | officeFrameSent => exact h.execOfficeFrameSent
  | paySend => exact h.execPaySend
  | payFrameSent => exact h.execPayFrameSent
  | laneBadRequest => exact h.execLaneBadRequest
  | activate => exact h.laneStep fun req _ hu hk hf => hu.decideActivate req (hf (by simp [laneKindPosts, hk]))
  | load => exact h.laneStep fun req _ hu hk hf => hu.decideLoad req (hf (by simp [laneKindPosts, hk]))
  | balance => exact h.laneStep fun req u hu _ _ => hu.declines (decideBalance_declines req u)
  | redeem => exact h.laneStep fun req _ hu hk hf => hu.decideRedeem req (hf (by simp [laneKindPosts, hk]))
  | cashout => exact h.laneStep fun req _ hu hk hf => hu.decideCashout req (hf (by simp [laneKindPosts, hk]))
  | authorize => exact h.laneStep fun req _ hu _ _ => hu.decideAuthorize req
  | capture => exact h.laneStep fun req _ hu hk hf => hu.decideCapture req (hf (by simp [laneKindPosts, hk]))
  | void => exact h.laneStep fun req _ hu _ _ => hu.decideVoid req
  | refund => exact h.laneStep fun req _ hu hk hf => hu.decideRefund req (hf (by simp [laneKindPosts, hk]))
  | holdDeadlineReached =>
    show nextAll _ (execHoldDeadlineReached s)
    unfold execHoldDeadlineReached
    split
    · split
      · exact { h with }
      · exact h
    · exact h
  | expiry =>
    show nextAll _ (execExpiry s)
    unfold execExpiry
    split
    · split
      · exact h.expire _
      · exact h
    · exact h
  | accrualApply => exact h.execAccrualApply
  | closeEntry => exact h.execCloseEntry
  | rollSweep => exact h.execRollSweep
  | slotGrant => exact h.execSlotGrant
  | channelVisit => exact h.execChannelVisit
  | bankFrameTaken => exact h.execBankFrameTaken
  | pull => exact h.execPull
  | doneAnswer => exact h.execDoneAnswer
  | backAnswer => exact h.execBackAnswer
  | payDeadlineReached slot => exact h.execPayDeadlineReached slot
  | deadlineExpiry => exact h.execDeadlineExpiry
  | streamMark => exact h.execStreamMark
  | attnChoice => exact h.execAttnChoice
  | cardPassRecord => exact h.execCardPassRecord
  | recoveryDoubt => exact h.execRecoveryDoubt
  | accrualReplay => exact h.execAccrualReplay
  | recoveryEnd => exact h.execRecoveryEnd
  | laneUp => exact h.officeStep fun b _ hu => hu.serveLaneUp b
  | laneStatus => exact h.officeStep fun b _ hu => hu.serveLaneStatus b
  | readStatus => exact h.officeStep fun b _ hu => hu.done _
  | restart => exact h.officeStep fun b _ hu => done (by exact { hu with }) _
  | readTable => exact h.officeStep fun b _ hu => hu.serveReadTable b
  | writeTableProgram => exact answerable.writeStep h fun b _ _ _ _ => h.serveWriteProgram b
  | writeTableAccept => exact answerable.writeStep h fun b _ _ _ _ => h.serveWriteAccept b
  | writeTableHouse => exact answerable.writeStep h fun b _ _ _ _ => h.serveWriteHouse b
  | writeTableBinding => exact answerable.writeStep h fun b _ _ _ _ => h.serveWriteBinding b
  | writeTableSettings => exact answerable.writeStep h fun b _ _ _ _ => h.serveWriteSettings b
  | format => exact h.cardStep fun b _ hu => hu.serveFormat b
  | openLedger => exact h.cardStep fun b _ hu => hu.serveOpenLedger b
  | readCard => exact h.cardStep fun b u hu => hu.answers (serveReadCard_answers b u)
  | provision => exact h.cardStep fun b _ hu => hu.serveProvision b
  | suspend => exact h.cardStep fun b _ hu => hu.serveSuspend b
  | resume => exact h.cardStep fun b _ hu => hu.serveResume b
  | closeCard => exact h.cardStep fun b _ hu => hu.serveCloseCard b
  | adjust => exact h.cardStep fun b _ hu => hu.serveAdjust b
  | rewriteCard => exact h.cardStep fun b _ hu => hu.serveRewriteCard b
  | readTotals => exact h.cardStep fun b u hu => hu.answers (serveReadTotals_answers b u)
  | closePeriod => exact h.cardStep fun b _ hu => hu.serveClosePeriod b
  | setShop => exact h.shopStep fun b _ hu => hu.serveSetShop b
  | readShop => exact h.shopStep fun b _ hu => hu.serveReadShop b
  | snapShop => exact h.execSnapShop
  | readSnap => exact h.officeStep fun b _ hu => hu.serveReadSnap b
  | readHouse => exact h.shopStep fun b _ hu => hu.done _
  | resolve => exact h.shopStep fun b _ hu => hu.serveResolve b
  | setChannel => exact h.officeStep fun b _ hu => hu.serveSetChannel b
  | armChannel => exact h.officeStep fun b _ hu => answerable.onChannel hu fun _ _ => hu.serveArm _
  | stepChannel => exact h.officeStep fun b _ hu => answerable.onChannel hu fun _ _ => hu.serveStep _
  | maskChannelMask => exact answerable.onAction h fun _ _ _ _ => (h.setChannel _ _).done _
  | maskChannelUnmask => exact answerable.onAction h fun _ _ _ _ => h.serveUnmask _
  | channelStatus => exact h.officeStep fun b _ hu => hu.serveChannelStatus b
  | journalRead => exact h.officeStep fun b _ hu => hu.serveJournalRead b
  | journalAck => exact h.officeStep fun b _ hu => hu.serveJournalAck b
  | streamSet => exact h.officeStep fun b _ hu => hu.serveStreamSet b
  | attnMask => exact h.officeStep fun b _ hu => done (by exact { hu with }) _
  | attnEnd => exact h.officeStep fun b _ hu => hu.serveAttnEnd b
  | attnMode => exact h.officeStep fun b _ hu => hu.serveAttnMode b
  | officeBadRequest => exact h.execOfficeBadRequest
  | formatComplete => exact h.execFormatComplete
  | transmitterBeginsFrame link => exact h.execTransmitterBeginsFrame link

end

end Bounded

/-- Settles O58, by the invariant's parts and one rule per operation. -/
theorem everyStepKeepsTablesAndQueues : Obligations.EveryStepKeepsTablesAndQueues := by
  intro s t htables hcap ht
  have h := (bounded_iff s).mpr ⟨htables, hcap⟩
  refine (bounded_iff t).mp ?_
  unfold step at ht
  split at ht
  · next c rest _ => exact (Bounded.exec (s := { s with pending := rest }) { h with } c).apply ht
  · cases ht; exact { h with }

end Sys2Proof.Machine
end

section
/-! PROOFS. The step function, the reset state and the resets. -/

namespace Sys2Proof.Machine

/-- Settles O1: the step function's first branch. -/
theorem stepRunsTheFrontCommand : Obligations.StepRunsTheFrontCommand := by
  intro c rest s
  rfl

/-- Settles O2: the step function's second branch. -/
theorem idleStepIsOneMillisecond : Obligations.IdleStepIsOneMillisecond := by
  intro s empty
  simp [step, empty, State.tick]

/-- A channel after a reset is loaded from its stored setup. -/
theorem channelsAtReset_read (s : State) (c : Nat) (hc : c ≤ 3) :
    Table.read Channel.initial (channelsAtReset s) c = channelAtReset (s.setup c) := by
  have cases : c = 0 ∨ c = 1 ∨ c = 2 ∨ c = 3 := by omega
  obtain rfl | rfl | rfl | rfl := cases <;>
    simp [channelsAtReset, Table.read_write_ne]

/-- The reset chip stands at its reset values over the same store. -/
theorem afterReset_resetChip (cause : ResetCause) (capacity : Nat) (pfw : Bool) (s : State) :
    afterReset cause s (resetChip cause capacity pfw s) := by
  have channels : ∀ c, c ≤ 3 → (resetChip cause capacity pfw s).channel c = channelAtReset (s.setup c) :=
    channelsAtReset_read s
  exact ⟨rfl, rfl, rfl, rfl, rfl, rfl, rfl, rfl, rfl, fun _ => rfl, rfl, rfl, fun _ => rfl, rfl, rfl, rfl, rfl, rfl, rfl, rfl,
    channels, fun _ => rfl, rfl, rfl, rfl, rfl, rfl, rfl, rfl, rfl, rfl, rfl, rfl, rfl, rfl, rfl, rfl, rfl, rfl, rfl, rfl⟩

/-- Settles O3: every field of the reset state, the channels by the blank store's setups. -/
theorem resetStateHoldsTheResetValues : Obligations.ResetStateHoldsTheResetValues :=
  ⟨⟨rfl, rfl, rfl, rfl, rfl, rfl, rfl, rfl, rfl, fun _ => rfl, rfl, rfl, fun _ => rfl, rfl, rfl, rfl, rfl, rfl, rfl, rfl,
    fun _ _ => rfl, fun _ => rfl, rfl, rfl, rfl, rfl, rfl, rfl, rfl, rfl, rfl, rfl, rfl, rfl, rfl, rfl, rfl, rfl, rfl, rfl, rfl⟩,
    rfl, rfl, rfl⟩

/-- Settles O4: the three resets all are the reset chip. -/
theorem resetsKeepTheStore : Obligations.ResetsKeepTheStore := by
  refine ⟨fun c s => ⟨_, rfl, afterReset_resetChip .powerOn c.cards false s, rfl, rfl, rfl⟩, fun s warned => ?_,
    fun s sent => ?_⟩
  · exact ⟨_, by simp [exec, execPfwRelease, warned], afterReset_resetChip .powerFail s.cap false s, rfl, rfl, rfl⟩
  · exact ⟨_, by simp [exec, execRestartPerformed, sent], afterReset_resetChip .restart s.cap s.pfw s, rfl, rfl, rfl⟩

/-- The Office Unit takes no request from an empty queue, after RESTART, and under the warning. -/
theorem State.officeTake_idle {s : State}
    (idle : s.officeLink.queue = [] ∨ s.office.restartTaken = true ∨ s.pfw = true) : s.officeTake = s := by
  unfold State.officeTake
  split
  · obtain empty | restarting | warned := idle <;> simp_all
  · rfl

/-- Settles O45: handing the answer over, and taking the next request, by the answer place and the office queue. -/
theorem officeAnswersEchoTheirRequest : Obligations.OfficeAnswersEchoTheirRequest := by
  intro s f code data inFlight
  refine ⟨fun a occupied => ?_, fun free idle => ?_, fun g rest free queued running warned => ?_⟩
  · simp [State.answerOffice, inFlight, State.officeSettle, State.officeHandOver, State.officeTake, occupied]
  · simp only [State.answerOffice, inFlight, State.officeSettle, State.officeHandOver, free]
    exact State.officeTake_idle idle
  · simp [State.answerOffice, inFlight, State.officeSettle, State.officeHandOver, State.officeTake, free, queued, running, warned]

end Sys2Proof.Machine
end

section
/-! PROOFS. Links and frames: receivers, arrivals, the envelope, the transmitters (chapter 1). -/

namespace Sys2Proof.Machine

/-! ### One lane written -/

/-- Lane l is the given one and nothing else has changed. -/
def laneWritten (s t : State) (l : Nat) (v : Lane) : Prop :=
  t.lane l = v ∧ (∀ k, k ≠ l → t.lane k = s.lane k) ∧ { t with lanes := s.lanes } = s

theorem laneWritten_setLane (s : State) (l : Nat) (v : Lane) : laneWritten s (s.setLane l v) l v :=
  ⟨State.setLane_lane_same s l v, fun _ hk => State.setLane_lane_ne s l v hk, rfl⟩

/-! ### Receivers -/

/-- Settles O7: by link, and in each the receiver's state. -/
theorem idleGapPutsTheReceiverInRun : Obligations.IdleGapPutsTheReceiverInRun := by
  refine ⟨fun s l unwarned small hunting => ?_, fun s unwarned hunting => ?_, fun s unwarned hunting => ?_,
    fun s l small other => ?_, fun s other => ?_, fun s other => ?_, fun s link idle => ?_⟩
  · obtain ⟨written, others, frame⟩ := laneWritten_setLane s l { s.lane l with rx := .run }
    exact ⟨_, by simp [exec, execIdleGap, unwarned, small, hunting], written, others, frame⟩
  · simp [exec, execIdleGap, unwarned, hunting]
  · simp [exec, execIdleGap, unwarned, hunting]
  · simp [exec, execIdleGap, small, other]
  · simp [exec, execIdleGap, other]
  · simp [exec, execIdleGap, other]
  · obtain warned | unknown := idle
    · simp [exec, execIdleGap, warned]
    · have : ¬ link ≤ 3 ∧ link ≠ 4 ∧ link ≠ 5 := by omega
      simp [exec, execIdleGap, this]

/-- Without an answer being sent only the TAKEN entry stays on DOWN. -/
theorem keepOnDown_false (q : List LaneEntry) :
    keepOnDown false q = q.filter fun e => decide (e.stage = .taken) := by
  induction q with
  | nil => rfl
  | cons e es ih => cases h : e.stage <;> simp [keepOnDown, h, ih]

/-- With nothing ANSWERED only the TAKEN entry stays on DOWN. -/
theorem keepOnDown_unanswered (sending : Bool) (q rest : List LaneEntry)
    (h : ∀ e ∈ q, e.stage = .waiting ∨ e.stage = .taken) :
    keepOnDown sending (q ++ rest) = q.filter (fun e => decide (e.stage = .taken)) ++ keepOnDown sending rest := by
  induction q with
  | nil => rfl
  | cons e es ih =>
    obtain ⟨head, tail⟩ := List.forall_mem_cons.mp h
    obtain waiting | taken := head
    · simp [keepOnDown, waiting, ih tail]
    · simp [keepOnDown, taken, ih tail]

/-- What a framing error leaves of its lane, with LANE_DOWN on the 16th in a row. -/
theorem State.laneError_leaves (s : State) (l : Nat) (after : RxState) :
    (∀ k, k ≠ l → (s.laneError l after).lane k = s.lane k) ∧
    { s.laneError l after with lanes := s.lanes, attn.pending := s.attn.pending } = s ∧
    (if (s.lane l).consecutive < 15 then
      (s.laneError l after).lane l =
          { s.lane l with framing := ((s.lane l).framing + 1) % 4294967296,
                          consecutive := (s.lane l).consecutive + 1, rx := after } ∧
        (s.laneError l after).attn.pending = s.attn.pending
    else
      (s.laneError l after).lane l =
          { s.lane l with
            framing := ((s.lane l).framing + 1) % 4294967296, consecutive := 16, rx := .down,
            queue := keepOnDown (decide ((s.lane l).sending.map LaneSending.source = some .answer)) (s.lane l).queue,
            ready := [],
            busyPlace := if (s.lane l).sending.map LaneSending.source = some .busy then (s.lane l).busyPlace else none } ∧
        (s.laneError l after).attn.pending.getLsbD 6 = true ∧ onlyRaises s (s.laneError l after) [6]) := by
  by_cases few : (s.lane l).consecutive < 15
  · have stays : ¬ 16 ≤ (s.lane l).consecutive + 1 := by omega
    have error : s.laneError l after =
        s.setLane l { s.lane l with framing := ((s.lane l).framing + 1) % 4294967296,
                                    consecutive := (s.lane l).consecutive + 1, rx := after } := by
      simp [State.laneError, stays, bump32]
    rw [error, if_pos few]
    exact ⟨fun k hk => State.setLane_lane_ne s l _ hk, rfl, State.setLane_lane_same s l _, rfl⟩
  · have falls : 16 ≤ (s.lane l).consecutive + 1 := by omega
    have error : s.laneError l after =
        (s.setLane l
          { s.lane l with
            framing := ((s.lane l).framing + 1) % 4294967296, consecutive := 16, rx := .down,
            queue := keepOnDown (decide ((s.lane l).sending.map LaneSending.source = some .answer)) (s.lane l).queue,
            ready := [],
            busyPlace := if (s.lane l).sending.map LaneSending.source = some .busy then (s.lane l).busyPlace
              else none }).raise .laneDown := by
      simp [State.laneError, falls, bump32, Lane.enterDown]
    rw [error, if_neg few]
    generalize hv : ({ s.lane l with
            framing := ((s.lane l).framing + 1) % 4294967296, consecutive := 16, rx := .down,
            queue := keepOnDown (decide ((s.lane l).sending.map LaneSending.source = some .answer)) (s.lane l).queue,
            ready := [],
            busyPlace := if (s.lane l).sending.map LaneSending.source = some .busy then (s.lane l).busyPlace
              else none } : Lane) = v
    refine ⟨fun k hk => State.setLane_lane_ne s l v hk, rfl, State.setLane_lane_same s l v, ?_,
      onlyRaises_raiseIf (s.setLane l v) true .laneDown [6] (by decide)⟩
    rw [State.raise_flag]
    simp [Source.number]

/-- Settles O8: a lane's error by `State.laneError_leaves`; the two other links have one place to count in. -/
theorem framingErrorsCountAndTakeALaneDown : Obligations.FramingErrorsCountAndTakeALaneDown := by
  refine ⟨fun s l i after unwarned small running cause => ?_, fun s unwarned running => ?_, fun s unwarned running => ?_,
    fun s chars unwarned running error => ?_, fun s chars unwarned running error => ?_, fun s link idle => ?_⟩
  · have result : exec i s = .next (s.laneError l after) := by
      obtain ⟨rfl, rfl⟩ | ⟨chars, rfl, error, rfl⟩ := cause
      · simp [exec, execTruncatedFrame, unwarned, small, running]
      · simp [exec, execLaneFrameReceived, unwarned, running, error, show ¬ 3 < l by omega]
    obtain ⟨others, frame, leaves⟩ := s.laneError_leaves l after
    refine ⟨_, result, others, frame, ?_⟩
    by_cases few : (s.lane l).consecutive < 15
    · rw [if_pos few] at leaves ⊢
      exact leaves
    · rw [if_neg few] at leaves ⊢
      obtain ⟨lane, raised, only⟩ := leaves
      refine ⟨_, lane, fun quiet => ?_, fun before older e a sending queue answered unanswered => ?_, raised, only⟩
      · obtain notSending | unanswered := quiet
        · rw [decide_eq_false notSending]
          exact keepOnDown_false _
        · simpa [keepOnDown] using keepOnDown_unanswered
            (decide ((s.lane l).sending.map LaneSending.source = some .answer)) (s.lane l).queue [] unanswered
      · rw [decide_eq_true sending, queue, keepOnDown_unanswered true before _ unanswered]
        simp [keepOnDown, answered, keepOnDown_false]
  · simp [exec, execTruncatedFrame, unwarned, running, State.officeError, bump32]
  · simp [exec, execTruncatedFrame, unwarned, running, State.payError, bump32]
  · simp [exec, execOfficeFrameReceived, unwarned, running, error, State.officeError, bump32]
  · simp [exec, execBankFrameReceived, unwarned, running, error, State.payError, bump32]
  · obtain warned | unknown | ⟨small, other⟩ | ⟨rfl, other⟩ | ⟨rfl, other⟩ := idle
    · simp [exec, execTruncatedFrame, warned]
    · have : ¬ link ≤ 3 ∧ link ≠ 4 ∧ link ≠ 5 := by omega
      simp [exec, execTruncatedFrame, this]
    · simp [exec, execTruncatedFrame, small, other]
    · simp [exec, execTruncatedFrame, other]
    · simp [exec, execTruncatedFrame, other]

/-- Settles O9: the arrival function of each link, and the guards before it. -/
theorem framesAreQueuedOrTurnedAway : Obligations.FramesAreQueuedOrTurnedAway := by
  refine ⟨fun s l chars kind body unwarned small running valid => ?_, fun s chars kind body unwarned running valid => ?_,
    fun s chars kind body unwarned running valid => ?_, fun s l chars idle => ?_, fun s chars idle => ?_,
    fun s chars idle => ?_⟩
  · obtain ⟨lane, others, frame⟩ := laneWritten_setLane s l ((s.lane l).arrive kind body)
    refine ⟨_, by simp [exec, execLaneFrameReceived, unwarned, running, valid, show ¬ 3 < l by omega], others, frame, ?_⟩
    rw [lane]
    simp [Lane.arrive, laneBusyAnswer, bump32]
  · simp [exec, execOfficeFrameReceived, unwarned, running, valid, OfficeLink.arrive, officeBusyAnswer, bump32]
  · cases formed : bankWellFormed { kind := kind, body := body } <;>
      simp [exec, execBankFrameReceived, unwarned, running, valid, PayLink.arrive, bump32, formed]
  · obtain warned | unknown | other := idle <;> simp [exec, execLaneFrameReceived, *]
  · obtain warned | other := idle <;> simp [exec, execOfficeFrameReceived, *]
  · obtain warned | other := idle <;> simp [exec, execBankFrameReceived, *]

/-! ### The envelope -/

theorem bytesOf_length (w v : Nat) : (bytesOf w v).length = w := by
  induction w generalizing v with
  | zero => rfl
  | succ w ih => simp [bytesOf, ih]

/-- Reading the bytes of a value, after those of a value above it, gives the two together. -/
theorem foldl_bytesOf (w v a : Nat) :
    (bytesOf w v).foldl (fun a b => a * 256 + b.toNat) a = a * 256 ^ w + v % 256 ^ w := by
  induction w generalizing a with
  | zero => simp [bytesOf, Nat.mod_one]
  | succ w ih =>
    have digits : v % 256 ^ (w + 1) = v / 256 ^ w % 256 * 256 ^ w + v % 256 ^ w := by
      rw [pow_succ, Nat.mod_mul, Nat.mul_comm, Nat.add_comm]
    simp only [bytesOf, List.foldl_cons, ih, BitVec.toNat_ofNat, digits]
    ring

theorem natOf_bytesOf (w v : Nat) : natOf (bytesOf w v) = v % 256 ^ w := by
  simp [natOf, foldl_bytesOf]

/-- The characters of a frame, all with their stop bits. -/
def frameChars (kind : Byte) (body : List Byte) : List RxChar :=
  (frameBytes kind body).map fun b => { data := b, stopOk := true }

theorem frameChars_length (kind : Byte) (body : List Byte) : (frameChars kind body).length = body.length + 5 := by
  simp [frameChars, frameBytes, bytesOf_length]

/-- Characters of a frame's length with one low stop bit are judged a framing error. -/
theorem judgeFrame_lowStop (minBody : Nat) (chars : List RxChar) (n : Byte) (third : chars[2]?.map RxChar.data = some n)
    (full : chars.length = n.toNat + 5) (low : ∃ c ∈ chars, c.stopOk = false) : judgeFrame minBody chars = .error := by
  have any : chars.any (fun c => !c.stopOk) = true := by
    simpa only [List.any_eq_true, Bool.not_eq_true'] using low
  match chars, third with
  | m :: k :: len :: rest, third =>
    obtain rfl : len.data = n := by simpa using third
    have complete : rest.length = len.data.toNat + 2 := by simpa using full
    simp only [judgeFrame, complete, ne_eq, not_true_eq_false, if_false, any, Bool.true_or, if_true]

/-- Settles O10: the length byte and the check are read as they were laid out; a low stop bit alone decides for an error. -/
theorem everyFrameFormedIsJudgedValid : Obligations.EveryFrameFormedIsJudgedValid := by
  intro minBody kind body short long
  have length : (BitVec.ofNat 8 body.length).toNat = body.length := by
    simp only [BitVec.toNat_ofNat]
    omega
  refine ⟨?_, fun k hk => ?_⟩
  · generalize check : crcOf (kind :: BitVec.ofNat 8 body.length :: body) = crc
    have small : crc.toNat < 65536 := crc.isLt
    have read : natOf (bytesOf 2 crc.toNat) = crc.toNat := by
      rw [natOf_bytesOf]
      omega
    have counted : ¬ 250 < body.length ∧ ¬ body.length < minBody := by omega
    simp [judgeFrame, frameBytes, length, check, bytesOf_length, read, counted, Function.comp_def]
  · refine judgeFrame_lowStop minBody _ (BitVec.ofNat 8 body.length) ?_ ?_ ?_
    · by_cases third : k = 2 <;> simp [frameBytes, third]
    · rw [List.length_modify, length]
      exact frameChars_length kind body
    · have present : k < (frameChars kind body).length := by
        rw [frameChars_length]
        exact hk
      refine ⟨{ (frameChars kind body)[k] with stopOk := false }, List.mem_of_getElem? (i := k) ?_, rfl⟩
      rw [List.getElem?_modify]
      simp only [↓reduceIte]
      rw [← frameChars, List.getElem?_eq_getElem present]
      rfl

/-! ### Transmitters -/

/-- Settles O11: the begin function of each link, by what is ready. -/
theorem transmittersBeginInTheirOrder : Obligations.TransmittersBeginInTheirOrder := by
  refine ⟨fun s l r rest a unwarned small free up ready offered => ?_, fun s rest a unwarned free ready place => ?_,
    fun s rest a unwarned free ready place => ?_, fun s n unwarned free ready place => ?_,
    fun s es unwarned free ready noAttn place => ?_, fun s p unwarned free place => ?_, fun s l small idle => ?_,
    fun s link warned => ?_⟩
  · obtain ⟨lane, others, frame⟩ := laneWritten_setLane s l (s.lane l).begin
    refine ⟨_, by simp [exec, execTransmitterBeginsFrame, unwarned, small], ?_, others, frame⟩
    rw [lane]
    simp [Lane.begin, free, ready, up, offered, laneAnswerFrame]
  · simp [exec, execTransmitterBeginsFrame, unwarned, OfficeLink.begin, free, ready, place]
  · simp [exec, execTransmitterBeginsFrame, unwarned, OfficeLink.begin, free, ready, place]
  · simp [exec, execTransmitterBeginsFrame, unwarned, OfficeLink.begin, free, ready, place, attnFrame]
  · simp [exec, execTransmitterBeginsFrame, unwarned, OfficeLink.begin, free, ready, noAttn, place]
  · simp [exec, execTransmitterBeginsFrame, unwarned, PayLink.begin, free, place]
  · cases warned : s.pfw
    · have same : (s.lane l).begin = s.lane l := by
        unfold Lane.begin
        split
        · next free ready =>
          obtain down | empty | sending := idle
          · rw [if_pos down]
          · simp [empty] at ready
          · exact absurd free sending
        · rfl
      obtain ⟨lane, others, frame⟩ := laneWritten_setLane s l (s.lane l).begin
      refine ⟨_, by simp [exec, execTransmitterBeginsFrame, warned, small], fun k => ?_, frame⟩
      by_cases hk : k = l
      · rw [hk, lane, same]
      · exact others k hk
    · exact ⟨s, by simp [exec, execTransmitterBeginsFrame, warned], fun _ => rfl, rfl⟩
  · simp [exec, execTransmitterBeginsFrame, warned]

/-- Settles O12: by the source of the frame sent; PAY by the head of the list. -/
theorem sentFramesEmptyTheirPlaces : Obligations.SentFramesEmptyTheirPlaces := by
  refine ⟨fun s l bytes sending => ?_, fun s l bytes sending => ?_, fun s bytes sending other => ?_, fun s bytes sending => ?_,
    fun s bytes sending => ?_, fun s bytes sending => ?_, fun s bytes sending => ?_,
    fun s k rest p unwarned free list slot => ?_⟩
  · exact ⟨_, by simp [exec, execLaneAnswerSent, sending], laneWritten_setLane s l _⟩
  · exact ⟨_, by simp [exec, execLaneAnswerSent, sending], laneWritten_setLane s l _⟩
  · simp [exec, execOfficeFrameSent, other, sending]
  · simp [exec, execOfficeFrameSent, State.sendingRestartAnswer, sending]
  · simp [exec, execOfficeFrameSent, State.sendingRestartAnswer, sending]
  · simp [exec, execOfficeFrameSent, State.sendingRestartAnswer, sending]
  · simp [exec, execPayFrameSent, sending]
  · have result : exec .paySend s = .next (State.setSlot
        { s with payLink.place := some { tag := p.tag, shop := p.shop, period := p.period, amount := p.amount },
                 plu.payList := rest } k (.filled { p with sent := true })) := by
      simp [exec, execPaySend, free, list, unwarned, slot, markSent]
    exact ⟨_, result, rfl, rfl, State.setSlot_slot_same _ k _, fun j hj => State.setSlot_slot_ne _ k _ hj, rfl⟩

end Sys2Proof.Machine
end

section
/-! PROOFS. Admission at the Card Ledger and the lookups it rests on (chapters 2 to 4). -/

namespace Sys2Proof.Machine

/-! ### Lookups -/

/-- A search returns a number exactly when it is the least of its range that satisfies the predicate. -/
theorem firstFrom_eq_some_iff (p : Nat → Bool) (n i k : Nat) :
    firstFrom p n i = some k ↔ i ≤ k ∧ k < i + n ∧ p k = true ∧ ∀ j, i ≤ j → j < k → p j = false := by
  refine ⟨firstFrom_spec p n i k, fun ⟨low, high, holds, least⟩ => ?_⟩
  cases found : firstFrom p n i with
  | none => simp [firstFrom_none p n i found k low high] at holds
  | some m =>
    obtain ⟨mLow, -, mHolds, mLeast⟩ := firstFrom_spec p n i m found
    rcases Nat.lt_trichotomy m k with less | rfl | more
    · simp [least m mLow less] at mHolds
    · rfl
    · simp [mLeast k low more] at holds

theorem State.boundShop_eq_some_iff (s : State) (lane address shop : Nat) :
    s.boundShop lane address = some shop ↔
      s.store.signature = true ∧ address ≠ 0 ∧ address ≠ 255 ∧
        ∃ i, i ≤ 127 ∧ (s.binding (lane * 128 + i)).enabled = true ∧ (s.binding (lane * 128 + i)).address = address ∧
          (s.binding (lane * 128 + i)).shop = shop ∧
          ∀ j, j < i → ¬((s.binding (lane * 128 + j)).enabled = true ∧ (s.binding (lane * 128 + j)).address = address) := by
  unfold State.boundShop
  split
  · next barred =>
    refine ⟨by simp, ?_⟩
    rintro ⟨signed, notZero, notAll, -⟩
    simp [signed, notZero, notAll] at barred
  · next open_ =>
    simp only [not_or, Bool.not_eq_false] at open_
    obtain ⟨notZero, notAll, signed⟩ := open_
    simp only [Option.map_eq_some_iff, firstFrom_eq_some_iff, Bool.and_eq_true, decide_eq_true_eq, zero_le,
      true_and, zero_add, forall_const, Bool.eq_false_iff, ne_eq]
    constructor
    · rintro ⟨i, ⟨small, ⟨enabled, named⟩, first⟩, bound⟩
      exact ⟨signed, notZero, notAll, i, Nat.le_of_lt_succ small, enabled, named, bound,
        first⟩
    · rintro ⟨-, -, -, i, small, enabled, named, bound, first⟩
      exact ⟨i, ⟨Nat.lt_succ_of_le small, ⟨enabled, named⟩, first⟩, bound⟩

theorem State.rangeProgram_eq_some_iff (s : State) (serial k : Nat) :
    s.rangeProgram serial = some k ↔
      k ≤ 7 ∧ serial < (s.program k).boundary ∧ ∀ j, j < k → (s.program j).boundary ≤ serial := by
  simp only [State.rangeProgram, firstFrom_eq_some_iff, decide_eq_true_eq, decide_eq_false_iff_not, zero_le, true_and, zero_add,
    forall_const, not_lt, Nat.lt_succ_iff]

theorem State.lookup_eq_some_iff (s : State) (serial k : Nat) :
    s.lookup serial = some k ↔
      serial < s.cap ∧ (s.program k).enabled = true ∧ s.rangeProgram serial = some k := by
  unfold State.lookup
  split
  · next above => simp [Nat.not_lt.mpr above]
  · next below =>
    split
    · next m range =>
      cases enabled : (s.program m).enabled <;> simp [range]
      · rintro - on rfl
        simp [on] at enabled
      · constructor
        · rintro rfl
          exact ⟨Nat.lt_of_not_le below, enabled, rfl⟩
        · exact fun found => found.2.2
    · next none_ => simp [none_]

/-- Settles O14: each lookup by its own equivalence. -/
theorem lookupsFollowTheirTables : Obligations.LookupsFollowTheirTables := by
  refine ⟨State.boundShop_eq_some_iff, State.rangeProgram_eq_some_iff, fun s serial k => ?_, ?_⟩
  · rw [State.lookup_eq_some_iff, State.rangeProgram_eq_some_iff]
  · rintro s slot gen _ small rfl
    have slotPart : (slot * 32 + gen) / 32 = slot := by omega
    have genPart : (slot * 32 + gen) % 32 = gen := by omega
    cases openHold : (s.holdSlot slot).hold with
    | some hold =>
      by_cases same : (s.holdSlot slot).gen = gen
      · simp [State.resolveHold, slotPart, genPart, openHold, same, eq_comm]
      · simp [State.resolveHold, slotPart, genPart, openHold, same]
    | none =>
      cases memory : (s.holdSlot slot).memory with
      | none => simp [State.resolveHold, slotPart, openHold, memory]
      | some ended =>
        obtain ⟨g, cause⟩ := ended
        by_cases same : g = gen <;> simp [State.resolveHold, slotPart, genPart, openHold, memory, same]

/-! ### Admission -/

theorem State.admitShop_eq_ok_iff (s : State) (cls : ShopClass) (req : LaneReq) (shop : Nat) :
    s.admitShop cls req = .ok shop ↔
      laneFieldsOk req.kind req.body = true ∧ s.boundShop req.lane (fieldAt req.body 0 1) = some shop ∧
        s.ledger.mode = .opened ∧ shopDecline cls (s.shop shop).office (s.shop shop).debtBar = none := by
  refine ⟨State.admitShop_ok, fun ⟨fields, bound, opened, admitted⟩ => ?_⟩
  simp [State.admitShop, fields, bound, opened, admitted]

theorem faulty_eq_false_iff (r : CardRecord) (p : Nat) :
    faulty r (some p) = false ↔ r.checkOk = true ∧ (r.state ≠ .blank → r.program = some p) := by
  simp [faulty]

theorem State.admitCard_eq_pass_iff (s : State) (rule : CardRule) (req : LaneReq) (shop prog : Nat) (card : CardRecord) :
    s.admitCard rule req = .pass shop prog card ↔
      s.admitShop rule.cls req = .ok shop ∧ soundCard s (fieldAt req.body 3 3) prog card ∧
        rule.accepts (s.acceptRow (shop / 16)) prog = true ∧ rule.stateOk card = true ∧
        card.code = some (fieldAt req.body 6 2) ∧
        (rule.amount = true → 0 < fieldAt req.body 8 4 ∧ fieldAt req.body 8 4 ≤ 10000000) := by
  refine ⟨State.admitCard_pass, ?_⟩
  rintro ⟨admitted, ⟨-, known, unlisted, rfl, sound⟩, accepts, stateOk, code, amount⟩
  have record : s.readRecord (fieldAt req.body 3 3) (some prog) = (s, some (s.card (fieldAt req.body 3 3))) := by
    simp [State.readRecord, unlisted, sound]
  have inRange : (rule.amount && (decide (fieldAt req.body 8 4 = 0) || decide (10000000 < fieldAt req.body 8 4))) = false := by
    cases checked : rule.amount
    · rfl
    · have := amount checked
      simp only [Bool.true_and, Bool.or_eq_false_iff, decide_eq_false_iff_not]
      omega
  simp [State.admitCard, admitted, known, record, segment, accepts, stateOk, code, inRange]

/-- Settles O13: the equivalence by `State.admitCard_eq_pass_iff`, the rules and the shop table by their values. -/
theorem admissionPassesExactlyTheListedChecks : Obligations.AdmissionPassesExactlyTheListedChecks := by
  refine ⟨fun s rule req shop prog card => ?_, fun cls office bar => ?_, fun a p c => ?_, rfl⟩
  · rw [State.admitCard_eq_pass_iff, State.admitShop_eq_ok_iff]
    constructor
    · rintro ⟨⟨fields, bound, opened, admitted⟩, ⟨-, known, unlisted, rfl, sound⟩, rest⟩
      obtain ⟨check, program⟩ := (faulty_eq_false_iff _ _).mp sound
      exact ⟨fields, bound, opened, admitted, known, unlisted, rfl, check, program, rest⟩
    · rintro ⟨fields, bound, opened, admitted, known, unlisted, rfl, check, program, rest⟩
      exact ⟨⟨fields, bound, opened, admitted⟩,
        ⟨opened, known, unlisted, rfl, (faulty_eq_false_iff _ _).mpr ⟨check, program⟩⟩, rest⟩
  · cases office <;> cases cls <;> cases bar <;> rfl
  · refine ⟨rfl, ?_, rfl, rfl, rfl, rfl, rfl, rfl, rfl, rfl⟩
    simp [activateRule, Bool.decide_and]

end Sys2Proof.Machine
end

section
/-! PROOFS. The commits of the lane requests (chapters 3 to 5). -/

namespace Sys2Proof.Machine

/-! ### One commit of the Card Ledger -/

/-- Only cards, totals, capture window and holds may differ. -/
def cardsEdited (s t : State) : Prop :=
  t = { s with holds := t.holds, expiryQ := t.expiryQ, waiting := t.waiting, store.cards := t.store.cards,
               store.totals := t.store.totals, store.window := t.store.window }

/-- From state s the cards, totals, window and holds of an edited state are committed with one entry, and an effect is posted. -/
structure Committed (s mid t : State) (body : EntryBody) (effect : Option Effect) : Prop where
  cards : t.store.cards = mid.store.cards
  totals : t.store.totals = mid.store.totals
  window : t.store.window = mid.store.window
  holds : t.holds = mid.holds
  expiryQ : t.expiryQ = mid.expiryQ
  waiting : t.waiting = mid.waiting
  lanes : t.lanes = s.lanes
  ledger : t.ledger = s.ledger
  accruals : t.settle.accruals =
    s.settle.accruals ++ (effect.map fun e => Accrual.money e s.ledger.period s.store.nextToWrite).toList
  entry : oneEntry s t s.ledger.period body
  raises : onlyRaises s t [4, 5]
  frame : { t with holds := s.holds, expiryQ := s.expiryQ, waiting := s.waiting, store.cards := s.store.cards,
                   store.totals := s.store.totals, store.window := s.store.window, store.ring := s.store.ring,
                   store.nextToWrite := s.store.nextToWrite, settle.accruals := s.settle.accruals, journal := s.journal,
                   attn.pending := s.attn.pending } = s

/-- A posted entry is an append and the accrual, if any. -/
theorem State.post_eq (s : State) (body : EntryBody) (effect : Option Effect) :
    s.post body effect =
      { s.append s.ledger.period body with
        settle.accruals := s.settle.accruals ++
          (effect.map fun e => Accrual.money e s.ledger.period s.store.nextToWrite).toList } := by
  have kept : (s.append s.ledger.period body).settle = s.settle := State.append_settle _ _ _
  cases effect with
  | none => simp only [State.post, Option.map_none, Option.toList_none, List.append_nil, ← kept]
  | some e => simp only [State.post, Option.map_some, Option.toList_some, kept]

/-- An edit of the cards and an append do not see each other. -/
theorem cardsEdited.append {s t : State} (edited : cardsEdited s t) (p : Nat) (b : EntryBody) :
    cardsEdited (s.append p b) (t.append p b) := by
  unfold cardsEdited
  rw [edited]
  unfold State.append
  dsimp only [State.unack, State.nextWrite, State.oldest]
  generalize ((if s.store.signature = true then s.store.nextToWrite else 1) -
    (if s.store.signature = true then s.store.oldestUnack else 1) + 1 == Config.highMark && !s.journal.highHeld) = high
  cases high <;> rfl

/-- A granted reservation and an append keep all but the journal and its attentions. -/
theorem State.append_reserve_frame {s s1 : State} {cls : ResClass} {n : Nat} (reserved : s.reserve cls n = some s1) (p : Nat)
    (b : EntryBody) :
    { s1.append p b with store.ring := s.store.ring, store.nextToWrite := s.store.nextToWrite, journal := s.journal,
                         attn.pending := s.attn.pending } = s := by
  obtain ⟨-, granted⟩ := State.reserve_eq reserved
  generalize fullRaised s n = full at granted
  unfold State.append
  dsimp only
  generalize (s1.unack + 1 == Config.highMark && !s1.journal.highHeld) = high
  rw [granted]
  cases full <;> cases high <;> rfl

theorem State.append_reserve_raises {s s1 : State} {cls : ResClass} {n : Nat} (reserved : s.reserve cls n = some s1) (p : Nat)
    (b : EntryBody) : onlyRaises s (s1.append p b) [4, 5] := by
  obtain ⟨-, none_⟩ | ⟨-, t, found, -, only⟩ := s.reserve_spec cls n
  · simp [none_] at reserved
  · obtain rfl : t = s1 := by simpa [found] using reserved
    exact onlyRaises_trans only (State.append_raises t p b)

theorem committed_post {s s1 mid : State} (reserved : s.reserve .general 1 = some s1) (edited : cardsEdited s1 mid)
    (body : EntryBody) (effect : Option Effect) : Committed s mid (mid.post body effect) body effect := by
  have frame1 := State.append_reserve_frame reserved s.ledger.period body
  have entry1 := oneEntry_append reserved s.ledger.period body
  have raises1 := State.append_reserve_raises reserved s.ledger.period body
  have edited1 := edited.append s.ledger.period body
  have s1Ledger : s1.ledger = s.ledger := by
    simpa using congrArg State.ledger frame1
  have s1Settle : s1.settle = s.settle := by
    simpa using congrArg State.settle frame1
  have s1Lanes : s1.lanes = s.lanes := by
    simpa using congrArg State.lanes frame1
  have s1Next : s1.store.nextToWrite = s.store.nextToWrite := by
    rw [(State.reserve_eq reserved).2]
    cases fullRaised s 1 <;> rfl
  have midLedger : mid.ledger = s.ledger := (congrArg State.ledger edited).trans s1Ledger
  have midSettle : mid.settle = s.settle := (congrArg State.settle edited).trans s1Settle
  have midLanes : mid.lanes = s.lanes := (congrArg State.lanes edited).trans s1Lanes
  have midNext : mid.store.nextToWrite = s.store.nextToWrite := (congrArg (fun x => x.store.nextToWrite) edited).trans s1Next
  rw [State.post_eq, midLedger, midNext, midSettle]
  generalize accruals : (effect.map fun e => Accrual.money e s.ledger.period s.store.nextToWrite).toList = pushed
  refine ⟨?_, ?_, ?_, ?_, ?_, ?_, ?_, ?_, ?_, ?_, ?_, ?_⟩
  · simp
  · simp
  · simp
  · simp
  · simp
  · simp
  · simpa using midLanes
  · simpa using midLedger
  · rw [accruals]
  · rw [edited1]
    exact entry1
  · rw [edited1]
    exact raises1
  · rw [edited1]
    generalize s1.append s.ledger.period body = u at frame1
    exact congrArg (fun x : State => { x with
      holds := s.holds, expiryQ := s.expiryQ, waiting := s.waiting, store.cards := s.store.cards,
      store.totals := s.store.totals, store.window := s.store.window, settle.accruals := s.settle.accruals }) frame1

/-! ### One lane request -/

/-- Handing a lane its answer answers the head that was taken. -/
theorem laneAnswered_handOver {s t : State} {l : Nat} {a : LaneAnswer} (lanes : t.lanes = (s.takeLane l).lanes)
    (top : t.ledger.top = (l + 1) % 5) : laneAnswered s (t.handOver l a) l a := by
  have lane : t.lane l = { s.lane l with queue := takeFirst (s.lane l).queue } := by
    rw [State.lane, lanes]
    exact State.setLane_lane_same s l _
  have others : ∀ k, k ≠ l → t.lane k = s.lane k := by
    intro k hk
    rw [State.lane, lanes]
    exact State.setLane_lane_ne s l _ hk
  refine ⟨?_, fun k hk => ?_, by simpa using top⟩
  · by_cases down : (s.lane l).rx = .down <;> simp [State.handOver, lane, down, answeredLane]
  · rw [← others k hk]
    by_cases down : (s.lane l).rx = .down <;> simp [State.handOver, lane, down, State.setLane_lane_ne _ _ _ hk]

/-- A lane request that only answers changes its lane and the rotation. -/
theorem handOver_takeLane_frame (s : State) (l : Nat) (a : LaneAnswer) :
    { (s.takeLane l).handOver l a with lanes := s.lanes, ledger.top := s.ledger.top } = s := by
  rw [State.handOver_frame]
  rfl

/-- What a lane request decides is handed over to its lane. -/
theorem laneStep_eq {s : State} {kind l : Nat} {e : LaneEntry} {decision : LaneReq → State → State × Reply}
    (work : s.laneWork kind = some (l, e)) :
    laneStep kind decision s =
      (decision (requestOf l e) (s.takeLane l)).1.handOver l (laneAnswerOf e (decision (requestOf l e) (s.takeLane l)).2) := by
  simp only [laneStep, work]
  rfl

/-- A decision that commits one card, with its totals, window, holds and accruals, makes its request a commit. -/
theorem laneCommit_of {i : Instr} {kind l serial : Nat} {decision : LaneReq → State → State × Reply} {s s1 mid : State}
    {e : LaneEntry} {c : CardRecord} {totals : Totals} {window : List CaptureRecord} {holds : State → State → Prop}
    {effect : Option Effect} {body : EntryBody} {r : Reply} {a : LaneAnswer} (run : exec i s = .next (laneStep kind decision s))
    (work : s.laneWork kind = some (l, e)) (reserved : (s.takeLane l).reserve .general 1 = some s1)
    (decided : decision (requestOf l e) (s.takeLane l) = (mid.post body effect, r)) (edited : cardsEdited s1 mid)
    (card : mid.store.cards = Table.write CardRecord.blank s.store.cards serial c) (totalsAre : mid.store.totals = totals)
    (windowIs : mid.store.window = window)
    (holdsAre : ∀ t : State, t.holds = mid.holds → t.expiryQ = mid.expiryQ → t.waiting = mid.waiting → holds s t)
    (answer : laneAnswerOf e r = a) :
    laneCommit i s l serial c totals window holds
      (effect.map fun e => Accrual.money e s.ledger.period s.store.nextToWrite).toList body a := by
  subst answer
  have committed := committed_post reserved edited body effect
  rw [laneStep_eq work, decided] at run
  generalize mid.post body effect = u at committed run
  have answered : laneAnswered s (u.handOver l (laneAnswerOf e r)) l (laneAnswerOf e r) :=
    laneAnswered_handOver committed.lanes (congrArg Ledger.top committed.ledger)
  have frame : { u.handOver l (laneAnswerOf e r) with lanes := u.lanes } = u := by
    rw [State.handOver_frame]
  generalize u.handOver l (laneAnswerOf e r) = t at answered frame run
  have store : t.store = u.store := (congrArg State.store frame :)
  have cards : t.store.cards = Table.write CardRecord.blank s.store.cards serial c := by
    rw [store, committed.cards, card]
  refine ⟨t, run, ⟨?_, fun k hk => ?_⟩, ?_, ?_, holdsAre t ?_ ?_ ?_, ?_, ?_, answered, ?_, ?_⟩
  · rw [State.card, cards, Table.read_write_same]
  · rw [State.card, cards, Table.read_write_ne _ _ _ hk, State.card]
  · rw [store, committed.totals, totalsAre]
  · rw [store, committed.window, windowIs]
  · exact (congrArg State.holds frame :).trans committed.holds
  · exact (congrArg State.expiryQ frame :).trans committed.expiryQ
  · exact (congrArg State.waiting frame :).trans committed.waiting
  · exact (congrArg (fun x => x.settle.accruals) frame :).trans committed.accruals
  · have entry := committed.entry
    rw [← frame] at entry
    exact entry
  · have raises := committed.raises
    rw [← frame] at raises
    exact raises
  · have rest := committed.frame
    rw [← frame] at rest
    exact congrArg (fun x : State => { x with lanes := s.lanes, ledger.top := s.ledger.top }) rest

/-! ### The requests -/

/-- Admission does not look at the lanes or the rotation. -/
theorem admitCard_takeLane {s : State} {rule : CardRule} {req : LaneReq} {l shop prog : Nat} {card : CardRecord}
    (admitted : s.admitCard rule req = .pass shop prog card) : (s.takeLane l).admitCard rule req = .pass shop prog card :=
  (State.admitCard_eq_pass_iff _ _ _ _ _ _).mpr ((State.admitCard_eq_pass_iff s _ _ _ _ _).mp admitted)

/-- A reservation is granted to a request that has been taken as it would have been before. -/
theorem reserve_takeLane {s : State} (l : Nat) (room : s.canReserve .general 1 = true) :
    ∃ s1, (s.takeLane l).reserve .general 1 = some s1 ∧ s1.store = s.store ∧
      ∀ t : State, t.holds = s1.holds → t.expiryQ = s1.expiryQ → t.waiting = s1.waiting → holdsKept s t := by
  obtain ⟨no, -⟩ | ⟨-, s1, granted, eq, -⟩ := (s.takeLane l).reserve_spec .general 1
  · exact absurd (no.symm.trans room) (by decide)
  · exact ⟨s1, granted, (congrArg State.store eq :), fun t h1 h2 h3 => ⟨h1.trans (congrArg State.holds eq :),
      h2.trans (congrArg State.expiryQ eq :), h3.trans (congrArg State.waiting eq :)⟩⟩

section
variable {s s1 : State} {req : LaneReq} {shop prog : Nat} {card : CardRecord}

theorem decideActivate_of (admitted : s.admitCard activateRule req = .pass shop prog card)
    (low : (s.program prog).activationMin ≤ fieldAt req.body 8 4) (high : fieldAt req.body 8 4 ≤ (s.program prog).loadLimit)
    (granted : s.reserve .general 1 = some s1) :
    decideActivate req s =
      (((s1.writeCard (fieldAt req.body 3 3) (activatedCard card shop (fieldAt req.body 8 4) s.ledger.period)).setTotals
          (s.store.totals.load (fieldAt req.body 8 4))).post
        (.activate (fieldAt req.body 3 3) (nextCardSeq card.seq) req.lane (fieldAt req.body 0 1) shop (fieldAt req.body 8 4)
          (fieldAt req.body 8 4))
        (some (.sold shop (fieldAt req.body 8 4))),
       Reply.approve .approved (fieldAt req.body 8 4) (fieldAt req.body 8 4 - card.held)) := by
  have inLimits : ¬(fieldAt req.body 8 4 < (s.program prog).activationMin ∨ (s.program prog).loadLimit < fieldAt req.body 8 4) := by
    omega
  simp only [decideActivate, admitted, inLimits, if_false, granted]
  rfl

theorem decideLoad_of (admitted : s.admitCard loadRule req = .pass shop prog card)
    (within : card.balance + fieldAt req.body 8 4 ≤ (s.program prog).loadLimit) (granted : s.reserve .general 1 = some s1) :
    decideLoad req s =
      (((s1.writeCard (fieldAt req.body 3 3) (loadedCard card (fieldAt req.body 8 4) s.ledger.period)).setTotals
          (s.store.totals.load (fieldAt req.body 8 4))).post
        (.load (fieldAt req.body 3 3) (nextCardSeq card.seq) req.lane (fieldAt req.body 0 1) shop (fieldAt req.body 8 4)
          (card.balance + fieldAt req.body 8 4))
        (some (.sold shop (fieldAt req.body 8 4))),
       Reply.approve .approved (fieldAt req.body 8 4) (card.balance + fieldAt req.body 8 4 - card.held)) := by
  simp only [decideLoad, admitted, Nat.not_lt.mpr within, if_false, granted]
  rfl

end

/-- Settles O17: the two decisions evaluated under their conditions, each one commit. -/
theorem salesLoadTheCard : Obligations.SalesLoadTheCard := by
  refine ⟨fun s l e shop prog card work admitted low high room => ?_, fun s l e shop prog card work admitted within room => ?_⟩
  · obtain ⟨s1, granted, store, holds⟩ := reserve_takeLane l room
    exact laneCommit_of rfl work granted (decideActivate_of (admitCard_takeLane admitted) low high granted) (by rfl)
      (by rw [← store]; rfl) rfl (by rw [← store]; rfl) holds rfl
  · obtain ⟨s1, granted, store, holds⟩ := reserve_takeLane l room
    exact laneCommit_of rfl work granted (decideLoad_of (admitCard_takeLane admitted) within granted) (by rfl)
      (by rw [← store]; rfl) rfl (by rw [← store]; rfl) holds rfl

/-- A lane request decided without a commit and without a fault changes its lane and the rotation alone. -/
theorem laneStep_answers {i : Instr} {kind l : Nat} {decision : LaneReq → State → State × Reply} {s : State} {e : LaneEntry}
    {r : Reply} {a : LaneAnswer} (run : exec i s = .next (laneStep kind decision s)) (work : s.laneWork kind = some (l, e))
    (decided : decision (requestOf l e) (s.takeLane l) = (s.takeLane l, r)) (answer : laneAnswerOf e r = a) :
    ∃ t, exec i s = .next t ∧ laneAnswered s t l a ∧ { t with lanes := s.lanes, ledger.top := s.ledger.top } = s := by
  subst answer
  rw [laneStep_eq work, decided] at run
  exact ⟨_, run, laneAnswered_handOver rfl rfl, handOver_takeLane_frame s l _⟩

/-- Settles O18: the decision writes nothing. -/
theorem balanceAnswersTheAvailableBalance : Obligations.BalanceAnswersTheAvailableBalance := by
  intro s l e shop prog card work admitted
  refine laneStep_answers (r := ⟨.approved, none, some card.available, none, none⟩) rfl work ?_ rfl
  simp only [decideBalance, admitCard_takeLane admitted]

/-! ### REDEEM and CASHOUT -/

/-- An amount that is covered is approved; else with the partial flag what is available, when there is any. -/
theorem approvedAmount_eq_some {amount available a : Nat} {allowPart : Bool} {r : LaneResult}
    (h : (amount ≤ available ∧ a = amount ∧ r = .approved) ∨
      (available < amount ∧ allowPart = true ∧ 0 < available ∧ a = available ∧ r = .part)) :
    approvedAmount amount available allowPart = some (a, r) := by
  obtain ⟨covered, rfl, rfl⟩ | ⟨short, allowed, some_, rfl, rfl⟩ := h
  · simp [approvedAmount, covered]
  · simp [approvedAmount, Nat.not_le.mpr short, allowed, some_]

theorem approvedAmount_eq_none {amount available : Nat} {allowPart : Bool} (short : available < amount)
    (refused : allowPart = false ∨ available = 0) : approvedAmount amount available allowPart = none := by
  obtain rfl | rfl := refused <;> simp [approvedAmount, Nat.not_le.mpr short]

/-- A capture record joins the window, in the place of the oldest of a full one. -/
theorem addCapture_eq (w : List CaptureRecord) (r : CaptureRecord) :
    addCapture w r = if w.length < 16384 then w ++ [r] else w.tail ++ [r] := by
  unfold addCapture
  split_ifs with full room room
  · exact absurd full (Nat.not_le.mpr room)
  · rfl
  · rfl
  · exact absurd (Nat.not_lt.mp room) full

section
variable {s s1 : State} {req : LaneReq} {shop prog amount : Nat} {card : CardRecord} {result : LaneResult}

theorem decideRedeem_of (admitted : s.admitCard redeemRule req = .pass shop prog card)
    (approved : approvedAmount (fieldAt req.body 8 4) card.available (fieldAt req.body 12 1 == 1) = some (amount, result))
    (granted : s.reserve .general 1 = some s1) :
    decideRedeem req s =
      ((((s1.writeCard (fieldAt req.body 3 3) (redeemedCard card amount s.ledger.period)).setTotals
          (s.store.totals.capture amount)).addWindow
          { ref := s.store.nextToWrite, card := fieldAt req.body 3 3, shop := shop, program := prog,
            rate := (s.program prog).rate, captured := amount, refunded := 0, period := s.ledger.period }).post
        (.redeem (fieldAt req.body 3 3) (nextCardSeq card.seq) shop req.lane (fieldAt req.body 0 1) prog (s.program prog).rate
          amount)
        (some (.redeemed shop amount (s.program prog).rate)),
       { Reply.approve result amount (card.balance - amount - card.held) with captureRef := some s.store.nextToWrite }) := by
  simp only [decideRedeem, admitted, approved, granted]
  rfl

theorem decideCashout_of (admitted : s.admitCard cashoutRule req = .pass shop prog card) (unheld : card.holdCount = 0)
    (some_ : 0 < card.balance) (within : card.balance ≤ (s.program prog).ceiling) (granted : s.reserve .general 1 = some s1) :
    decideCashout req s =
      (((s1.writeCard (fieldAt req.body 3 3) (cashedCard card s.ledger.period)).setTotals
          (s.store.totals.cash card.balance)).post
        (.cashout (fieldAt req.body 3 3) (nextCardSeq card.seq) shop req.lane (fieldAt req.body 0 1) card.balance)
        (some (.cashed shop card.balance)),
       Reply.approve .approved card.balance 0) := by
  have inRange : ¬(card.balance = 0 ∨ (s.program prog).ceiling < card.balance) := by omega
  simp only [decideCashout, admitted, unheld, lt_irrefl, inRange, if_false, granted]
  rfl

end

/-- Settles O19: the approved amount by cases, one commit; else the decline of R58. -/
theorem redeemDebitsAndMakesACaptureRecord : Obligations.RedeemDebitsAndMakesACaptureRecord := by
  intro s l e shop prog card work admitted
  refine ⟨fun amount result approved room => ?_, fun short refused => ?_⟩
  · obtain ⟨s1, granted, store, holds⟩ := reserve_takeLane l room
    have amountIs := approvedAmount_eq_some (amount := fieldAt e.body 8 4) (available := card.balance - card.held)
      (allowPart := fieldAt e.body 12 1 == 1) (by simpa only [beq_iff_eq] using approved)
    exact laneCommit_of rfl work granted (decideRedeem_of (admitCard_takeLane admitted) amountIs granted) (by rfl)
      (by rw [← store]; rfl) rfl ((congrArg (addCapture · _) (congrArg Store.window store)).trans (addCapture_eq _ _)) holds rfl
  · refine laneStep_answers (r := Reply.declineWith .insufficient card.available) rfl work ?_ rfl
    have none_ := approvedAmount_eq_none (allowPart := fieldAt e.body 12 1 == 1) short (by simpa using refused)
    simp only [decideRedeem, admitCard_takeLane admitted]
    exact (by rw [show approvedAmount (laneAmount (requestOf l e).body) card.available
      (lanePartial (requestOf l e).body == 1) = none from none_])

/-- Settles O20: the decision evaluated under its conditions is one commit. -/
theorem cashoutClosesTheCard : Obligations.CashoutClosesTheCard := by
  intro s l e shop prog card work admitted unheld some_ within room
  obtain ⟨s1, granted, store, holds⟩ := reserve_takeLane l room
  exact laneCommit_of rfl work granted (decideCashout_of (admitCard_takeLane admitted) unheld some_ within granted) (by rfl)
    (by rw [← store]; rfl) rfl (by rw [← store]; rfl) holds rfl

/-! ### Holds -/

/-- A hold joins the queue behind every hold whose deadline is not later. -/
theorem insertExpiry_split (it : ExpiryItem) (q : List ExpiryItem) :
    ∃ front back, q = front ++ back ∧ insertExpiry it q = front ++ it :: back ∧
      (∀ x ∈ front, earlier it.deadline x.deadline = false) ∧
      ∀ x, back.head? = some x → earlier it.deadline x.deadline = true := by
  induction q with
  | nil => exact ⟨[], [], rfl, rfl, by simp, by simp⟩
  | cons y ys ih =>
    cases sooner : earlier it.deadline y.deadline with
    | true => exact ⟨[], y :: ys, rfl, by simp [insertExpiry, sooner], by simp, by simp [sooner]⟩
    | false =>
      obtain ⟨front, back, rfl, inserted, notSooner, next⟩ := ih
      exact ⟨y :: front, back, rfl, by simp [insertExpiry, sooner, inserted], by simpa [sooner] using notSooner, next⟩

section
variable {s s1 : State} {req : LaneReq} {shop prog slot gen amount : Nat} {card : CardRecord} {hold : Hold}
  {result : LaneResult}

theorem decideAuthorize_of (admitted : s.admitCard redeemRule req = .pass shop prog card)
    (below : card.holdCount < (s.program prog).maxHolds) (free : s.freeHoldSlot = some slot)
    (approved : approvedAmount (fieldAt req.body 8 4) card.available (fieldAt req.body 12 1 == 1) = some (amount, result))
    (granted : s.reserve .general 1 = some s1) :
    decideAuthorize req s =
      (((s1.openHold slot
          { card := fieldAt req.body 3 3, shop := shop, lane := req.lane, terminal := fieldAt req.body 0 1, amount := amount,
            rate := (s.program prog).rate, deadline := s.time + milliseconds (s.program prog).lifetime }).writeCard
          (fieldAt req.body 3 3) (authorizedCard card amount s.ledger.period)).post
        (.authorize (fieldAt req.body 3 3) (nextCardSeq card.seq) (slot * 32 + (s.holdSlot slot).gen) shop req.lane
          (fieldAt req.body 0 1) amount (s.program prog).rate (s.time + milliseconds (s.program prog).lifetime)) none,
       { Reply.approve result amount (card.balance - (card.held + amount)) with
         holdRef := some (slot * 32 + (s.holdSlot slot).gen) }) := by
  simp only [decideAuthorize, admitted, Nat.not_le.mpr below, if_false, free, approved, granted]
  rfl

/-- The read of a sound record. -/
theorem State.readRecord_of {serial : Nat} {expected : Option Nat} (unlisted : serial ∉ s.ledger.faults)
    (sound : faulty (s.card serial) expected = false) : s.readRecord serial expected = (s, some (s.card serial)) := by
  simp [State.readRecord, unlisted, sound]

theorem decideCapture_of (admitted : s.admitShop .spend req = .ok hold.shop)
    (resolved : s.resolveHold (fieldAt req.body 3 2) = .active slot gen hold) (unlisted : hold.card ∉ s.ledger.faults)
    (sound : faulty (s.card hold.card) (s.rangeProgram hold.card) = false) (program : (s.card hold.card).program = some prog)
    (some_ : 0 < fieldAt req.body 5 4) (inRange : fieldAt req.body 5 4 ≤ 10000000)
    (covered : fieldAt req.body 5 4 ≤ hold.amount) (granted : s.reserve .general 1 = some s1) :
    decideCapture req s =
      (((((s1.endHold slot gen .captured).writeCard hold.card
            (capturedCard (s.card hold.card) hold.amount (fieldAt req.body 5 4) s.ledger.period)).setTotals
          (s.store.totals.capture (fieldAt req.body 5 4))).addWindow
          { ref := s.store.nextToWrite, card := hold.card, shop := hold.shop, program := prog,
            rate := (s.program prog).rate, captured := fieldAt req.body 5 4, refunded := 0, period := s.ledger.period }).post
        (.capture hold.card (nextCardSeq (s.card hold.card).seq) (fieldAt req.body 3 2) hold.shop prog hold.amount
          (fieldAt req.body 5 4) (s.program prog).rate)
        (some (.redeemed hold.shop (fieldAt req.body 5 4) (s.program prog).rate)),
       { Reply.approve .approved (fieldAt req.body 5 4)
          ((s.card hold.card).balance - fieldAt req.body 5 4 - ((s.card hold.card).held - hold.amount)) with
         holdRef := some (fieldAt req.body 3 2), captureRef := some s.store.nextToWrite }) := by
  have amountOk : (decide (fieldAt req.body 5 4 = 0) || decide (10000000 < fieldAt req.body 5 4)) = false := by
    simp only [Bool.or_eq_false_iff, decide_eq_false_iff_not]
    omega
  simp only [decideCapture, admitted, resolved, State.readRecord_of unlisted sound, amountOk, Bool.false_eq_true, if_false,
    ne_eq, not_true_eq_false, Nat.not_lt.mpr covered, granted, program, Option.getD_some]
  rfl

theorem decideVoid_of (admitted : s.admitShop .giveBack req = .ok hold.shop)
    (resolved : s.resolveHold (fieldAt req.body 3 2) = .active slot gen hold) (unlisted : hold.card ∉ s.ledger.faults)
    (sound : faulty (s.card hold.card) (s.rangeProgram hold.card) = false) (granted : s.reserve .general 1 = some s1) :
    decideVoid req s =
      (((s1.endHold slot gen .voided).writeCard hold.card
          (voidedCard (s.card hold.card) hold.amount s.ledger.period)).post
        (.void hold.card (nextCardSeq (s.card hold.card).seq) (fieldAt req.body 3 2) hold.shop hold.amount) none,
       { Reply.approve .approved hold.amount ((s.card hold.card).balance - ((s.card hold.card).held - hold.amount)) with
         holdRef := some (fieldAt req.body 3 2) }) := by
  simp only [decideVoid, admitted, resolved, State.readRecord_of unlisted sound, ne_eq, not_true_eq_false, if_false, granted]
  rfl

end

/-- The hold of a slot written to an ended one has ended. -/
theorem holdEnded_of {s t m : State} {slot gen : Nat} {cause : EndCause} (kept : holdsKept s m)
    (holds : t.holds = (m.endHold slot gen cause).holds) (expiryQ : t.expiryQ = (m.endHold slot gen cause).expiryQ)
    (waiting : t.waiting = (m.endHold slot gen cause).waiting) : holdEnded slot gen cause s t := by
  obtain ⟨keptHolds, keptQ, keptWaiting⟩ := kept
  refine ⟨⟨?_, fun j hj => ?_⟩, ?_, ?_⟩
  · rw [State.holdSlot, holds]
    exact State.setHoldSlot_holdSlot_same m slot _
  · rw [State.holdSlot, holds, State.holdSlot, ← keptHolds]
    exact State.setHoldSlot_holdSlot_ne m slot _ hj
  · rw [expiryQ, ← keptQ]; rfl
  · rw [waiting, ← keptWaiting]; rfl

/-- Settles O21: the lowest free slot by the search, the commit by the decision under its conditions. -/
theorem authorizeOpensAHold : Obligations.AuthorizeOpensAHold := by
  intro s l e shop prog slot card amount result work admitted below free approved room
  obtain ⟨-, high, isFree, lowest⟩ := firstFrom_spec _ _ _ _ free
  refine ⟨⟨by simpa using high, by simpa using isFree, fun j hj => ?_⟩, ?_⟩
  · have := lowest j (Nat.zero_le j) hj
    simpa [Option.isNone_eq_false_iff, Option.isSome_iff_ne_none] using this
  · obtain ⟨s1, granted, store, holds⟩ := reserve_takeLane l room
    have amountIs := approvedAmount_eq_some (amount := fieldAt e.body 8 4) (available := card.balance - card.held)
      (allowPart := fieldAt e.body 12 1 == 1) (by simpa only [beq_iff_eq] using approved)
    obtain ⟨keptHolds, keptQ, keptWaiting⟩ := holds s1 rfl rfl rfl
    have gen : (s1.holdSlot slot).gen = (s.holdSlot slot).gen := by rw [State.holdSlot, keptHolds, State.holdSlot]
    refine laneCommit_of rfl work granted (decideAuthorize_of (admitCard_takeLane admitted) below free amountIs granted) (by rfl)
      (by rw [← store]; rfl) (by rw [← store]; rfl) (by rw [← store]; rfl) (fun t h1 h2 h3 => ⟨⟨?_, fun j hj => ?_⟩, ?_, ?_⟩) rfl
    · rw [State.holdSlot, h1, ← gen]
      exact State.setHoldSlot_holdSlot_same s1 slot _
    · rw [State.holdSlot, h1, State.holdSlot, ← keptHolds]
      exact State.setHoldSlot_holdSlot_ne s1 slot _ hj
    · obtain ⟨front, back, split, inserted, rest⟩ := insertExpiry_split
        { slot := slot, gen := (s.holdSlot slot).gen,
          deadline := s.time + BitVec.ofNat 32 ((s.program prog).lifetime * 1000) } s.expiryQ
      refine ⟨front, back, split, ?_, rest⟩
      rw [h2, ← inserted, ← keptQ, ← gen]
      rfl
    · rw [h3, ← keptWaiting]
      rfl

/-- Settles O22: the decision evaluated under its conditions is one commit. -/
theorem captureEndsTheHoldAndDebits : Obligations.CaptureEndsTheHoldAndDebits := by
  rintro s l e shop slot gen prog hold card work admitted resolved rfl unlisted sound program rfl some_ inRange covered room
  obtain ⟨s1, granted, store, holds⟩ := reserve_takeLane l room
  exact laneCommit_of rfl work granted
    (decideCapture_of (s := s.takeLane l) (req := requestOf l e) ((State.admitShop_eq_ok_iff _ _ _ _).mpr
      ((State.admitShop_eq_ok_iff _ _ _ _).mp admitted)) resolved unlisted sound program some_ inRange covered granted)
    (by rfl) (by rw [← store]; rfl) rfl ((congrArg (addCapture · _) (congrArg Store.window store)).trans (addCapture_eq _ _))
    (fun t h1 h2 h3 => holdEnded_of (holds s1 rfl rfl rfl) h1 h2 h3) rfl

/-- Settles O23: the decision evaluated under its conditions is one commit. -/
theorem voidReleasesTheHold : Obligations.VoidReleasesTheHold := by
  rintro s l e shop slot gen hold card work admitted resolved rfl unlisted sound rfl room
  obtain ⟨s1, granted, store, holds⟩ := reserve_takeLane l room
  exact laneCommit_of rfl work granted
    (decideVoid_of (s := s.takeLane l) (req := requestOf l e) ((State.admitShop_eq_ok_iff _ _ _ _).mpr
      ((State.admitShop_eq_ok_iff _ _ _ _).mp admitted)) resolved unlisted sound granted)
    (by rfl) (by rw [← store]; rfl) (by rw [← store]; rfl) (by rw [← store]; rfl)
    (fun t h1 h2 h3 => holdEnded_of (holds s1 rfl rfl rfl) h1 h2 h3) rfl

/-! ### REFUND -/

/-- The record a reference finds is the first of the window with it, and a refund raises that one. -/
theorem find_refund {w before after : List CaptureRecord} {rec : CaptureRecord} {ref : Nat} (split : w = before ++ rec :: after)
    (named : rec.ref = ref) (first : ∀ r ∈ before, r.ref ≠ rec.ref) (amount : Nat) :
    w.find? (fun r => r.ref == ref) = some rec ∧
      refundRecord ref amount w = before ++ { rec with refunded := rec.refunded + amount } :: after := by
  subst split named
  induction before with
  | nil => simp [refundRecord]
  | cons r rs ih =>
    obtain ⟨other, rest⟩ := List.forall_mem_cons.mp first
    obtain ⟨found, raised⟩ := ih rest
    simp [refundRecord, other, found, raised]

/-- The refund's own checks pass. -/
theorem State.refundDecline_eq_none {s : State} {shop amount : Nat} {rec : CaptureRecord} {card : CardRecord}
    (recent : s.ledger.period ≤ rec.period + (s.program rec.program).refundWindow)
    (here : shop = rec.shop ∨ (s.acceptRow (shop / 16)).effectiveXe rec.program = true)
    (running : card.state = .active ∨ card.state = .suspended) (covered : rec.refunded + amount ≤ rec.captured)
    (within : card.balance + amount ≤ 2147483647) : s.refundDecline shop amount rec card = none := by
  have notElsewhere : ¬(shop ≠ rec.shop ∧ (s.acceptRow (segment shop)).effectiveXe rec.program = false) := by
    rintro ⟨elsewhere, refused⟩
    obtain same | granted := here
    · exact elsewhere same
    · simp [segment, granted] at refused
  have notStopped : ¬(card.state ≠ .active ∧ card.state ≠ .suspended) := by
    rintro ⟨notActive, notSuspended⟩
    exact running.elim notActive notSuspended
  simp only [State.refundDecline, Nat.not_lt.mpr recent, notElsewhere, notStopped, Nat.not_lt.mpr covered,
    Nat.not_lt.mpr within, if_false]

theorem decideRefund_of {s s1 : State} {req : LaneReq} {shop : Nat} {rec : CaptureRecord}
    (admitted : s.admitShop .giveBack req = .ok shop) (found : s.findCapture (fieldAt req.body 3 4) = some rec)
    (known : rec.card < s.cap) (unlisted : rec.card ∉ s.ledger.faults)
    (sound : faulty (s.card rec.card) (s.rangeProgram rec.card) = false) (some_ : 0 < fieldAt req.body 7 4)
    (inRange : fieldAt req.body 7 4 ≤ 10000000)
    (passed : s.refundDecline shop (fieldAt req.body 7 4) rec (s.card rec.card) = none)
    (granted : s.reserve .general 1 = some s1) :
    decideRefund req s =
      (State.post
        { (s1.writeCard rec.card (refundedCard (s.card rec.card) (fieldAt req.body 7 4) s.ledger.period)).setTotals
            (s.store.totals.refund (fieldAt req.body 7 4)) with
          store.window := refundRecord (fieldAt req.body 3 4) (fieldAt req.body 7 4) s.store.window }
        (.refund rec.card (nextCardSeq (s.card rec.card).seq) (fieldAt req.body 3 4) shop req.lane (fieldAt req.body 0 1)
          rec.shop (fieldAt req.body 7 4) rec.rate rec.period (rec.refunded + fieldAt req.body 7 4))
        (some (.refunded rec.shop (fieldAt req.body 7 4) rec.rate)),
       { Reply.approve .approved (fieldAt req.body 7 4)
          ((s.card rec.card).balance + fieldAt req.body 7 4 - (s.card rec.card).held) with
         captureRef := some (fieldAt req.body 3 4) }) := by
  have amountOk : (decide (fieldAt req.body 7 4 = 0) || decide (10000000 < fieldAt req.body 7 4)) = false := by
    simp only [Bool.or_eq_false_iff, decide_eq_false_iff_not]
    omega
  simp only [decideRefund, admitted, found, Nat.not_le.mpr known, if_false, State.readRecord_of unlisted sound, amountOk,
    Bool.false_eq_true, passed, granted]
  rfl

/-- Settles O24: the record by `find_refund`, the checks by `State.refundDecline_eq_none`, then one commit. -/
theorem refundCreditsAndChargesTheOriginalShop : Obligations.RefundCreditsAndChargesTheOriginalShop := by
  rintro s l e shop rec card before after work admitted split named first known rfl unlisted sound some_ inRange recent here
    running covered within room
  obtain ⟨s1, granted, store, holds⟩ := reserve_takeLane l room
  obtain ⟨found, raised⟩ := find_refund split named first (fieldAt e.body 7 4)
  exact laneCommit_of rfl work granted
    (decideRefund_of (s := s.takeLane l) (req := requestOf l e) ((State.admitShop_eq_ok_iff _ _ _ _).mpr
      ((State.admitShop_eq_ok_iff _ _ _ _).mp admitted)) found known unlisted sound some_ inRange
      (State.refundDecline_eq_none recent here running covered within) granted)
    (by rfl) (by rw [← store]; rfl) rfl raised holds rfl

end Sys2Proof.Machine
end

section
/-! PROOFS. Record faults and expiries (3.5, 4.1, 4.3). -/

namespace Sys2Proof.Machine

/-! ### A record fault noted -/

/-- A noted fault is in the fault list, or the list overflows, and RECORD_FAULT is pending. -/
theorem faultNoted_noteFault (s : State) (serial : Nat) : faultNoted s (s.noteFault serial) serial := by
  unfold faultNoted State.noteFault
  by_cases listed : serial ∈ s.ledger.faults
  · simp [listed]
  · by_cases room : s.ledger.faults.length < 16
    · simp [listed, room, State.raise_flag, Source.number, -State.raise_attn_pending]
    · simp [listed, room, State.raise_flag, Source.number, -State.raise_attn_pending, Nat.not_lt.mp room]

theorem noteFault_of_listed {s : State} {serial : Nat} (listed : serial ∈ s.ledger.faults) : s.noteFault serial = s :=
  if_pos listed

theorem onlyRaises_noteFault (s : State) (serial : Nat) :
    onlyRaises s (s.noteFault serial) (if serial ∈ s.ledger.faults then [] else [0]) := by
  by_cases listed : serial ∈ s.ledger.faults
  · rw [noteFault_of_listed listed]
    exact onlyRaises_of_eq _ rfl
  · rw [if_neg listed]
    unfold State.noteFault
    rw [if_neg listed]
    split
    · exact onlyRaises_raiseIf { s with ledger.faults := s.ledger.faults ++ [serial] } true .recordFault [0] (by decide)
    · exact onlyRaises_raiseIf { s with ledger.faultOverflow := true } true .recordFault [0] (by decide)

/-- Noting a fault writes the fault list, its overflow flag and RECORD_FAULT. -/
theorem noteFault_rest (s : State) (serial : Nat) :
    { s.noteFault serial with ledger.faults := s.ledger.faults, ledger.faultOverflow := s.ledger.faultOverflow,
                              attn.pending := s.attn.pending } = s := by
  unfold State.noteFault
  split
  · rfl
  · split <;> rfl

theorem noteFault_top (s : State) (serial : Nat) : (s.noteFault serial).ledger.top = s.ledger.top :=
  (congrArg (fun x => x.ledger.top) (noteFault_rest s serial) :)

theorem noteFault_period (s : State) (serial : Nat) : (s.noteFault serial).ledger.period = s.ledger.period :=
  (congrArg (fun x => x.ledger.period) (noteFault_rest s serial) :)

/-- The journal's part of a commit does not see a fault noted before it. -/
theorem oneEntry_noteFault {s t : State} {serial period : Nat} {body : EntryBody}
    (entry : oneEntry (s.noteFault serial) t period body) : oneEntry s t period body := by
  have other : ∀ n, n ≠ 0 → (s.noteFault serial).attn.pending.getLsbD n = s.attn.pending.getLsbD n := fun n hn =>
    (onlyRaises_noteFault s serial n).2 (by split <;> simp [hn])
  simpa only [oneEntry, entryJoins, pointersPass, marksFollow, fullRaised, highRaised, State.noteFault_store,
    State.noteFault_journal, State.noteFault_time, State.noteFault_unack, other 4 (by decide), other 5 (by decide)] using entry

/-- A reservation and a noted fault do not see each other. -/
theorem reserve_noteFault {s s1 : State} {cls : ResClass} {n : Nat} (granted : s.reserve cls n = some s1) (serial : Nat) :
    (s.noteFault serial).reserve cls n = some (s1.noteFault serial) := by
  obtain ⟨grantable, rfl⟩ := State.reserve_eq granted
  have still : (s.noteFault serial).canReserve cls n = true := by
    have same : (s.noteFault serial).canReserve cls n = s.canReserve cls n := by
      simp [State.canReserve, State.numberingSpent]
    rw [same, grantable]
  have crosses : (s.noteFault serial).crossesFull n = fullRaised s n := by
    simp [State.crossesFull, fullRaised]
  unfold State.reserve
  rw [if_pos still, crosses]
  generalize fullRaised s n = full
  have swap : s.attn.pending ||| sourceBit Source.recordFault.number ||| sourceBit Source.journalFull.number =
      s.attn.pending ||| sourceBit Source.journalFull.number ||| sourceBit Source.recordFault.number := by
    rw [BitVec.or_assoc, BitVec.or_assoc, BitVec.or_comm (sourceBit _)]
  cases full <;> by_cases listed : serial ∈ s.ledger.faults <;> by_cases room : s.ledger.faults.length < 16 <;>
    simp [State.noteFault, listed, room, State.raiseIf, State.raise, swap]

/-! ### Expiry -/

/-- A stated reservation is a state. -/
theorem State.reserve_of_canReserve {s : State} {cls : ResClass} {n : Nat} (room : s.canReserve cls n = true) :
    ∃ s1, s.reserve cls n = some s1 := by
  unfold State.reserve
  rw [if_pos room]
  exact ⟨_, rfl⟩

/-- An expiry that only ends its hold and is entered is one commit that leaves the cards as they were. -/
theorem holdEnded_post {s s1 : State} {slot gen : Nat} {body : EntryBody} (granted : s.reserve .general 1 = some s1) :
    let t := (s1.endHold slot gen .expired).post body none
    Committed s (s1.endHold slot gen .expired) t body none ∧ holdEnded slot gen .expired s t ∧
      t.store.cards = s.store.cards ∧ t.store.totals = s.store.totals ∧ t.store.window = s.store.window := by
  have committed := committed_post granted (mid := s1.endHold slot gen .expired) (by rfl) body none
  obtain ⟨-, s1Eq⟩ := State.reserve_eq granted
  have store : s1.store = s.store := by rw [s1Eq]; cases fullRaised s 1 <;> rfl
  have kept : holdsKept s s1 := by rw [s1Eq]; cases fullRaised s 1 <;> exact ⟨rfl, rfl, rfl⟩
  refine ⟨committed, holdEnded_of kept committed.holds committed.expiryQ committed.waiting, ?_, ?_, ?_⟩
  · rw [committed.cards, ← store]; rfl
  · rw [committed.totals, ← store]; rfl
  · rw [committed.window, ← store]; rfl

/-- A commit keeps its frame. -/
theorem Committed.cardCommitFrame {s mid t : State} {body : EntryBody} {effect : Option Effect}
    (committed : Committed s mid t body effect) : cardCommitFrame s t :=
  (congrArg (fun x : State => { x with lanes := s.lanes, ledger.top := s.ledger.top }) committed.frame :)

/-- An expiry the arbiter takes has its reservation. -/
theorem State.expire_active {s : State} {it : ExpiryItem} {slot gen : Nat} {hold : Hold} (picked : s.pick = some .expiry)
    (resolved : s.resolveHold (holdRefOf it.slot it.gen) = .active slot gen hold) :
    ∃ s1, s.reserve .general 1 = some s1 ∧
      ((hold.card ∈ s.ledger.faults ∧ s.expire it = (s1.endHold slot gen .expired).post
          (.expire hold.card (holdRefOf slot gen) hold.shop hold.lane hold.terminal hold.rate hold.amount none) none) ∨
        (hold.card ∉ s.ledger.faults ∧ faulty (s.card hold.card) (s.rangeProgram hold.card) = true ∧
          s.expire it = ((s1.noteFault hold.card).endHold slot gen .expired).post
            (.expire hold.card (holdRefOf slot gen) hold.shop hold.lane hold.terminal hold.rate hold.amount none) none) ∨
        (hold.card ∉ s.ledger.faults ∧ faulty (s.card hold.card) (s.rangeProgram hold.card) = false ∧
          s.expire it =
            ((s1.endHold slot gen .expired).writeCard hold.card (releasedCard (s.card hold.card) hold.amount)).post
              (.expire hold.card (holdRefOf slot gen) hold.shop hold.lane hold.terminal hold.rate hold.amount
                (some (releasedCard (s.card hold.card) hold.amount).seq)) none)) := by
  obtain ⟨-, -, room⟩ | ⟨no, -⟩ | ⟨_, -, no, -⟩ := State.pick_spec picked
  · obtain ⟨s1, granted⟩ := State.reserve_of_canReserve room
    obtain ⟨ended, -⟩ | ⟨slot', gen', hold', resolved', outcome⟩ := s.expire_cases it
    · exact absurd resolved (ended slot gen hold)
    · cases resolved.symm.trans resolved'
      obtain ⟨none_, -⟩ | found := outcome
      · simp [granted] at none_
      · exact found
  · cases no
  · cases no

/-- Settles O25: the compare by its deadline, the expiry by `State.expire_cases`. -/
theorem deadlinesExpireHolds : Obligations.DeadlinesExpireHolds := by
  refine ⟨fun s it rest queue due => ?_, fun s early => ?_, fun s it rest slot gen hold picked waiting resolved unlisted => ?_,
    fun s it rest slot gen hold picked waiting resolved listed => ?_, fun s it rest picked waiting ended => ?_⟩
  · have reachedIt : reached s.time it.deadline = true := decide_eq_true due
    simp [exec, execHoldDeadlineReached, queue, reachedIt]
  · cases queue : s.expiryQ with
    | nil => simp [exec, execHoldDeadlineReached, queue]
    | cons it rest =>
      have notReached : reached s.time it.deadline = false := decide_eq_false (Nat.not_lt.mpr (early it rest queue))
      simp [exec, execHoldDeadlineReached, queue, notReached]
  · have run : exec .expiry s = .next (s.expire it) := by simp [exec, execExpiry, picked, waiting]
    obtain ⟨s1, granted, outcome⟩ := State.expire_active picked resolved
    obtain ⟨listed, -⟩ | ⟨-, faults, result⟩ | ⟨-, sound, result⟩ := outcome
    · exact absurd listed unlisted
    · rw [result] at run
      obtain ⟨committed, ended, cards, totals, window⟩ := holdEnded_post
        (s := s.noteFault hold.card) (slot := slot) (gen := gen) (reserve_noteFault granted hold.card)
        (body := .expire hold.card (holdRefOf slot gen) hold.shop hold.lane hold.terminal hold.rate hold.amount none)
      have raises := onlyRaises_trans
        (onlyRaises_mono (onlyRaises_noteFault s hold.card) (m := [0, 4, 5]) (by simp [unlisted]))
        (onlyRaises_mono committed.raises (m := [0, 4, 5]) (by simp))
      obtain ⟨list, flag, raised⟩ := faultNoted_noteFault s hold.card
      have ledger := committed.ledger
      refine ⟨_, run, by simpa [holdEnded, holdSlotWritten] using ended, by simpa using committed.lanes,
        (congrArg Ledger.top ledger).trans (noteFault_top s hold.card), by simpa using totals, by simpa using window,
        by simpa using committed.accruals, ?_⟩
      rw [if_neg (by simp [faults])]
      refine ⟨fun k => ?_, ?_, (committed.raises 0).1 (raised unlisted), raises, ?_, fun room => ?_, fun full => ?_⟩
      · rw [State.card, cards]
        simp [State.card]
      · have entry := committed.entry
        rw [noteFault_period] at entry
        exact oneEntry_noteFault entry
      · have frame := committed.cardCommitFrame
        simp only [Machine.cardCommitFrame, State.noteFault_lanes, State.noteFault_holds, State.noteFault_expiryQ,
          State.noteFault_waiting, State.noteFault_store, State.noteFault_settle, State.noteFault_journal, noteFault_top] at frame
        exact (congrArg (fun x : State => { x with
          ledger.faults := s.ledger.faults, ledger.faultOverflow := s.ledger.faultOverflow, attn.pending := s.attn.pending })
          frame).trans (noteFault_rest s hold.card)
      · rw [congrArg Ledger.faults ledger, congrArg Ledger.faultOverflow ledger, list, flag]
        simp [unlisted, room, Nat.not_le.mpr room]
      · rw [congrArg Ledger.faults ledger, congrArg Ledger.faultOverflow ledger, list, flag]
        simp [unlisted, full, Nat.not_lt.mpr full]
    · rw [result] at run
      have committed := committed_post granted (by rfl)
        (mid := (s1.endHold slot gen .expired).writeCard hold.card (releasedCard (s.card hold.card) hold.amount))
        (.expire hold.card (holdRefOf slot gen) hold.shop hold.lane hold.terminal hold.rate hold.amount
          (some (releasedCard (s.card hold.card) hold.amount).seq)) none
      obtain ⟨-, s1Eq⟩ := State.reserve_eq granted
      have store : s1.store = s.store := by rw [s1Eq]; cases fullRaised s 1 <;> rfl
      have kept : holdsKept s s1 := by rw [s1Eq]; cases fullRaised s 1 <;> exact ⟨rfl, rfl, rfl⟩
      refine ⟨_, run, holdEnded_of kept committed.holds committed.expiryQ committed.waiting, committed.lanes,
        congrArg Ledger.top committed.ledger, ?_, ?_, by simpa using committed.accruals, ?_⟩
      · rw [committed.totals, ← store]; rfl
      · rw [committed.window, ← store]; rfl
      · rw [if_pos sound]
        refine ⟨⟨?_, fun k hk => ?_⟩, committed.entry, committed.raises, committed.cardCommitFrame⟩
        · rw [State.card, committed.cards]
          exact State.setCard_card_same _ hold.card _
        · rw [State.card, committed.cards]
          refine (State.setCard_card_ne _ hold.card _ hk).trans ?_
          change Table.read CardRecord.blank s1.store.cards k = Table.read CardRecord.blank s.store.cards k
          rw [store]
  · have run : exec .expiry s = .next (s.expire it) := by simp [exec, execExpiry, picked, waiting]
    obtain ⟨s1, granted, outcome⟩ := State.expire_active picked resolved
    obtain ⟨-, result⟩ | ⟨unlisted, -⟩ | ⟨unlisted, -⟩ := outcome
    · rw [result] at run
      obtain ⟨committed, ended, cards, totals, window⟩ := holdEnded_post (slot := slot) (gen := gen) granted
        (body := .expire hold.card (holdRefOf slot gen) hold.shop hold.lane hold.terminal hold.rate hold.amount none)
      refine ⟨_, run, ended, fun k => ?_, committed.lanes, congrArg Ledger.top committed.ledger, totals, window,
        by simpa using committed.accruals, committed.entry, committed.raises, ?_⟩
      · rw [State.card, cards, State.card]
      · exact committed.cardCommitFrame
    · exact absurd listed unlisted
    · exact absurd listed unlisted
  · have run : exec .expiry s = .next (s.expire it) := by simp [exec, execExpiry, picked, waiting]
    obtain ⟨-, stale⟩ | ⟨slot, gen, hold, resolved, -⟩ := s.expire_cases it
    · rw [run, stale, waiting]
      rfl
    · exact absurd resolved (ended slot gen hold)

end Sys2Proof.Machine
end

section
/-! PROOFS. The declines of the lane requests: the first failing check (R51, R54, R81, R97). -/

namespace Sys2Proof.Machine

/-! ### Lists of checks -/

theorem firstFailing_append {α : Type} (p q : List (Bool × α)) :
    firstFailing (p ++ q) = (firstFailing p).or (firstFailing q) := by
  induction p with
  | nil => rfl
  | cons c cs ih =>
    obtain ⟨passed, d⟩ := c
    cases passed <;> simp [firstFailing, ih]

/-- The decline named is one of the list's. -/
theorem firstFailing_mem {α : Type} {p : List (Bool × α)} {d : α} (h : firstFailing p = some d) : d ∈ p.map Prod.snd := by
  induction p with
  | nil => cases h
  | cons c cs ih =>
    obtain ⟨passed, d'⟩ := c
    cases passed
    · simp [firstFailing] at h
      simp [h]
    · exact List.mem_cons_of_mem _ (ih h)

/-! ### Admission as a list of checks -/

/-- What a failed check of admission leaves, by its decline: a noted fault, a committed code failure, or nothing. -/
def State.stopBy (s : State) (serial : Nat) : LaneResult → Admission
  | .recordFault => .stop (s.noteFault serial) .recordFault
  | .badCode => .stop (s.codeFailure serial (s.card serial)).1 (s.codeFailure serial (s.card serial)).2
  | d => .stop s d

theorem State.admitShop_eq_firstFailing (s : State) (cls : ShopClass) (req : LaneReq) :
    s.admitShop cls req =
      match firstFailing (frontChecks s req.lane req.body (laneFieldsOk req.kind req.body) (decide (cls = .sale))
        (decide (cls = .spend))) with
      | some d => .error d
      | none => .ok ((s.boundShop req.lane (fieldAt req.body 0 1)).getD 0) := by
  unfold State.admitShop frontChecks
  cases laneFieldsOk req.kind req.body with
  | false => rfl
  | true =>
    cases s.boundShop req.lane (fieldAt req.body 0 1) with
    | none => rfl
    | some shop =>
      by_cases opened : s.ledger.mode = .opened
      · cases cls <;> cases office : (s.shop shop).office <;> cases bar : (s.shop shop).debtBar <;>
          simp [firstFailing, opened, shopDecline, office, bar]
      · simp [firstFailing, opened]

/-- The model's test of an amount is the opposite of the check. -/
theorem outOfRange_eq (amount : Nat) :
    (decide (amount = 0) || decide (Config.amountMax < amount)) = !amountInRange amount := by
  rw [Bool.eq_iff_iff]
  simp only [amountInRange, Config.amountMax, Bool.or_eq_true, decide_eq_true_eq, Bool.not_eq_true', decide_eq_false_iff_not]
  omega

theorem State.admitCard_eq_firstFailing (s : State) (rule : CardRule) (req : LaneReq) :
    s.admitCard rule req =
      match firstFailing (serialChecks s req.lane req.body (laneFieldsOk req.kind req.body) (decide (rule.cls = .sale))
          (decide (rule.cls = .spend)) rule.accepts rule.stateOk ++
        if rule.amount then [(amountInRange (fieldAt req.body 8 4), .badAmount)] else []) with
      | some d => s.stopBy (fieldAt req.body 3 3) d
      | none => .pass ((s.boundShop req.lane (fieldAt req.body 0 1)).getD 0) ((s.lookup (fieldAt req.body 3 3)).getD 0)
          (s.card (fieldAt req.body 3 3)) := by
  unfold State.admitCard serialChecks
  rw [State.admitShop_eq_firstFailing, firstFailing_append, firstFailing_append]
  cases front : firstFailing (frontChecks s req.lane req.body (laneFieldsOk req.kind req.body) (decide (rule.cls = .sale))
    (decide (rule.cls = .spend))) with
  | some d =>
    have listed := firstFailing_mem front
    simp only [frontChecks, List.map_cons, List.map_nil, List.mem_cons, List.not_mem_nil, or_false] at listed
    obtain rfl | rfl | rfl | rfl | rfl | rfl := listed <;> rfl
  | none =>
    cases known : s.lookup (fieldAt req.body 3 3) with
    | none => simp [firstFailing, State.stopBy]
    | some prog =>
      obtain ⟨listed, read⟩ | ⟨unlisted, faults, read⟩ | ⟨unlisted, sound, read⟩ :=
        s.readRecord_cases (fieldAt req.body 3 3) (some prog)
      · simp [read, firstFailing, readable, listed, State.stopBy, noteFault_of_listed]
      · simp [read, firstFailing, readable, unlisted, faults, State.stopBy]
      · have whole : readable s (fieldAt req.body 3 3) (some prog) = true := by simp [readable, unlisted, sound]
        cases accepts : rule.accepts (s.acceptRow (segment ((s.boundShop req.lane (fieldAt req.body 0 1)).getD 0))) prog with
        | false => simp_all [firstFailing, segment, State.stopBy]
        | true =>
          cases stateOk : rule.stateOk (s.card (fieldAt req.body 3 3)) with
          | false => simp_all [firstFailing, segment, State.stopBy]
          | true =>
            by_cases code : (s.card (fieldAt req.body 3 3)).code = some (fieldAt req.body 6 2)
            · cases checked : rule.amount with
              | false => simp_all [firstFailing, segment]
              | true =>
                cases inRange : amountInRange (fieldAt req.body 8 4) <;>
                  simp_all [firstFailing, segment, State.stopBy, -Bool.or_eq_true, outOfRange_eq]
            · simp_all [firstFailing, segment, State.stopBy]

/-! ### The declines -/

/-- The declines admission can name (R51, R81, R97). -/
def admissionDeclines : List LaneResult :=
  [.badRequest, .unknownTerminal, .notOpen, .shopClosed, .shopFrozen, .shopBarred, .noCard, .recordFault, .notAccepted, .cardState,
    .badCode, .badAmount]

/-- The reply of a decline: LIMIT and INSUFFICIENT carry the available balance of the card named (R50). -/
def declineReply (s : State) (kind : Nat) (b : List Byte) (d : LaneResult) : Reply :=
  { Reply.decline d with
    available := if d = .limit ∨ d = .insufficient then
      some ((s.card (namedCard s kind b)).balance - (s.card (namedCard s kind b)).held) else none }

/-- What a decline that commits nothing leaves: with RECORD_FAULT the fault noted (R49, R52). -/
def declinedState (s : State) (kind : Nat) (b : List Byte) (d : LaneResult) : State :=
  if d = .recordFault then s.noteFault (namedCard s kind b) else s

/-- The decision that a list's first failing check names. -/
def declined (s : State) (kind : Nat) (b : List Byte) (d : LaneResult) : State × Reply :=
  (declinedState s kind b d, declineReply s kind b d)

/-- A decline that neither notes a fault nor carries a balance. -/
theorem declined_plain {s : State} {kind : Nat} {b : List Byte} {d : LaneResult}
    (plain : d ≠ .recordFault ∧ d ≠ .limit ∧ d ≠ .insufficient) : declined s kind b d = (s, Reply.decline d) := by
  obtain ⟨noFault, notLimit, notShort⟩ := plain
  simp [declined, declinedState, declineReply, noFault, notLimit, notShort, Reply.decline]

theorem declined_recordFault (s : State) (kind : Nat) (b : List Byte) :
    declined s kind b .recordFault = (s.noteFault (namedCard s kind b), Reply.decline .recordFault) := by
  simp [declined, declinedState, declineReply, Reply.decline]

section
variable {s : State} {rule : CardRule} {req : LaneReq} {kind : Nat} {d : LaneResult}

/-- The list of admission, up to the amount. -/
def admissionChecks (s : State) (rule : CardRule) (req : LaneReq) : List (Bool × LaneResult) :=
  serialChecks s req.lane req.body (laneFieldsOk req.kind req.body) (decide (rule.cls = .sale)) (decide (rule.cls = .spend))
      rule.accepts rule.stateOk ++
    if rule.amount then [(amountInRange (fieldAt req.body 8 4), .badAmount)] else []

theorem mem_admissionDeclines (h : firstFailing (admissionChecks s rule req) = some d) : d ∈ admissionDeclines := by
  have listed := firstFailing_mem h
  unfold admissionChecks serialChecks frontChecks at listed
  simp only [List.map_append, List.map_cons, List.map_nil, List.mem_append, List.mem_cons, List.not_mem_nil, or_false] at listed
  unfold admissionDeclines
  cases checked : rule.amount <;> simp [checked] at listed ⊢ <;> tauto

/-- Admission stops at its first failing check, and a decline that commits nothing is what that check names. -/
theorem admitCard_declined (names : namedCard s kind req.body = fieldAt req.body 3 3) (notCode : d ≠ .badCode)
    (h : firstFailing (admissionChecks s rule req) = some d) :
    s.admitCard rule req = .stop (declined s kind req.body d).1 d ∧ (declined s kind req.body d).2 = Reply.decline d := by
  have listed := mem_admissionDeclines h
  rw [State.admitCard_eq_firstFailing, ← admissionChecks, h]
  simp only [admissionDeclines, List.mem_cons, List.not_mem_nil, or_false] at listed
  obtain rfl | rfl | rfl | rfl | rfl | rfl | rfl | rfl | rfl | rfl | rfl | rfl := listed <;>
    simp_all [declined, declinedState, declineReply, State.stopBy, Reply.decline]

theorem admitCard_passed (h : firstFailing (admissionChecks s rule req) = none) :
    s.admitCard rule req = .pass ((s.boundShop req.lane (fieldAt req.body 0 1)).getD 0)
      ((s.lookup (fieldAt req.body 3 3)).getD 0) (s.card (fieldAt req.body 3 3)) := by
  rw [State.admitCard_eq_firstFailing, ← admissionChecks, h]

theorem reserve_none_of {cls : ResClass} {n : Nat} (noRoom : s.canReserve cls n = false) : s.reserve cls n = none := by
  simp [State.reserve, noRoom]

end

theorem declined_limit (s : State) (kind : Nat) (b : List Byte) :
    declined s kind b .limit = (s, Reply.declineWith .limit (s.card (namedCard s kind b)).available) := by
  simp [declined, declinedState, declineReply, Reply.declineWith, CardRecord.available]

theorem declined_insufficient (s : State) (kind : Nat) (b : List Byte) :
    declined s kind b .insufficient = (s, Reply.declineWith .insufficient (s.card (namedCard s kind b)).available) := by
  simp [declined, declinedState, declineReply, Reply.declineWith, CardRecord.available]

theorem declined_journalFull (s : State) (kind : Nat) (b : List Byte) :
    declined s kind b .journalFull = (s, Reply.decline .journalFull) := declined_plain (by decide)

theorem declined_holdsFull (s : State) (kind : Nat) (b : List Byte) :
    declined s kind b .holdsFull = (s, Reply.decline .holdsFull) := declined_plain (by decide)

/-- Something is approved exactly when the funds check passes. -/
theorem approvedAmount_isSome (amount available : Nat) (part : Nat) :
    (approvedAmount amount available (part == 1)).isSome =
      (decide (amount ≤ available) || (decide (part = 1) && decide (0 < available))) := by
  unfold approvedAmount
  by_cases covered : amount ≤ available
  · simp [covered]
  · by_cases allowed : part = 1 <;> by_cases some_ : 0 < available <;> simp [covered, allowed, some_]

/-- A free hold slot is found exactly when there is one. -/
theorem freeHoldSlot_isSome (s : State) :
    s.freeHoldSlot.isSome = (List.range 2048).any (fun k => (s.holdSlot k).hold.isNone) := by
  cases found : s.freeHoldSlot with
  | none =>
    have taken := firstFrom_none _ _ _ found
    symm
    simp only [Option.isSome_none, List.any_eq_false, List.mem_range]
    intro k hk
    simp [taken k (Nat.zero_le k) (by simpa using hk)]
  | some slot =>
    obtain ⟨-, high, free, -⟩ := firstFrom_spec _ _ _ _ found
    symm
    simp only [Option.isSome_some, List.any_eq_true, List.mem_range]
    exact ⟨slot, by simpa using high, free⟩

section
variable {s : State} {req : LaneReq} {d : LaneResult}

theorem laneChecks_activate (kind : req.kind.toNat = 0x10) :
    laneChecks s req.lane 0x10 req.body = admissionChecks s activateRule req ++
      [(decide ((s.program ((s.lookup (fieldAt req.body 3 3)).getD 0)).activationMin ≤ fieldAt req.body 8 4 ∧
          fieldAt req.body 8 4 ≤ (s.program ((s.lookup (fieldAt req.body 3 3)).getD 0)).loadLimit), .limit),
        (s.canReserve .general 1, .journalFull)] := by
  have fields : laneFieldsOk req.kind req.body = decide (fieldAt req.body 6 2 ≤ 9999) := by simp only [laneFieldsOk, kind]
  have stateOk : activateRule.stateOk = fun c => decide (c.state = .stock ∧ c.failures < 3) := by
    funext c
    simp [activateRule]
  rw [admissionChecks, fields, stateOk]
  simp only [laneChecks, List.append_assoc]
  rfl

theorem laneChecks_load (kind : req.kind.toNat = 0x11) :
    laneChecks s req.lane 0x11 req.body = admissionChecks s loadRule req ++
      [(decide ((s.card (fieldAt req.body 3 3)).balance + fieldAt req.body 8 4 ≤
          (s.program ((s.lookup (fieldAt req.body 3 3)).getD 0)).loadLimit), .limit),
        (s.canReserve .general 1, .journalFull)] := by
  have fields : laneFieldsOk req.kind req.body = decide (fieldAt req.body 6 2 ≤ 9999) := by simp only [laneFieldsOk, kind]
  rw [admissionChecks, fields]
  simp only [laneChecks, List.append_assoc]
  rfl

theorem laneChecks_balance (kind : req.kind.toNat = 0x12) :
    laneChecks s req.lane 0x12 req.body = admissionChecks s balanceRule req := by
  have fields : laneFieldsOk req.kind req.body = decide (fieldAt req.body 6 2 ≤ 9999) := by simp only [laneFieldsOk, kind]
  rw [admissionChecks, fields]
  simp only [laneChecks]
  exact (List.append_nil _).symm

theorem laneChecks_authorize (kind : req.kind.toNat = 0x13) :
    laneChecks s req.lane 0x13 req.body = admissionChecks s redeemRule req ++
      [(decide ((s.card (fieldAt req.body 3 3)).holdCount <
          (s.program ((s.lookup (fieldAt req.body 3 3)).getD 0)).maxHolds), .holdsFull),
        (s.freeHoldSlot.isSome, .holdsFull),
        ((approvedAmount (fieldAt req.body 8 4) (s.card (fieldAt req.body 3 3)).available (fieldAt req.body 12 1 == 1)).isSome,
          .insufficient),
        (s.canReserve .general 1, .journalFull)] := by
  have fields : laneFieldsOk req.kind req.body = (decide (fieldAt req.body 6 2 ≤ 9999) && decide (fieldAt req.body 12 1 ≤ 1)) := by
    simp only [laneFieldsOk, kind]
  rw [admissionChecks, fields, freeHoldSlot_isSome, approvedAmount_isSome]
  simp only [laneChecks, List.append_assoc]
  rfl

theorem laneChecks_redeem (kind : req.kind.toNat = 0x16) :
    laneChecks s req.lane 0x16 req.body = admissionChecks s redeemRule req ++
      [((approvedAmount (fieldAt req.body 8 4) (s.card (fieldAt req.body 3 3)).available (fieldAt req.body 12 1 == 1)).isSome,
          .insufficient),
        (s.canReserve .general 1, .journalFull)] := by
  have fields : laneFieldsOk req.kind req.body = (decide (fieldAt req.body 6 2 ≤ 9999) && decide (fieldAt req.body 12 1 ≤ 1)) := by
    simp only [laneFieldsOk, kind]
  rw [admissionChecks, fields, approvedAmount_isSome]
  simp only [laneChecks, List.append_assoc]
  rfl

theorem laneChecks_cashout (kind : req.kind.toNat = 0x18) :
    laneChecks s req.lane 0x18 req.body = admissionChecks s cashoutRule req ++
      [(decide ((s.card (fieldAt req.body 3 3)).holdCount = 0), .holdsFull),
        (decide (0 < (s.card (fieldAt req.body 3 3)).balance ∧ (s.card (fieldAt req.body 3 3)).balance ≤
          (s.program ((s.lookup (fieldAt req.body 3 3)).getD 0)).ceiling), .limit),
        (s.canReserve .general 1, .journalFull)] := by
  have fields : laneFieldsOk req.kind req.body = decide (fieldAt req.body 6 2 ≤ 9999) := by simp only [laneFieldsOk, kind]
  rw [admissionChecks, fields]
  simp only [laneChecks, List.append_assoc]
  rfl

theorem decideActivate_declined (kind : req.kind.toNat = 0x10) (notCode : d ≠ .badCode)
    (h : firstFailing (laneChecks s req.lane 0x10 req.body) = some d) : decideActivate req s = declined s 0x10 req.body d := by
  rw [laneChecks_activate kind, firstFailing_append] at h
  cases admitted : firstFailing (admissionChecks s activateRule req) with
  | some d' =>
    obtain rfl : d' = d := by simpa [admitted] using h
    obtain ⟨stopped, reply⟩ := admitCard_declined (kind := 0x10) rfl notCode admitted
    simp only [decideActivate, stopped]
    rw [← reply]
  | none =>
    simp only [admitted, Option.none_or, firstFailing_cons, decide_eq_false_iff_not, decide_eq_true_eq] at h
    simp only [decideActivate, admitCard_passed admitted, laneAmount]
    obtain ⟨outside, rfl⟩ | ⟨inside, ⟨noRoom, rfl⟩ | ⟨-, no⟩⟩ := h
    · rw [if_pos (by omega), declined_limit]
      rfl
    · rw [if_neg (by omega), reserve_none_of noRoom, declined_journalFull]
    · cases no

theorem decideLoad_declined (kind : req.kind.toNat = 0x11) (notCode : d ≠ .badCode)
    (h : firstFailing (laneChecks s req.lane 0x11 req.body) = some d) : decideLoad req s = declined s 0x11 req.body d := by
  rw [laneChecks_load kind, firstFailing_append] at h
  cases admitted : firstFailing (admissionChecks s loadRule req) with
  | some d' =>
    obtain rfl : d' = d := by simpa [admitted] using h
    obtain ⟨stopped, reply⟩ := admitCard_declined (kind := 0x11) rfl notCode admitted
    simp only [decideLoad, stopped]
    rw [← reply]
  | none =>
    simp only [admitted, Option.none_or, firstFailing_cons, decide_eq_false_iff_not, decide_eq_true_eq] at h
    simp only [decideLoad, admitCard_passed admitted, laneAmount]
    obtain ⟨above, rfl⟩ | ⟨within, ⟨noRoom, rfl⟩ | ⟨-, no⟩⟩ := h
    · rw [if_pos (by omega), declined_limit]
      rfl
    · rw [if_neg (by omega), reserve_none_of noRoom, declined_journalFull]
    · cases no

theorem decideBalance_declined (kind : req.kind.toNat = 0x12) (notCode : d ≠ .badCode)
    (h : firstFailing (laneChecks s req.lane 0x12 req.body) = some d) : decideBalance req s = declined s 0x12 req.body d := by
  rw [laneChecks_balance kind] at h
  obtain ⟨stopped, reply⟩ := admitCard_declined (kind := 0x12) rfl notCode h
  simp only [decideBalance, stopped]
  rw [← reply]

theorem decideAuthorize_declined (kind : req.kind.toNat = 0x13) (notCode : d ≠ .badCode)
    (h : firstFailing (laneChecks s req.lane 0x13 req.body) = some d) : decideAuthorize req s = declined s 0x13 req.body d := by
  rw [laneChecks_authorize kind, firstFailing_append] at h
  cases admitted : firstFailing (admissionChecks s redeemRule req) with
  | some d' =>
    obtain rfl : d' = d := by simpa [admitted] using h
    obtain ⟨stopped, reply⟩ := admitCard_declined (kind := 0x13) rfl notCode admitted
    simp only [decideAuthorize, stopped]
    rw [← reply]
  | none =>
    simp only [admitted, Option.none_or, firstFailing_cons, decide_eq_false_iff_not, decide_eq_true_eq] at h
    simp only [decideAuthorize, admitCard_passed admitted]
    obtain ⟨full, rfl⟩ | ⟨below, ⟨noSlot, rfl⟩ | ⟨slotFree, ⟨short, rfl⟩ | ⟨covered, ⟨noRoom, rfl⟩ | ⟨-, no⟩⟩⟩⟩ := h
    · rw [if_pos (by omega), declined_holdsFull]
    · have none_ : s.freeHoldSlot = none := by simpa using noSlot
      rw [if_neg (by omega), none_, declined_holdsFull]
    · obtain ⟨slot, found⟩ := Option.isSome_iff_exists.mp slotFree
      rw [if_neg (by omega), found, declined_insufficient]
      dsimp only
      rw [Option.isNone_iff_eq_none.mp (Option.isSome_eq_false_iff.mp short)]
      rfl
    · obtain ⟨slot, found⟩ := Option.isSome_iff_exists.mp slotFree
      obtain ⟨approved, approvedIs⟩ := Option.isSome_iff_exists.mp covered
      rw [if_neg (by omega), found, declined_journalFull]
      dsimp only
      rw [approvedIs, reserve_none_of noRoom]
    · cases no

theorem decideRedeem_declined (kind : req.kind.toNat = 0x16) (notCode : d ≠ .badCode)
    (h : firstFailing (laneChecks s req.lane 0x16 req.body) = some d) : decideRedeem req s = declined s 0x16 req.body d := by
  rw [laneChecks_redeem kind, firstFailing_append] at h
  cases admitted : firstFailing (admissionChecks s redeemRule req) with
  | some d' =>
    obtain rfl : d' = d := by simpa [admitted] using h
    obtain ⟨stopped, reply⟩ := admitCard_declined (kind := 0x16) rfl notCode admitted
    simp only [decideRedeem, stopped]
    rw [← reply]
  | none =>
    simp only [admitted, Option.none_or, firstFailing_cons] at h
    simp only [decideRedeem, admitCard_passed admitted]
    obtain ⟨short, rfl⟩ | ⟨covered, ⟨noRoom, rfl⟩ | ⟨-, no⟩⟩ := h
    · rw [Option.isNone_iff_eq_none.mp (Option.isSome_eq_false_iff.mp short), declined_insufficient]
      rfl
    · obtain ⟨approved, approvedIs⟩ := Option.isSome_iff_exists.mp covered
      rw [approvedIs, reserve_none_of noRoom, declined_journalFull]
    · cases no

theorem decideCashout_declined (kind : req.kind.toNat = 0x18) (notCode : d ≠ .badCode)
    (h : firstFailing (laneChecks s req.lane 0x18 req.body) = some d) : decideCashout req s = declined s 0x18 req.body d := by
  rw [laneChecks_cashout kind, firstFailing_append] at h
  cases admitted : firstFailing (admissionChecks s cashoutRule req) with
  | some d' =>
    obtain rfl : d' = d := by simpa [admitted] using h
    obtain ⟨stopped, reply⟩ := admitCard_declined (kind := 0x18) rfl notCode admitted
    simp only [decideCashout, stopped]
    rw [← reply]
  | none =>
    simp only [admitted, Option.none_or, firstFailing_cons, decide_eq_false_iff_not, decide_eq_true_eq] at h
    simp only [decideCashout, admitCard_passed admitted]
    obtain ⟨held, rfl⟩ | ⟨unheld, ⟨outside, rfl⟩ | ⟨inside, ⟨noRoom, rfl⟩ | ⟨-, no⟩⟩⟩ := h
    · rw [if_pos (by omega), declined_holdsFull]
    · rw [if_neg (by omega), if_pos (by omega), declined_limit]
      rfl
    · rw [if_neg (by omega), if_neg (by omega), reserve_none_of noRoom, declined_journalFull]
    · cases no

/-! ### CAPTURE, VOID, REFUND -/

/-- The decline of the checks every lane request meets first notes no fault, carries no balance and is not of a code. -/
theorem admitShop_declined {cls : ShopClass}
    (h : firstFailing (frontChecks s req.lane req.body (laneFieldsOk req.kind req.body) (decide (cls = .sale))
      (decide (cls = .spend))) = some d) :
    s.admitShop cls req = .error d ∧ d ≠ .recordFault ∧ d ≠ .limit ∧ d ≠ .insufficient := by
  rw [State.admitShop_eq_firstFailing, h]
  have listed := firstFailing_mem h
  simp only [frontChecks, List.map_cons, List.map_nil, List.mem_cons, List.not_mem_nil, or_false] at listed
  obtain rfl | rfl | rfl | rfl | rfl | rfl := listed <;> exact ⟨rfl, by decide⟩

/-- A record that cannot be read is noted. -/
theorem readRecord_unreadable {serial : Nat} {expected : Option Nat} (h : readable s serial expected = false) :
    s.readRecord serial expected = (s.noteFault serial, none) := by
  obtain ⟨listed, read⟩ | ⟨-, -, read⟩ | ⟨unlisted, sound, -⟩ := s.readRecord_cases serial expected
  · rw [read, noteFault_of_listed listed]
  · exact read
  · simp [readable, unlisted, sound] at h

theorem readRecord_readable {serial : Nat} {expected : Option Nat} (h : readable s serial expected = true) :
    s.readRecord serial expected = (s, some (s.card serial)) := by
  simp only [readable, Bool.and_eq_true, decide_eq_true_eq, Bool.not_eq_true'] at h
  exact State.readRecord_of h.1 h.2

theorem decideCapture_declined (kind : req.kind.toNat = 0x14)
    (h : firstFailing (laneChecks s req.lane 0x14 req.body) = some d) : decideCapture req s = declined s 0x14 req.body d := by
  have fields : laneFieldsOk req.kind req.body = true := by simp only [laneFieldsOk, kind]
  have checks : laneChecks s req.lane 0x14 req.body =
      frontChecks s req.lane req.body (laneFieldsOk req.kind req.body) (decide (ShopClass.spend = .sale))
        (decide (ShopClass.spend = .spend)) ++
      holdChecks s ((s.boundShop req.lane (fieldAt req.body 0 1)).getD 0) (fieldAt req.body 3 2)
        (some (fieldAt req.body 5 4)) := by
    rw [fields]
    rfl
  rw [checks, firstFailing_append] at h
  cases front : firstFailing (frontChecks s req.lane req.body (laneFieldsOk req.kind req.body) (decide (ShopClass.spend = .sale))
    (decide (ShopClass.spend = .spend))) with
  | some d' =>
    obtain rfl : d' = d := Option.some.inj (by rwa [front, Option.some_or] at h)
    obtain ⟨stopped, plain⟩ := admitShop_declined front
    simp only [decideCapture, stopped, declined_plain plain]
  | none =>
    have admitted : s.admitShop .spend req = .ok ((s.boundShop req.lane (fieldAt req.body 0 1)).getD 0) := by
      rw [State.admitShop_eq_firstFailing, front]
    rw [front, Option.none_or, holdChecks] at h
    cases resolved : s.resolveHold (fieldAt req.body 3 2) with
    | active slot gen hold =>
      have named : namedCard s 0x14 req.body = hold.card := by simp only [namedCard, namedCard.heldCard, resolved]
      simp only [resolved, Option.map_some, Option.toList_some, List.cons_append, List.nil_append, firstFailing_cons,
        decide_eq_false_iff_not, decide_eq_true_eq] at h
      simp only [decideCapture, admitted, resolved, captureAmount, outOfRange_eq]
      obtain ⟨faults, rfl⟩ | ⟨sound, ⟨outside, rfl⟩ | ⟨inside, ⟨other, rfl⟩ | ⟨own, ⟨above, rfl⟩ | ⟨covered, ⟨noRoom, rfl⟩ | ⟨-, no⟩⟩⟩⟩⟩ := h
      · simp only [readRecord_unreadable faults, declined_recordFault, named]
      · simp [readRecord_readable sound, outside, declined_plain]
      · simp [readRecord_readable sound, inside, other, declined_plain]
      · simp [readRecord_readable sound, inside, own, Nat.not_le.mp above, declined_plain]
      · simp [readRecord_readable sound, inside, own, Nat.not_lt.mpr covered, reserve_none_of noRoom, declined_plain]
      · cases no
    | ended cause =>
      simp only [resolved, Option.map_some, Option.toList_some, List.cons_append, List.nil_append, firstFailing_cons] at h
      simp only [decideCapture, admitted, resolved, captureAmount, outOfRange_eq]
      obtain ⟨outside, rfl⟩ | ⟨inside, ⟨-, rfl⟩ | ⟨no, -⟩⟩ := h
      · simp [outside, declined_plain]
      · cases cause <;> simp [inside, resolvedDecline, endedDecline, declined_plain]
      · cases no
    | unknown =>
      simp only [resolved, Option.map_some, Option.toList_some, List.cons_append, List.nil_append, firstFailing_cons] at h
      simp only [decideCapture, admitted, resolved, captureAmount, outOfRange_eq]
      obtain ⟨outside, rfl⟩ | ⟨inside, ⟨-, rfl⟩ | ⟨no, -⟩⟩ := h
      · simp [outside, declined_plain]
      · simp [inside, resolvedDecline, declined_plain]
      · cases no

theorem decideVoid_declined (kind : req.kind.toNat = 0x15)
    (h : firstFailing (laneChecks s req.lane 0x15 req.body) = some d) : decideVoid req s = declined s 0x15 req.body d := by
  have fields : laneFieldsOk req.kind req.body = true := by simp only [laneFieldsOk, kind]
  have checks : laneChecks s req.lane 0x15 req.body =
      frontChecks s req.lane req.body (laneFieldsOk req.kind req.body) (decide (ShopClass.giveBack = .sale))
        (decide (ShopClass.giveBack = .spend)) ++
      holdChecks s ((s.boundShop req.lane (fieldAt req.body 0 1)).getD 0) (fieldAt req.body 3 2) none := by
    rw [fields]
    rfl
  rw [checks, firstFailing_append] at h
  cases front : firstFailing (frontChecks s req.lane req.body (laneFieldsOk req.kind req.body)
    (decide (ShopClass.giveBack = .sale)) (decide (ShopClass.giveBack = .spend))) with
  | some d' =>
    obtain rfl : d' = d := Option.some.inj (by rwa [front, Option.some_or] at h)
    obtain ⟨stopped, plain⟩ := admitShop_declined front
    simp only [decideVoid, stopped, declined_plain plain]
  | none =>
    have admitted : s.admitShop .giveBack req = .ok ((s.boundShop req.lane (fieldAt req.body 0 1)).getD 0) := by
      rw [State.admitShop_eq_firstFailing, front]
    rw [front, Option.none_or, holdChecks] at h
    cases resolved : s.resolveHold (fieldAt req.body 3 2) with
    | active slot gen hold =>
      have named : namedCard s 0x15 req.body = hold.card := by simp only [namedCard, namedCard.heldCard, resolved]
      simp only [resolved, Option.map_none, Option.toList_none, List.cons_append, List.nil_append, firstFailing_cons,
        decide_eq_false_iff_not, decide_eq_true_eq] at h
      simp only [decideVoid, admitted, resolved]
      obtain ⟨faults, rfl⟩ | ⟨sound, ⟨other, rfl⟩ | ⟨own, ⟨noRoom, rfl⟩ | ⟨-, no⟩⟩⟩ := h
      · simp only [readRecord_unreadable faults, declined_recordFault, named]
      · simp [readRecord_readable sound, other, declined_plain]
      · simp [readRecord_readable sound, own, reserve_none_of noRoom, declined_plain]
      · cases no
    | ended cause =>
      simp only [resolved, Option.map_none, Option.toList_none, List.nil_append, firstFailing_cons] at h
      simp only [decideVoid, admitted, resolved]
      obtain ⟨-, rfl⟩ | ⟨no, -⟩ := h
      · cases cause <;> simp [resolvedDecline, endedDecline, declined_plain]
      · cases no
    | unknown =>
      simp only [resolved, Option.map_none, Option.toList_none, List.nil_append, firstFailing_cons] at h
      simp only [decideVoid, admitted, resolved]
      obtain ⟨-, rfl⟩ | ⟨no, -⟩ := h
      · simp [resolvedDecline, declined_plain]
      · cases no

theorem decideRefund_declined (kind : req.kind.toNat = 0x17)
    (h : firstFailing (laneChecks s req.lane 0x17 req.body) = some d) : decideRefund req s = declined s 0x17 req.body d := by
  have fields : laneFieldsOk req.kind req.body = true := by simp only [laneFieldsOk, kind]
  have checks : laneChecks s req.lane 0x17 req.body =
      frontChecks s req.lane req.body (laneFieldsOk req.kind req.body) (decide (ShopClass.giveBack = .sale))
        (decide (ShopClass.giveBack = .spend)) ++
      refundChecks s ((s.boundShop req.lane (fieldAt req.body 0 1)).getD 0) (fieldAt req.body 3 4) (fieldAt req.body 7 4) := by
    rw [fields]
    rfl
  rw [checks, firstFailing_append] at h
  cases front : firstFailing (frontChecks s req.lane req.body (laneFieldsOk req.kind req.body)
    (decide (ShopClass.giveBack = .sale)) (decide (ShopClass.giveBack = .spend))) with
  | some d' =>
    obtain rfl : d' = d := Option.some.inj (by rwa [front, Option.some_or] at h)
    obtain ⟨stopped, plain⟩ := admitShop_declined front
    simp only [decideRefund, stopped, declined_plain plain]
  | none =>
    have admitted : s.admitShop .giveBack req = .ok ((s.boundShop req.lane (fieldAt req.body 0 1)).getD 0) := by
      rw [State.admitShop_eq_firstFailing, front]
    rw [front, Option.none_or, refundChecks] at h
    cases found : s.findCapture (fieldAt req.body 3 4) with
    | none =>
      have absent : s.store.window.find? (fun r => r.ref == fieldAt req.body 3 4) = none := found
      simp only [absent, firstFailing_cons] at h
      simp only [decideRefund, admitted, found, refundAmount, outOfRange_eq]
      obtain ⟨outside, rfl⟩ | ⟨inside, ⟨-, rfl⟩ | ⟨no, -⟩⟩ := h
      · simp [outside, declined_plain]
      · simp [inside, declined_plain]
      · cases no
    | some rec =>
      have present : s.store.window.find? (fun r => r.ref == fieldAt req.body 3 4) = some rec := found
      have named : namedCard s 0x17 req.body = rec.card := by simp [namedCard, present]
      simp only [present, firstFailing_cons, decide_eq_false_iff_not, decide_eq_true_eq] at h
      simp only [decideRefund, admitted, found, refundAmount, outOfRange_eq]
      obtain ⟨unknown, rfl⟩ | ⟨known, ⟨faults, rfl⟩ | ⟨sound, ⟨outside, rfl⟩ | ⟨inside, h⟩⟩⟩ := h
      · simp [Nat.not_lt.mp unknown, declined_plain]
      · simp only [Nat.not_le.mpr known, if_false, readRecord_unreadable faults, declined_recordFault, named]
      · simp [Nat.not_le.mpr known, readRecord_readable sound, outside, declined_plain]
      · simp only [Nat.not_le.mpr known, if_false, readRecord_readable sound, inside, Bool.not_true, Bool.false_eq_true]
        obtain ⟨old, rfl⟩ | ⟨recent, h⟩ := h
        · simp [State.refundDecline, Nat.not_le.mp old, declined_plain]
        obtain ⟨elsewhere, rfl⟩ | ⟨here, h⟩ := h
        · have elsewhere' : ((s.boundShop req.lane (fieldAt req.body 0 1)).getD 0) ≠ rec.shop ∧
              (s.acceptRow (segment ((s.boundShop req.lane (fieldAt req.body 0 1)).getD 0))).effectiveXe rec.program = false :=
            (Bool.or_eq_false_iff.mp elsewhere).imp of_decide_eq_false id
          simp only [State.refundDecline, Nat.not_lt.mpr recent, if_false, if_pos elsewhere']
          rw [declined_plain (by decide)]
        have here' : ¬(((s.boundShop req.lane (fieldAt req.body 0 1)).getD 0) ≠ rec.shop ∧
              (s.acceptRow (segment ((s.boundShop req.lane (fieldAt req.body 0 1)).getD 0))).effectiveXe rec.program = false) := by
          rintro ⟨other, refused⟩
          obtain same | granted : _ ∨ _ := (Bool.or_eq_true _ _).mp here
          · exact other (of_decide_eq_true same)
          · exact absurd (refused.symm.trans granted) (by decide)
        obtain ⟨stopped, rfl⟩ | ⟨running, h⟩ := h
        · have stopped' : (s.card rec.card).state ≠ .active ∧ (s.card rec.card).state ≠ .suspended := not_or.mp stopped
          simp only [State.refundDecline, Nat.not_lt.mpr recent, if_false, if_neg here', if_pos stopped']
          rw [declined_plain (by decide)]
        have running' : ¬((s.card rec.card).state ≠ .active ∧ (s.card rec.card).state ≠ .suspended) :=
          fun ⟨notActive, notSuspended⟩ => running.elim notActive notSuspended
        obtain ⟨above, rfl⟩ | ⟨covered, h⟩ := h
        · simp only [State.refundDecline, Nat.not_lt.mpr recent, if_false, if_neg here', if_neg running',
            if_pos (Nat.not_le.mp above)]
          rw [declined_plain (by decide)]
        obtain ⟨outside, rfl⟩ | ⟨within, h⟩ := h
        · simp only [State.refundDecline, Nat.not_lt.mpr recent, if_false, if_neg here', if_neg running',
            if_neg (Nat.not_lt.mpr covered), if_pos (Nat.not_le.mp outside)]
          rw [declined_limit, named]
        obtain ⟨noRoom, rfl⟩ | ⟨-, no⟩ := h
        · simp only [State.refundDecline, Nat.not_lt.mpr recent, if_false, if_neg here', if_neg running',
            if_neg (Nat.not_lt.mpr covered), if_neg (Nat.not_lt.mpr within), reserve_none_of noRoom]
          rw [declined_journalFull]
        · cases no

end

/-! ### The statements -/

theorem laneChecks_takeLane (s : State) (j l kind : Nat) (b : List Byte) :
    laneChecks (s.takeLane j) l kind b = laneChecks s l kind b := rfl

theorem namedCard_takeLane (s : State) (l kind : Nat) (b : List Byte) :
    namedCard (s.takeLane l) kind b = namedCard s kind b := rfl

theorem laneAnswerOf_declineReply (s : State) (kind : Nat) (e : LaneEntry) (d : LaneResult) :
    laneAnswerOf e (declineReply s kind e.body d) = laneReply e d none
      (if d = .limit ∨ d = .insufficient then
        some ((s.card (namedCard s kind e.body)).balance - (s.card (namedCard s kind e.body)).held) else none) none none := rfl

/-- A request that its first failing check declines leaves what that check names. -/
theorem laneStep_declined {i : Instr} {kind l : Nat} {decision : LaneReq → State → State × Reply} {s : State} {e : LaneEntry}
    {d : LaneResult} (run : exec i s = .next (laneStep kind decision s)) (work : s.laneWork kind = some (l, e))
    (decided : decision (requestOf l e) (s.takeLane l) = declined (s.takeLane l) kind e.body d) :
    ∃ t, exec i s = .next t ∧
      laneAnswered s t l (laneReply e d none
        (if d = .limit ∨ d = .insufficient then
          some ((s.card (namedCard s kind e.body)).balance - (s.card (namedCard s kind e.body)).held) else none) none none) ∧
      (d ≠ .recordFault → { t with lanes := s.lanes, ledger.top := s.ledger.top } = s) ∧
      (d = .recordFault → faultNoted s t (namedCard s kind e.body) ∧
        onlyRaises s t (if namedCard s kind e.body ∈ s.ledger.faults then [] else [0]) ∧
        { t with lanes := s.lanes, ledger.top := s.ledger.top, ledger.faults := s.ledger.faults,
                 ledger.faultOverflow := s.ledger.faultOverflow, attn.pending := s.attn.pending } = s) := by
  rw [laneStep_eq work, decided] at run
  have answer := laneAnswerOf_declineReply (s.takeLane l) kind e d
  by_cases fault : d = .recordFault
  · subst fault
    rw [declined_recordFault, namedCard_takeLane] at run
    refine ⟨_, run, laneAnswered_handOver (by simp) (noteFault_top _ _), fun no => absurd rfl no, fun _ => ?_⟩
    have noted := faultNoted_noteFault (s.takeLane l) (namedCard s kind e.body)
    have raises := onlyRaises_noteFault (s.takeLane l) (namedCard s kind e.body)
    have rest := noteFault_rest (s.takeLane l) (namedCard s kind e.body)
    generalize (s.takeLane l).noteFault (namedCard s kind e.body) = u at noted raises rest
    rw [State.handOver_frame]
    exact ⟨noted, raises, (congrArg (fun x : State => { x with lanes := s.lanes, ledger.top := s.ledger.top }) rest :)⟩
  · have kept : declined (s.takeLane l) kind e.body d = (s.takeLane l, declineReply (s.takeLane l) kind e.body d) := by
      simp [declined, declinedState, fault]
    rw [kept] at run
    exact ⟨_, run, laneAnswered_handOver rfl rfl, fun _ => handOver_takeLane_frame s l _, fun yes => absurd yes fault⟩

/-- Settles O15: each kind's decision follows its list of checks. -/
theorem theFirstFailingCheckNamesTheDecline : Obligations.TheFirstFailingCheckNamesTheDecline := by
  refine ⟨fun s l kind e i d command work failing notCode => ?_, fun s l e work => ?_⟩
  · obtain ⟨-, -, is, -⟩ := State.laneWork_spec work
    rw [← laneChecks_takeLane s l] at failing
    simp only [laneCommands, List.mem_cons, Prod.mk.injEq, List.not_mem_nil, or_false] at command
    obtain ⟨rfl, rfl⟩ | ⟨rfl, rfl⟩ | ⟨rfl, rfl⟩ | ⟨rfl, rfl⟩ | ⟨rfl, rfl⟩ | ⟨rfl, rfl⟩ | ⟨rfl, rfl⟩ | ⟨rfl, rfl⟩ | ⟨rfl, rfl⟩ := command
    · exact laneStep_declined (decision := decideActivate) rfl work (decideActivate_declined (req := requestOf l e) is notCode failing)
    · exact laneStep_declined (decision := decideLoad) rfl work (decideLoad_declined (req := requestOf l e) is notCode failing)
    · exact laneStep_declined (decision := decideBalance) rfl work (decideBalance_declined (req := requestOf l e) is notCode failing)
    · exact laneStep_declined (decision := decideAuthorize) rfl work
        (decideAuthorize_declined (req := requestOf l e) is notCode failing)
    · exact laneStep_declined (decision := decideCapture) rfl work (decideCapture_declined (req := requestOf l e) is failing)
    · exact laneStep_declined (decision := decideVoid) rfl work (decideVoid_declined (req := requestOf l e) is failing)
    · exact laneStep_declined (decision := decideRedeem) rfl work (decideRedeem_declined (req := requestOf l e) is notCode failing)
    · exact laneStep_declined (decision := decideRefund) rfl work (decideRefund_declined (req := requestOf l e) is failing)
    · exact laneStep_declined (decision := decideCashout) rfl work (decideCashout_declined (req := requestOf l e) is notCode failing)
  · have run : exec .laneBadRequest s = .next ((s.takeLane l).handOver l (laneAnswerOf e (Reply.decline .badRequest))) := by
      simp [exec, execLaneBadRequest, work]
    exact ⟨_, run, laneAnswered_handOver rfl rfl, handOver_takeLane_frame s l _⟩

/-- A decline that the end of a list cannot name is named by its beginning. -/
theorem firstFailing_of_append {α : Type} {p q : List (Bool × α)} {d : α} (h : firstFailing (p ++ q) = some d)
    (other : d ∉ q.map Prod.snd) : firstFailing p = some d := by
  rw [firstFailing_append] at h
  cases first : firstFailing p with
  | some d' =>
    rw [first, Option.some_or] at h
    exact h
  | none =>
    rw [first, Option.none_or] at h
    exact absurd (firstFailing_mem h) other

/-- A request stopped by its code: the failure is committed under a reservation, or declined JOURNAL_FULL. -/
theorem laneStep_badCode {i : Instr} {kind l : Nat} {decision : LaneReq → State → State × Reply} {s : State} {e : LaneEntry}
    {rule : CardRule} {tail : List (Bool × LaneResult)} (run : exec i s = .next (laneStep kind decision s)) (work : s.laneWork kind = some (l, e))
    (stopped : ∀ (u v : State) (d : LaneResult), u.admitCard rule (requestOf l e) = .stop v d →
      decision (requestOf l e) u = (v, Reply.decline d))
    (checks : laneChecks (s.takeLane l) l kind e.body = admissionChecks (s.takeLane l) rule (requestOf l e) ++ tail)
    (other : .badCode ∉ tail.map Prod.snd)
    (failing : firstFailing (laneChecks (s.takeLane l) l kind e.body) = some .badCode) :
    (s.canReserve .general 1 = true →
      laneCommit i s l (fieldAt e.body 3 3)
        { failedCard (s.card (fieldAt e.body 3 3)) with checkOk := true } s.store.totals s.store.window holdsKept []
        (failureEntry (fieldAt e.body 3 3) (s.card (fieldAt e.body 3 3)))
        (laneReply e .badCode none none none none)) ∧
    (s.canReserve .general 1 = false →
      ∃ t, exec i s = .next t ∧ laneAnswered s t l (laneReply e .journalFull none none none none) ∧
        { t with lanes := s.lanes, ledger.top := s.ledger.top } = s) := by
  rw [checks] at failing
  have stop : (s.takeLane l).admitCard rule (requestOf l e) = .stop
      ((s.takeLane l).codeFailure (fieldAt e.body 3 3) (s.card (fieldAt e.body 3 3))).1
      ((s.takeLane l).codeFailure (fieldAt e.body 3 3) (s.card (fieldAt e.body 3 3))).2 := by
    rw [State.admitCard_eq_firstFailing, ← admissionChecks, firstFailing_of_append failing other]
    rfl
  have decided := stopped _ _ _ stop
  refine ⟨fun room => ?_, fun noRoom => ?_⟩
  · obtain ⟨s1, granted, store, holds⟩ := reserve_takeLane l room
    rw [State.codeFailure, granted] at decided
    exact laneCommit_of (effect := none) run work granted decided (by rfl) (by rw [← store]; rfl) (by rw [← store]; rfl)
      (by rw [← store]; rfl) holds rfl
  · have noGrant : (s.takeLane l).reserve .general 1 = none := reserve_none_of noRoom
    rw [State.codeFailure, noGrant] at decided
    exact laneStep_answers run work decided rfl

/-- No code is checked for a request that names no serial. -/
theorem badCode_of_laneChecks {s : State} {l : Nat} {b : List Byte} :
    firstFailing (laneChecks s l 0x14 b) ≠ some .badCode ∧ firstFailing (laneChecks s l 0x15 b) ≠ some .badCode ∧
      firstFailing (laneChecks s l 0x17 b) ≠ some .badCode := by
  refine ⟨fun h => ?_, fun h => ?_, fun h => ?_⟩
  · have listed := firstFailing_mem h
    cases resolved : s.resolveHold (fieldAt b 3 2) with
    | ended cause => cases cause <;> simp [laneChecks, frontChecks, holdChecks, resolved] at listed
    | _ => simp [laneChecks, frontChecks, holdChecks, resolved] at listed
  · have listed := firstFailing_mem h
    cases resolved : s.resolveHold (fieldAt b 3 2) with
    | ended cause => cases cause <;> simp [laneChecks, frontChecks, holdChecks, resolved] at listed
    | _ => simp [laneChecks, frontChecks, holdChecks, resolved] at listed
  · have listed := firstFailing_mem h
    cases found : s.store.window.find? fun r => r.ref == fieldAt b 3 4 <;>
      simp [laneChecks, frontChecks, refundChecks, found] at listed

/-- Settles O16: the failing check is admission's, whatever the kind's own checks. -/
theorem aCodeMismatchIsCommittedOnce : Obligations.ACodeMismatchIsCommittedOnce := by
  rintro s l kind _ e i _ _ command work failing rfl rfl rfl
  obtain ⟨-, -, is, -⟩ := State.laneWork_spec work
  rw [← laneChecks_takeLane s l] at failing
  have lock : { failedCard (s.card (fieldAt e.body 3 3)) with checkOk := true } =
      { s.card (fieldAt e.body 3 3) with
        failures := (s.card (fieldAt e.body 3 3)).failures + 1, seq := ((s.card (fieldAt e.body 3 3)).seq + 1) % 16777216,
        checkOk := true,
        state := if 3 ≤ (s.card (fieldAt e.body 3 3)).failures + 1 ∧ (s.card (fieldAt e.body 3 3)).state = .active
          then .suspended else (s.card (fieldAt e.body 3 3)).state,
        suspend := if 3 ≤ (s.card (fieldAt e.body 3 3)).failures + 1 ∧ (s.card (fieldAt e.body 3 3)).state = .active
          then some .lockout else (s.card (fieldAt e.body 3 3)).suspend } := by
    simp [failedCard, nextCardSeq]
  rw [← lock]
  obtain ⟨notCapture, notVoid, notRefund⟩ := badCode_of_laneChecks (s := s.takeLane l) (l := l) (b := e.body)
  simp only [laneCommands, List.mem_cons, Prod.mk.injEq, List.not_mem_nil, or_false] at command
  obtain ⟨rfl, rfl⟩ | ⟨rfl, rfl⟩ | ⟨rfl, rfl⟩ | ⟨rfl, rfl⟩ | ⟨rfl, rfl⟩ | ⟨rfl, rfl⟩ | ⟨rfl, rfl⟩ | ⟨rfl, rfl⟩ | ⟨rfl, rfl⟩ := command
  · exact laneStep_badCode (decision := decideActivate) (rule := activateRule) rfl work
      (fun u v d stop => by simp only [decideActivate, stop]) (laneChecks_activate (req := requestOf l e) is) (by simp) failing
  · exact laneStep_badCode (decision := decideLoad) (rule := loadRule) rfl work
      (fun u v d stop => by simp only [decideLoad, stop]) (laneChecks_load (req := requestOf l e) is) (by simp) failing
  · exact laneStep_badCode (decision := decideBalance) (rule := balanceRule) rfl work
      (fun u v d stop => by simp only [decideBalance, stop]) ((laneChecks_balance (req := requestOf l e) is).trans (List.append_nil _).symm) (by simp) failing
  · exact laneStep_badCode (decision := decideAuthorize) (rule := redeemRule) rfl work
      (fun u v d stop => by simp only [decideAuthorize, stop]) (laneChecks_authorize (req := requestOf l e) is) (by simp) failing
  · exact absurd failing notCapture
  · exact absurd failing notVoid
  · exact laneStep_badCode (decision := decideRedeem) (rule := redeemRule) rfl work
      (fun u v d stop => by simp only [decideRedeem, stop]) (laneChecks_redeem (req := requestOf l e) is) (by simp) failing
  · exact absurd failing notRefund
  · exact laneStep_badCode (decision := decideCashout) (rule := cashoutRule) rfl work
      (fun u v d stop => by simp only [decideCashout, stop]) (laneChecks_cashout (req := requestOf l e) is) (by simp) failing

end Sys2Proof.Machine
end

section
/-! PROOFS. Who is eligible, and what is taken next (R48, R137). -/

namespace Sys2Proof.Machine

/-! ### The arbiter -/

/-- One turn of the rotation. -/
theorem State.rotate_succ (s : State) (n i : Nat) :
    s.rotate (n + 1) i =
      if i % 5 = 4 then (if s.officeEligible then some .office else s.rotate n (i + 1))
      else if s.laneEligible (i % 5) then some (.lane (i % 5)) else s.rotate n (i + 1) := rfl

/-- The rotation passes over requesters that are not eligible. -/
theorem State.rotate_skip (s : State) (k : Nat) : ∀ n i,
    (∀ m, m < n → (i + m) % 5 ≤ 3 → s.laneEligible ((i + m) % 5) = false) →
    (∀ m, m < n → (i + m) % 5 = 4 → s.officeEligible = false) → s.rotate (n + k) i = s.rotate k (i + n)
  | 0, i, _, _ => by simp
  | n + 1, i, lanes, office => by
    have rest : s.rotate (n + k) (i + 1) = s.rotate k (i + 1 + n) :=
      State.rotate_skip s k n (i + 1)
        (fun m hm => by simpa [Nat.add_assoc, Nat.add_comm 1 m] using lanes (m + 1) (by omega))
        (fun m hm => by simpa [Nat.add_assoc, Nat.add_comm 1 m] using office (m + 1) (by omega))
    have skipped : s.rotate (n + 1 + k) i = s.rotate (n + k) (i + 1) := by
      rw [Nat.add_right_comm, State.rotate_succ]
      by_cases last : i % 5 = 4
      · rw [if_pos last, office 0 (by omega) last]
        rfl
      · have passed : s.laneEligible (i % 5) = false := by simpa using lanes 0 (by omega) (by omega)
        rw [if_neg last, passed]
        rfl
    rw [skipped, rest, Nat.add_assoc, Nat.add_comm 1 n]

/-- With no expiry to take a free Card Ledger takes the first of the rotation. -/
theorem State.pick_rotate {s : State} (unwarned : s.pfw = false) (unformatted : s.ledger.formatting = false)
    (unclosed : s.ledger.closeOutstanding = false) (noExpiry : s.waiting = [] ∨ s.canReserve .general 1 = false) :
    s.pick = s.rotate 5 s.ledger.top := by
  obtain none_ | noRoom := noExpiry <;> simp [State.pick, State.cardLedgerFree, *]

/-! ### Who is eligible -/

/-- The head a queue offers is its first WAITING entry. -/
theorem firstWaiting_eq_some_iff (q : List LaneEntry) (e : LaneEntry) :
    firstWaiting q = some e ↔
      ∃ before older, q = before ++ e :: older ∧ e.stage = .waiting ∧ ∀ x ∈ before, x.stage ≠ .waiting := by
  induction q with
  | nil => simp [firstWaiting]
  | cons x xs ih =>
    by_cases waits : x.stage = .waiting
    · simp only [firstWaiting, waits, if_true, Option.some.injEq]
      constructor
      · rintro rfl
        exact ⟨[], xs, rfl, waits, by simp⟩
      · rintro ⟨before, older, split, -, others⟩
        cases before with
        | nil => exact (List.cons.inj split).1
        | cons y ys =>
          obtain ⟨rfl, -⟩ := List.cons.inj split
          exact absurd waits (others x (by simp))
    · simp only [firstWaiting, waits, if_false, ih]
      constructor
      · rintro ⟨before, older, rfl, rest⟩
        exact ⟨x :: before, older, rfl, rest.1, by simpa [waits] using rest.2⟩
      · rintro ⟨before, older, split, waiting, others⟩
        cases before with
        | nil =>
          obtain ⟨rfl, -⟩ := List.cons.inj split
          exact absurd waiting waits
        | cons y ys =>
          obtain ⟨rfl, rfl⟩ := List.cons.inj split
          exact ⟨ys, older, rfl, waiting, fun z hz => others z (List.mem_cons_of_mem _ hz)⟩

/-- The kinds that can post an accrual, as bytes. -/
theorem laneKindPosts_iff (kind : Byte) :
    laneKindPosts kind = true ↔ kind ∈ [0x10#8, 0x11, 0x14, 0x16, 0x17, 0x18] := by
  simp only [laneKindPosts, List.contains_iff_mem, List.mem_cons, List.not_mem_nil, or_false, ← BitVec.toNat_inj]
  rfl

theorem State.laneEligible_iff (s : State) (l : Nat) : s.laneEligible l = true ↔
    ∃ e, s.laneHead l = some e ∧ (laneKindPosts e.kind = true → s.settle.accruals.length < 16) := by
  unfold State.laneEligible
  cases s.laneHead l with
  | none => simp
  | some e => cases posts : laneKindPosts e.kind <;> simp [posts, State.accrualFree]

/-- A well-formed request in flight, by its kind. -/
theorem State.officeBody_eq_some_iff (s : State) (kind : Nat) (b : List Byte) : s.officeBody kind = some b ↔
    ∃ f, s.officeRequest = some f ∧ f.kind.toNat = kind ∧ officeWellFormed f = true ∧ f.body = b := by
  refine ⟨State.officeBody_spec, ?_⟩
  rintro ⟨f, request, is, formed, rfl⟩
  simp [State.officeBody, request, is, formed]

theorem State.officeEligible_iff (s : State) : s.officeEligible = true ↔
    ∃ kind b, s.officeBody kind = some b ∧ kind ∈ [0x40, 0x41, 0x42, 0x43, 0x48, 0x49, 0x4A, 0x4B, 0x4C, 0x4D, 0x4E] ∧
      (kind = 0x41 ∨ kind = 0x4B → s.settle.accruals.length < 16 ∨ s.canReserve .general 1 = false) := by
  have posts : ∀ f : Frame, officeKindPosts f.kind = true ↔ f.kind.toNat = 0x41 ∨ f.kind.toNat = 0x4B := by
    intro f
    simp [officeKindPosts]
  simp only [State.officeBody_eq_some_iff]
  unfold State.officeEligible State.officeCard
  cases request : s.officeRequest with
  | none => simp
  | some f =>
    by_cases card : officeWellFormed f = true ∧ officeCardKind f.kind = true
    · obtain ⟨formed, kind⟩ := card
      have listed := List.contains_iff_mem.mp kind
      simp only [formed, kind, Bool.and_true, if_true, Bool.or_eq_true, Bool.not_eq_true', State.accrualFree, decide_eq_true_eq,
        ← Bool.not_eq_true, posts]
      constructor
      · intro eligible
        exact ⟨_, _, ⟨f, rfl, rfl, formed, rfl⟩, listed, fun h => by tauto⟩
      · rintro ⟨_, _, ⟨_, ⟨⟩, rfl, -, -⟩, -, eligible⟩
        tauto
    · simp only [Bool.and_eq_true, card, if_false]
      constructor
      · intro no
        cases no
      · rintro ⟨_, _, ⟨_, ⟨⟩, rfl, formed, -⟩, listed, -⟩
        exact absurd ⟨formed, List.contains_iff_mem.mpr listed⟩ card

/-! ### The Settlement Unit -/

theorem State.requestWaits_iff (s : State) : s.requestWaits = true ↔
    ∃ kind b, s.officeBody kind = some b ∧
      (kind ∈ [0x44, 0x50, 0x52, 0x53] ∨ (kind = 0x51 ∧ s.office.latch = none)) := by
  simp only [State.officeBody_eq_some_iff]
  unfold State.requestWaits
  cases request : s.officeRequest with
  | none => simp
  | some f =>
    simp only [Bool.and_eq_true, Bool.or_eq_true, List.contains_iff_mem, decide_eq_true_eq, Option.isNone_iff_eq_none]
    constructor
    · rintro ⟨formed, kinds⟩
      exact ⟨_, _, ⟨f, rfl, rfl, formed, rfl⟩, kinds⟩
    · rintro ⟨_, _, ⟨_, ⟨⟩, rfl, formed, rfl⟩, kinds⟩
      exact ⟨formed, kinds⟩

theorem State.canReserve_iff (s : State) (cls : ResClass) (n : Nat) : s.canReserve cls n = true ↔
    s.pfw = false ∧ s.store.signature = true ∧
      s.store.nextToWrite - s.store.oldestUnack + s.journal.reserved + n ≤ (if cls = .general then 16336 else 16384) ∧
      s.store.nextToWrite + s.journal.reserved + n ≤ 4294967296 := by
  cases signed : s.store.signature with
  | false => simp [State.canReserve, signed]
  | true =>
    cases cls <;> simp [State.canReserve, signed, State.unack, State.nextWrite, State.oldest, State.numberingSpent, ResClass.limit,
      and_assoc]

theorem State.behind_iff (s : State) (k : Nat) : s.behind k = true ↔ (s.shop k).bank.period < s.settle.period := by
  simp [State.behind]

theorem State.effectBehind_iff (s : State) (e : Effect) :
    s.effectBehind e = true ↔ ∃ k, e.shop = some k ∧ (s.shop k).bank.period < s.settle.period := by
  unfold State.effectBehind
  cases e.shop <;> simp [State.behind]

theorem State.accrualReady_iff (s : State) : s.accrualReady = true ↔
    (∃ period rest, s.settle.accruals = .close period :: rest) ∨
    (∃ e period source rest, s.settle.accruals = .money e period source :: rest ∧
      ((∃ k, e.shop = some k ∧ (s.shop k).bank.period < s.settle.period) → s.canReserve .general 1 = true)) := by
  simp only [← State.effectBehind_iff]
  unfold State.accrualReady
  cases s.settle.accruals with
  | nil => simp
  | cons a rest =>
    cases a with
    | close period => simp
    | money e period source => cases behind : s.effectBehind e <;> simp [behind]

/-- The slot found by a tag is the lowest FILLED with it. -/
theorem State.slotOfTag_eq_some_iff (s : State) (tag k : Nat) : s.slotOfTag tag = some k ↔ ∃ p, filledFirst s k tag p := by
  rw [State.slotOfTag, firstFrom_eq_some_iff]
  constructor
  · rintro ⟨-, high, found, lowest⟩
    split at found
    · next p filled =>
      refine ⟨p, Nat.le_of_lt_succ (by simpa using high), filled, of_decide_eq_true found, fun j q hj slot => ?_⟩
      simpa [slot] using lowest j (Nat.zero_le j) hj
    · cases found
  · rintro ⟨p, low, filled, tagged, lowest⟩
    refine ⟨Nat.zero_le k, by simpa using Nat.lt_succ_of_le low, by simp [filled, tagged], fun j _ hj => ?_⟩
    cases slot : s.slot j with
    | filled q => simpa using lowest j q hj slot
    | _ => rfl

theorem State.slotOfTag_eq_none_iff (s : State) (tag : Nat) : s.slotOfTag tag = none ↔ notFilled s tag := by
  constructor
  · intro none_ j q hj slot
    simpa [slot] using firstFrom_none _ _ _ none_ j (Nat.zero_le j) (by simpa using Nat.lt_succ_of_le hj)
  · intro none_
    cases found : s.slotOfTag tag with
    | none => rfl
    | some k =>
      obtain ⟨p, low, filled, tagged, -⟩ := (s.slotOfTag_eq_some_iff tag k).mp found
      exact absurd tagged (none_ k p low filled)

theorem State.matchAnswer_eq_inWindow_iff (s : State) (tag shop period k : Nat) :
    s.matchAnswer tag shop period = .inWindow k ↔
      s.store.signature = true ∧ ∃ p, filledFirst s k tag p ∧ p.shop = shop ∧ p.period = period := by
  unfold State.matchAnswer
  cases signed : s.store.signature with
  | false => simp
  | true =>
    cases found : s.slotOfTag tag with
    | none =>
      have none_ := (s.slotOfTag_eq_none_iff tag).mp found
      simp only [Bool.true_eq_false, if_false, true_and]
      constructor
      · intro h
        split at h <;> cases h
      · rintro ⟨p, ⟨low, filled, tagged, -⟩, -⟩
        exact absurd tagged (none_ k p low filled)
    | some j =>
      obtain ⟨p, first⟩ := (s.slotOfTag_eq_some_iff tag j).mp found
      have filled : s.slot j = .filled p := first.2.1
      simp only [Bool.true_eq_false, if_false, filled, true_and]
      constructor
      · intro h
        split at h
        · next same =>
          cases h
          exact ⟨p, first, same⟩
        · cases h
      · rintro ⟨q, other, same⟩
        obtain rfl : j = k := Option.some.inj (found.symm.trans ((s.slotOfTag_eq_some_iff tag k).mpr ⟨q, other⟩))
        obtain rfl : p = q := Slot.filled.inj (filled.symm.trans other.2.1)
        rw [if_pos same]

theorem State.matchAnswer_eq_late_iff (s : State) (tag shop period : Nat) :
    s.matchAnswer tag shop period = .late ↔
      s.store.signature = true ∧ notFilled s tag ∧ (s.shop shop).closing.state = .inDoubt ∧
        (s.shop shop).closing.period = period ∧ (s.shop shop).closing.tag = some tag := by
  unfold State.matchAnswer
  rw [← State.slotOfTag_eq_none_iff]
  cases signed : s.store.signature with
  | false => simp
  | true =>
    cases found : s.slotOfTag tag with
    | none => simp
    | some j =>
      obtain ⟨p, first⟩ := (s.slotOfTag_eq_some_iff tag j).mp found
      have filled : s.slot j = .filled p := first.2.1
      by_cases same : p.shop = shop ∧ p.period = period <;> simp [filled, same]

/-- An answer commits exactly when it is not stray. -/
theorem State.matchAnswer_ne_stray_iff (s : State) (tag shop period : Nat) :
    s.matchAnswer tag shop period ≠ .stray ↔ answerMatches s tag shop period := by
  have window := s.matchAnswer_eq_inWindow_iff tag shop period
  have late := s.matchAnswer_eq_late_iff tag shop period
  unfold answerMatches
  cases how : s.matchAnswer tag shop period with
  | inWindow k =>
    obtain ⟨signed, p, found⟩ := (window k).mp how
    simp only [ne_eq, reduceCtorEq, not_false_eq_true, true_iff]
    exact ⟨signed, .inl ⟨k, p, found⟩⟩
  | late =>
    obtain ⟨signed, found⟩ := late.mp how
    simp only [ne_eq, reduceCtorEq, not_false_eq_true, true_iff]
    exact ⟨signed, .inr found⟩
  | stray =>
    simp only [ne_eq, not_true_eq_false, false_iff]
    rintro ⟨signed, ⟨k, p, found⟩ | found⟩
    · cases how.symm.trans ((window k).mpr ⟨signed, p, found⟩)
    · cases how.symm.trans (late.mpr ⟨signed, found⟩)

theorem State.holdsTag_iff (s : State) (k tag : Nat) : s.holdsTag k tag = true ↔ ∃ p, s.slot k = .filled p ∧ p.tag = tag := by
  unfold State.holdsTag
  cases slot : s.slot k <;> simp

theorem State.answerReady_iff (s : State) : s.answerReady = true ↔
    (∃ tag shop period rest,
      (s.settle.answers = .done tag shop period :: rest ∨ ∃ reason, s.settle.answers = .back tag shop period reason :: rest) ∧
      (answerMatches s tag shop period → s.canReserve .whole 1 = true)) ∨
    (∃ k tag rest, s.settle.answers = .deadline k tag :: rest ∧
      ((∃ p, s.slot k = .filled p ∧ p.tag = tag) → s.canReserve .whole 1 = true)) := by
  simp only [← State.matchAnswer_ne_stray_iff, ← State.holdsTag_iff]
  unfold State.answerReady
  cases s.settle.answers with
  | nil => simp
  | cons a rest =>
    cases a with
    | done tag shop period => by_cases stray : s.matchAnswer tag shop period = .stray <;> simp [stray]
    | back tag shop period reason => by_cases stray : s.matchAnswer tag shop period = .stray <;> simp [stray]
    | deadline k tag => cases held : s.holdsTag k tag <;> simp [held]

theorem State.sweepEligible_iff (s : State) :
    s.sweepEligible = true ↔ 0 < s.settle.unrolled ∧ s.canReserve .general 1 = true := by
  simp [State.sweepEligible]

/-- Behind the accruals and the payout answers come class 3 and the sweep. -/
theorem State.nextWork_classThree {s : State} (unwarned : s.pfw = false) (running : s.ledger.mode ≠ .recovering)
    (notDue : s.settle.wait < 8 ∨ s.sweepEligible = false) (accrual : s.accrualReady = false) (answer : s.answerReady = false) :
    s.nextWork = s.classThree.or (if s.sweepEligible = true then some .sweep else none) := by
  have notFirst : (decide (8 ≤ s.settle.wait) && s.sweepEligible) = false := by
    obtain below | notEligible := notDue
    · simp [Nat.not_le.mpr below]
    · simp [notEligible]
  cases class3 : s.classThree <;> simp [State.nextWork, unwarned, running, notFirst, accrual, answer, class3]

/-- Settles O26: the rotation by `State.rotate_skip`, the order of service by its branches, eligibility by its equivalences. -/
theorem workIsTakenInTheStatedOrder : Obligations.WorkIsTakenInTheStatedOrder := by
  refine ⟨fun s unwarned unformatted unclosed => ⟨fun waiting room => ?_, fun noExpiry => ⟨fun n l hn hl low eligible lanes office => ?_,
      fun n hn last eligible lanes => ?_, fun lanes office => ?_⟩⟩,
    fun s busy => ?_, fun s unwarned running => ⟨fun due sweep => ?_, fun notDue => ⟨fun accrual => ?_, fun accrual answer => ?_,
      fun accrual answer => ⟨fun visits turn => ?_, fun request turn => ?_, fun visits request => ?_⟩⟩⟩, fun s stopped => ?_,
    fun s l => ?_, State.officeEligible_iff, State.accrualReady_iff, State.answerReady_iff, State.requestWaits_iff,
    State.sweepEligible_iff, State.canReserve_iff⟩
  · simp [State.pick, State.cardLedgerFree, unwarned, unformatted, unclosed, waiting, room]
  · rw [State.pick_rotate unwarned unformatted unclosed noExpiry, show 5 = n + (4 - n + 1) by omega,
      State.rotate_skip s _ n _ lanes office, State.rotate_succ, ← hl, if_neg (by omega), eligible]
    rfl
  · rw [State.pick_rotate unwarned unformatted unclosed noExpiry, show 5 = n + (4 - n + 1) by omega,
      State.rotate_skip s _ n _ (fun m hm _ => lanes m hm) (fun m hm again => by omega), State.rotate_succ, if_pos last, eligible]
    rfl
  · rw [State.pick_rotate unwarned unformatted unclosed noExpiry, show 5 = 5 + 0 by omega,
      State.rotate_skip s _ 5 _ (fun m _ low => lanes _ low) (fun m _ _ => office)]
    rfl
  · obtain warned | formatting | closing := busy <;> simp [State.pick, State.cardLedgerFree, *]
  · simp [State.nextWork, unwarned, running, due, sweep]
  · obtain below | notEligible := notDue
    · simp [State.nextWork, unwarned, running, Nat.not_le.mpr below, accrual]
    · simp [State.nextWork, unwarned, running, notEligible, accrual]
  · obtain below | notEligible := notDue
    · simp [State.nextWork, unwarned, running, Nat.not_le.mpr below, accrual, answer]
    · simp [State.nextWork, unwarned, running, notEligible, accrual, answer]
  · rw [State.nextWork_classThree unwarned running notDue accrual answer]
    obtain ⟨v, rest, list⟩ := List.exists_cons_of_ne_nil visits
    cases waits : s.requestWaits <;> simp_all [State.classThree]
  · rw [State.nextWork_classThree unwarned running notDue accrual answer]
    cases visits : s.settle.visits <;> simp_all [State.classThree]
  · rw [State.nextWork_classThree unwarned running notDue accrual answer]
    simp [State.classThree, visits, request]
  · obtain warned | recovering := stopped <;> simp [State.nextWork, *]
  · rw [State.laneEligible_iff]
    simp only [State.laneHead, firstWaiting_eq_some_iff, laneKindPosts_iff]
    constructor
    · rintro ⟨e, ⟨before, older, split, waiting, others⟩, room⟩
      exact ⟨before, older, e, split, waiting, others, room⟩
    · rintro ⟨before, older, e, split, waiting, others, room⟩
      exact ⟨e, ⟨before, older, split, waiting, others⟩, room⟩

end Sys2Proof.Machine
end

section
/-! PROOFS. The roll, the sweep, the accruals and the close (chapters 6 and 7). -/

namespace Sys2Proof.Machine

/-! ### What is at its turn -/

/-- A piece of work at its turn is eligible. -/
theorem State.nextWork_ready {s : State} {w : Work} (h : s.nextWork = some w) :
    (w = .accrual → s.accrualReady = true) ∧ (w = .answer → s.answerReady = true) ∧ (w = .visit → s.settle.visits ≠ []) ∧
      (w = .request → s.requestWaits = true) ∧ (w = .sweep → s.sweepEligible = true) := by
  obtain ⟨unwarned, running⟩ := State.nextWork_spec h
  by_cases due : 8 ≤ s.settle.wait ∧ s.sweepEligible = true
  · obtain rfl : .sweep = w := by simpa [State.nextWork, unwarned, running, due] using h
    simp [due]
  have notDue : s.settle.wait < 8 ∨ s.sweepEligible = false := by
    obtain low | no := not_and_or.mp due
    · exact .inl (Nat.not_le.mp low)
    · exact .inr (Bool.eq_false_iff.mpr no)
  cases accrual : s.accrualReady with
  | true =>
    have first : (decide (8 ≤ s.settle.wait) && s.sweepEligible) = false := by simpa using due
    obtain rfl : .accrual = w := by simpa [State.nextWork, unwarned, running, first, accrual] using h
    simp
  | false =>
    cases answer : s.answerReady with
    | true =>
      have first : (decide (8 ≤ s.settle.wait) && s.sweepEligible) = false := by simpa using due
      obtain rfl : .answer = w := by simpa [State.nextWork, unwarned, running, first, accrual, answer] using h
      simp
    | false =>
      rw [State.nextWork_classThree unwarned running notDue accrual answer] at h
      cases visits : s.settle.visits <;> cases waits : s.requestWaits <;> cases higher : s.settle.visitsHigher <;>
        cases sweep : s.sweepEligible <;> simp [State.classThree, visits, waits, higher, sweep] at h <;> simp [← h]

/-! ### The stages of a roll (R119 to R125) -/

/-- The net of the roll of a record: the carry with the amount folded, the period's flows, less the commission. -/
def rollNet (r : ShopRecord) : Int :=
  netOf r.bank (r.carry + foldedOf r.closing) (commissionOf (r.bank.q + r.remainder))

/-- The part of a record and its entry that no case of R122 decides. -/
theorem rollOf_fixed (k : Nat) (r : ShopRecord) (house : Bool) (payoutMin now : Nat) :
    let d := disposition house r.office payoutMin (rollNet r)
    (rollOf k r house payoutMin now).shop =
      { office := if (satCarry d.2.2).2 then .frozen else r.office, debtLimit := r.debtLimit,
        debtBar := decide ((satCarry d.2.2).1 < -(r.debtLimit : Int)), sat := r.sat || (satCarry d.2.2).2,
        bank := { period := now, g := 0, f := 0, s := 0, x := 0, q := 0 },
        remainder := (remainderOf (r.bank.q + r.remainder)).toNat, carry := (satCarry d.2.2).1,
        missed := missedAfter r.missed r.closing,
        closing := { period := r.bank.period, net := rollNet r, commission := commissionOf (r.bank.q + r.remainder),
                     state := d.1, amount := d.2.1, tag := none } } ∧
    (rollOf k r house payoutMin now).clamped = (satCarry d.2.2).2 ∧
    (rollOf k r house payoutMin now).entry.clamped = d.2.2 - (satCarry d.2.2).1 := ⟨rfl, rfl, rfl⟩

theorem disposition_house (office : OfficeState) (payoutMin : Nat) (n : Int) :
    disposition true office payoutMin n = (.house, 0, 0) := rfl

theorem disposition_owed {office : OfficeState} {payoutMin : Nat} {n : Int} (thawed : office ≠ .frozen) (above : 0 < n)
    (enough : (payoutMin : Int) ≤ n ∨ office = .departed) : disposition false office payoutMin n = (.owed, n.toNat, 0) := by
  simp [disposition, thawed, above, enough]

theorem disposition_carried {office : OfficeState} {payoutMin : Nat} {n : Int}
    (kept : office = .frozen ∨ n ≤ 0 ∨ (n < payoutMin ∧ office ≠ .departed)) :
    disposition false office payoutMin n = (.carried, 0, n) := by
  by_cases frozen : office = .frozen
  · simp [disposition, frozen]
  · have notOwed : ¬(0 < n ∧ ((payoutMin : Int) ≤ n ∨ office = .departed)) := by
      obtain h | h | ⟨h1, h2⟩ := kept
      · exact absurd h frozen
      · exact fun both => absurd both.1 (not_lt.mpr h)
      · exact fun both => both.2.elim (fun le => absurd le (not_le.mpr h1)) h2
    simp only [disposition, frozen, notOwed, Bool.false_eq_true, if_false]

/-- One of the three cases of R122 applies. -/
theorem disposition_cases (house : Bool) (office : OfficeState) (payoutMin : Nat) (n : Int) :
    (house = true ∧ disposition house office payoutMin n = (.house, 0, 0)) ∨
    (house = false ∧ (office ≠ .frozen ∧ 0 < n ∧ ((payoutMin : Int) ≤ n ∨ office = .departed)) ∧
      disposition house office payoutMin n = (.owed, n.toNat, 0)) ∨
    (house = false ∧ (office = .frozen ∨ n ≤ 0 ∨ (n < payoutMin ∧ office ≠ .departed)) ∧
      disposition house office payoutMin n = (.carried, 0, n)) := by
  cases house with
  | true => exact .inl ⟨rfl, rfl⟩
  | false =>
    by_cases kept : office = .frozen ∨ n ≤ 0 ∨ (n < payoutMin ∧ office ≠ .departed)
    · exact .inr (.inr ⟨rfl, kept, disposition_carried kept⟩)
    · simp only [not_or, not_le, not_and, not_not] at kept
      obtain ⟨thawed, above, enough⟩ := kept
      have owed : (payoutMin : Int) ≤ n ∨ office = .departed := by
        by_cases le : (payoutMin : Int) ≤ n
        · exact .inl le
        · exact .inr (enough (not_le.mp le))
      exact .inr (.inl ⟨rfl, ⟨thawed, above, owed⟩, disposition_owed thawed above owed⟩)

/-- The carry is clamped exactly when it changes. -/
theorem satCarry_clamps (c : Int) : (satCarry c).2 = true ↔ (satCarry c).1 ≠ c := by
  rw [satCarry_eq]
  simp only [Bool.or_eq_true, decide_eq_true_eq]
  omega

theorem satCarry_zero : satCarry 0 = (0, false) := rfl

/-- Settles O28: the record and entry by `rollOf_fixed`, the rest by the three cases of R122. -/
theorem theRollFollowsItsStages : Obligations.TheRollFollowsItsStages := by
  rintro k r house payoutMin now folded K N t rfl rfl rfl rfl
  obtain ⟨shop, clamped, entryClamped⟩ := rollOf_fixed k r house payoutMin now
  have net : r.carry + ((if r.closing.state = .owed then r.closing.amount else 0 : Nat) : Int) + r.bank.g - r.bank.f + r.bank.x -
      r.bank.s - (rollOf k r house payoutMin now).entry.commission = rollNet r := rfl
  have entry : (rollOf k r house payoutMin now).entry =
      { shop := k, period := r.bank.period, g := r.bank.g, f := r.bank.f, s := r.bank.s, x := r.bank.x, q := r.bank.q,
        q0 := r.remainder, q1 := (rollOf k r house payoutMin now).shop.remainder, carryBefore := r.carry,
        folded := if r.closing.state = .owed then r.closing.amount else 0,
        commission := (rollOf k r house payoutMin now).entry.commission, net := rollNet r,
        state := (rollOf k r house payoutMin now).shop.closing.state,
        amount := (rollOf k r house payoutMin now).shop.closing.amount, carryAfter := (rollOf k r house payoutMin now).shop.carry,
        clamped := (rollOf k r house payoutMin now).entry.clamped,
        office := r.office, debtLimit := r.debtLimit, debtBar := (rollOf k r house payoutMin now).shop.debtBar,
        sat := (rollOf k r house payoutMin now).shop.sat, missed := (rollOf k r house payoutMin now).shop.missed } := rfl
  have commission : (rollOf k r house payoutMin now).entry.commission = commissionOf (r.bank.q + r.remainder) := rfl
  rw [net]
  generalize (rollOf k r house payoutMin now).entry.clamped = lost at entry entryClamped
  rw [entry]
  rw [shop, clamped]
  obtain ⟨rfl, d⟩ | ⟨rfl, owed, d⟩ | ⟨rfl, kept, d⟩ := disposition_cases house r.office payoutMin (rollNet r)
  · simp only [d, satCarry_zero] at entryClamped ⊢
    simp [entryClamped, missedAfter, commission]
  · have notKept : ¬(r.office = .frozen ∨ rollNet r ≤ 0 ∨ (rollNet r < payoutMin ∧ r.office ≠ .departed)) := by
      obtain ⟨thawed, above, enough⟩ := owed
      rintro (h | h | ⟨h1, h2⟩)
      · exact thawed h
      · omega
      · exact enough.elim (fun h => by omega) h2
    simp only [d, satCarry_zero] at entryClamped ⊢
    simp [entryClamped, missedAfter, commission, notKept, owed.2.1.le]
  · have notOwed : r.office ≠ .frozen → 0 < rollNet r → ¬((payoutMin : Int) ≤ rollNet r ∨ r.office = .departed) := by
      rintro thawed above enough
      obtain h | h | ⟨h1, h2⟩ := kept
      · exact thawed h
      · omega
      · exact enough.elim (fun h => by omega) h2
    have value : (satCarry (rollNet r)).1 = max (-140737488355327) (min 140737488355327 (rollNet r)) := by rw [satCarry_eq]
    have clamps := satCarry_clamps (rollNet r)
    simp only [d] at entryClamped ⊢
    generalize satCarry (rollNet r) = c at entryClamped value clamps ⊢
    obtain ⟨carry, full⟩ := c
    cases full with
    | false =>
      have whole : carry = rollNet r := by simpa using clamps
      subst whole
      simp at value
      simp [entryClamped, missedAfter, commission, ← value]
      exact fun thawed above => by simpa only [not_or, not_le] using notOwed thawed above
    | true =>
      have part : carry ≠ rollNet r := by simpa using clamps
      simp [entryClamped, missedAfter, commission, ← value]
      exact ⟨fun thawed above => by simpa only [not_or, not_le] using notOwed thawed above, fun _ same => absurd same part, part⟩

/-- Settles O29: the net is what the three closing states make of it. -/
theorem theRollConservesMoney : Obligations.TheRollConservesMoney := by
  intro k r house payoutMin now
  obtain ⟨shop, -, entryClamped⟩ := rollOf_fixed k r house payoutMin now
  rw [shop, entryClamped]
  have folded : ((foldedOf r.closing : Nat) : Int) = if r.closing.state = .owed then (r.closing.amount : Int) else 0 := by
    unfold foldedOf
    split <;> rfl
  have net : rollNet r = r.carry + (foldedOf r.closing : Int) + r.bank.g - r.bank.f + r.bank.x - r.bank.s -
    commissionOf (r.bank.q + r.remainder) := rfl
  rw [← folded]
  obtain ⟨rfl, d⟩ | ⟨rfl, owed, d⟩ | ⟨rfl, kept, d⟩ := disposition_cases house r.office payoutMin (rollNet r)
  · simp only [d, satCarry_zero, reduceCtorEq, if_true, if_false]
    omega
  · simp only [d, satCarry_zero, Bool.false_eq_true, if_true, if_false]
    omega
  · simp only [d, reduceCtorEq, Bool.false_eq_true, if_false]
    omega

/-! ### One committed roll -/

/-- From state s, of n reservations one is used by the roll of shop k: the shop and house records, one entry, the unrolled count and
the attentions; nothing else (R111, R118, R125, R135, R181). -/
structure RollMade (s m : State) (k n : Nat) : Prop where
  shop : shopWritten s m k (s.rollFor k).shop
  house : m.store.houseRec =
    houseAfter s.store.houseRec (s.store.house.has k) (s.rollFor k).entry.commission (s.rollFor k).entry.net
  entry : entryJoins { s with journal.reserved := s.journal.reserved + (n - 1) } m s.settle.period (.roll (s.rollFor k).entry)
  marks : marksFollow s m n 1
  settle : m.settle = { s.settle with unrolled := s.settle.unrolled - 1 }
  fault : settleFault s m (rollFull s k)
  raises : onlyRaises s m [1, 4, 5]
  channels : m.channels = s.channels
  plu : m.plu = s.plu
  nextTag : m.store.nextTag = s.store.nextTag
  frame : settleFrame s m

/-- What a saturation of a roll raises is what the statements name. -/
theorem rollFull_eq (s : State) (k : Nat) :
    ((s.rollFor k).clamped ||
      (s.store.houseRec.afterRoll (s.store.house.has k) (s.rollFor k).entry.commission (s.rollFor k).entry.net).2) =
      rollFull s k := by
  unfold rollFull HouseRecord.afterRoll houseIntFull
  simp only [satHouseInt_eq]
  cases s.store.house.has k <;> simp [Bool.or_assoc]

/-- SETTLE_FAULT after a committed roll. -/
theorem State.commitRoll_fault (s : State) (k : Nat) : settleFault s (s.commitRoll k) (rollFull s k) := by
  unfold settleFault State.commitRoll
  dsimp only
  rw [rollFull_eq]
  have kept := (State.append_raises { s.setShop k (s.rollFor k).shop with
    store.houseRec := (s.store.houseRec.afterRoll (s.store.house.has k) (s.rollFor k).entry.commission
      (s.rollFor k).entry.net).1,
    settle.unrolled := s.settle.unrolled - 1 } s.settle.period (.roll (s.rollFor k).entry) 1).2 (by decide)
  cases rollFull s k
  · rw [State.raiseIf_false, kept, Bool.or_false]
    rfl
  · rw [State.raiseIf_true, State.raise_flag, kept]
    rfl

theorem rollMade_of_reserve {s s1 : State} {n : Nat} (granted : s.reserve .general n = some s1) (pos : 0 < n) (k : Nat) :
    RollMade s (s1.commitRoll k) k n := by
  obtain ⟨shop, house, entry, settle, -, raises, channels, plu, nextTag, frame⟩ := s1.commitRoll_spec k
  have fault := s1.commitRoll_fault k
  have marks := marksFollow_grant granted (s1.commitRoll_marks k)
  have grantRaises : onlyRaises s s1 [1, 4, 5] := by
    obtain ⟨-, none_⟩ | ⟨-, t, found, -, only⟩ := s.reserve_spec .general n
    · simp [none_] at granted
    · obtain rfl : t = s1 := by simpa [found] using granted
      exact onlyRaises_mono only (by simp)
  have sameRoll : s1.rollFor k = s.rollFor k := State.reserve_rollFor granted k
  have sameFull : rollFull s1 k = rollFull s k := by
    unfold rollFull
    rw [sameRoll, (State.reserve_eq granted).2]
    cases fullRaised s n <;> rfl
  rw [sameRoll] at shop house entry
  rw [sameFull] at fault
  generalize s1.commitRoll k = m at *
  have faultKept : s1.attn.pending.getLsbD 1 = s.attn.pending.getLsbD 1 := by
    obtain ⟨-, none_⟩ | ⟨-, t, found, -, only⟩ := s.reserve_spec .general n
    · simp [none_] at granted
    · obtain rfl : t = s1 := by simpa [found] using granted
      exact (only 1).2 (by decide)
  have reserved : s.journal.reserved + n - 1 = s.journal.reserved + (n - 1) := Nat.add_sub_assoc pos _
  obtain ⟨-, s1Eq⟩ := State.reserve_eq granted
  generalize fullRaised s n = full at s1Eq
  refine ⟨?_, ?_, ?_, marks, ?_, ?_, onlyRaises_trans grantRaises raises, ?_, ?_, ?_, ?_⟩
  · subst s1Eq
    cases full <;> exact shop
  · subst s1Eq
    cases full <;> exact house
  · subst s1Eq
    cases full <;> simpa [entryJoins, pointersPass, reserved] using entry
  · subst s1Eq
    cases full <;> exact settle
  · rw [settleFault, ← faultKept]
    exact fault
  · subst s1Eq
    cases full <;> exact channels
  · subst s1Eq
    cases full <;> exact plu
  · subst s1Eq
    cases full <;> exact nextTag
  · subst s1Eq
    cases full <;> exact (congrArg (fun x : State => { x with attn.pending := s.attn.pending, journal := s.journal }) frame :)

/-- One reservation is used up: exactly one entry joins. -/
theorem RollMade.oneEntry {s m : State} {k : Nat} (h : RollMade s m k 1) :
    oneEntry s m s.settle.period (.roll (s.rollFor k).entry) := ⟨h.entry, h.marks⟩

/-! ### The sweep -/

/-- Settles O30: the search finds the shop, the reservation is the eligibility's, the roll is `RollMade`. -/
theorem theSweepRollsTheLowestShopBehind : Obligations.TheSweepRollsTheLowestShopBehind := by
  intro s k turn low high behind lowest
  obtain ⟨-, room⟩ := (s.sweepEligible_iff).mp ((State.nextWork_ready turn).2.2.2.2 rfl)
  obtain ⟨s1, granted⟩ := State.reserve_of_canReserve room
  have found : s.sweepShop = some k := by
    refine (firstFrom_eq_some_iff _ _ _ _).mpr ⟨low, ?_, (s.behind_iff k).mpr behind, fun j hj hk => ?_⟩
    · change k < s.settle.cursor + (512 - s.settle.cursor)
      omega
    · exact decide_eq_false (Nat.not_lt.mpr (lowest j hj hk))
  have run : exec .rollSweep s = .next { s1.commitRoll k with settle.cursor := k + 1, settle.wait := 0 } := by
    simp [exec, execRollSweep, turn, found, granted]
  have made := rollMade_of_reserve granted (by decide) k
  generalize s1.commitRoll k = m at run made
  refine ⟨_, run, made.shop, made.house, made.oneEntry, ?_, made.fault, made.raises, made.channels, made.plu, made.nextTag,
    made.frame⟩
  change { m.settle with cursor := k + 1, wait := 0 } = _
  rw [made.settle]

/-! ### Accruals -/

/-- The state in which the head accrual is applied: the wait count noted (R137). -/
theorem noteWork_rollFor (s : State) (k : Nat) : s.noteWork.rollFor k = s.rollFor k := by
  rw [State.noteWork_eq]
  rfl

theorem State.rollForEffect_current {s : State} {e : Effect} (current : s.effectBehind e = false) : s.rollForEffect e = some s := by
  unfold State.effectBehind at current
  unfold State.rollForEffect
  cases shop : e.shop with
  | none => rfl
  | some k =>
    rw [shop] at current
    simp only at current
    simp [State.rollIfBehind, current]

theorem State.rollForEffect_behind {s s1 : State} {e : Effect} {k : Nat} (shop : e.shop = some k) (behind : s.behind k = true)
    (granted : s.reserve .general 1 = some s1) : s.rollForEffect e = some (s1.commitRoll k) := by
  simp [State.rollForEffect, shop, State.rollIfBehind, behind, granted]

/-- ACCRUAL_APPLY of the head accrual once its shop is current. -/
theorem exec_accrualApply {s s1 : State} {e : Effect} {period source : Nat} {rest : List Accrual}
    (turn : s.nextWork = some .accrual) (queue : s.settle.accruals = .money e period source :: rest)
    (rolled : s.noteWork.rollForEffect e = some s1) :
    exec .accrualApply s = .next (s1.applyEffect e source).dropAccrual := by
  simp [exec, execAccrualApply, turn, queue, rolled]

/-- A raise of SETTLE_FAULT that a saturation causes. -/
theorem settleFault_raiseIf (s : State) (full : Bool) : settleFault s (s.raiseIf full .settleFault) full := by
  unfold settleFault
  cases full
  · simp
  · rw [State.raiseIf_true, State.raise_flag]
    rfl

/-- The journal of a state and its two attentions. -/
structure JournalKept (s t : State) : Prop where
  ring : t.store.ring = s.store.ring
  next : t.store.nextToWrite = s.store.nextToWrite
  oldest : t.store.oldestUnack = s.store.oldestUnack
  chip : t.journal = s.journal
  signed : t.store.signature = s.store.signature
  full : t.attn.pending.getLsbD 4 = s.attn.pending.getLsbD 4
  high : t.attn.pending.getLsbD 5 = s.attn.pending.getLsbD 5

/-- What keeps the journal behind an entry keeps the entry. -/
theorem entryJoins_kept {s m t : State} {period : Nat} {body : EntryBody} (entry : entryJoins s m period body)
    (kept : JournalKept m t) : entryJoins s t period body := by
  obtain ⟨ring, next, oldest, chip, -, -, -⟩ := kept
  simpa only [entryJoins, pointersPass, ring, next, oldest, chip] using entry

theorem marksFollow_kept {s m t : State} {n k : Nat} (marks : marksFollow s m n k) (kept : JournalKept m t) :
    marksFollow s t n k := by
  obtain ⟨-, -, -, chip, -, full, high⟩ := kept
  simpa only [marksFollow, chip, full, high] using marks

theorem oneEntry_kept {s m t : State} {period : Nat} {body : EntryBody} (entry : oneEntry s m period body)
    (kept : JournalKept m t) : oneEntry s t period body :=
  ⟨entryJoins_kept entry.1 kept, marksFollow_kept entry.2 kept⟩

/-- Shop k's record, the house record and the Settlement Unit's registers are the given ones, and SETTLE_FAULT is raised where a
record was full; nothing else has changed. -/
structure RecordsMade (s t : State) (k : Nat) (r : ShopRecord) (h : HouseRecord) (st : Settle) (full : Bool) : Prop where
  shop : shopWritten s t k r
  house : t.store.houseRec = h
  settle : t.settle = st
  fault : settleFault s t full
  raises : onlyRaises s t [1]
  frame : { t with settle := s.settle, store.shops := s.store.shops, store.houseRec := s.store.houseRec,
                   attn.pending := s.attn.pending } = s

theorem RecordsMade.journal {s t : State} {k : Nat} {r : ShopRecord} {h : HouseRecord} {st : Settle} {full : Bool}
    (made : RecordsMade s t k r h st full) : JournalKept s t where
  ring := (congrArg (fun x => x.store.ring) made.frame :)
  next := (congrArg (fun x => x.store.nextToWrite) made.frame :)
  oldest := (congrArg (fun x => x.store.oldestUnack) made.frame :)
  chip := (congrArg State.journal made.frame :)
  signed := (congrArg (fun x => x.store.signature) made.frame :)
  full := (made.raises 4).2 (by decide)
  high := (made.raises 5).2 (by decide)

/-- Records written, with SETTLE_FAULT where one was full (R111, R117, R124, R126). -/
theorem State.records_written (s : State) (k : Nat) (r : ShopRecord) (h : HouseRecord) (st : Settle) (full : Bool) :
    RecordsMade s (State.raiseIf { s.setShop k r with store.houseRec := h, settle := st } full .settleFault) k r h st full := by
  have written : shopWritten s (s.setShop k r) k r :=
    ⟨State.setShop_shop_same s k r, fun j other => State.setShop_shop_ne s k r other⟩
  have raised := onlyRaises_raiseIf s full .settleFault [1] (by decide)
  have fault := settleFault_raiseIf s full
  refine ⟨?_, by simp, by simp, ?_, ?_, ?_⟩
  · unfold shopWritten
    simp only [State.raiseIf_shop]
    exact written
  · cases full <;> exact fault
  · cases full <;> exact raised
  · cases full <;> rfl

/-- An effect on a shop's open bank writes its record and the accrual mark (R114, R115, R117). -/
theorem recordsMade_applyEffect {s : State} {e : Effect} {k : Nat} {bank : OpenBank} {full : Bool}
    (accrued : accrues (s.shop k).bank e k bank full) (source : Nat) :
    RecordsMade s (s.applyEffect e source) k (accruedShop (s.shop k) bank full) { s.store.houseRec with mark := source } s.settle
      full := by
  rw [State.applyEffect_spec accrued]
  exact s.records_written k _ _ s.settle full

/-- An UNCLAIMED goes to the house record alone (R111, R117). -/
theorem State.applyEffect_unclaimed (s : State) (amount source : Nat) :
    let t := s.applyEffect (.unclaimed amount) source
    t.store.houseRec = { s.store.houseRec with
        unclaimed := min 9223372036854775807 (s.store.houseRec.unclaimed + amount), mark := source,
        sat := s.store.houseRec.sat || decide (9223372036854775807 < s.store.houseRec.unclaimed + amount) } ∧
      settleFault s t (decide (9223372036854775807 < s.store.houseRec.unclaimed + amount)) ∧ onlyRaises s t [1] ∧
      { t with store.houseRec := s.store.houseRec, attn.pending := s.attn.pending } = s := by
  unfold State.applyEffect
  simp only [satHouseNat_eq]
  generalize decide (9223372036854775807 < s.store.houseRec.unclaimed + amount) = saturated
  have fault := settleFault_raiseIf s saturated
  have raised := onlyRaises_raiseIf s saturated .settleFault [1] (by decide)
  refine ⟨?_, ?_, ?_, ?_⟩
  · cases saturated <;> rfl
  · cases saturated <;> exact fault
  · cases saturated <;> exact raised
  · cases saturated <;> rfl

/-- Two writes of one shop's record and the house record. -/
theorem shopWritten_trans {s m t : State} {k : Nat} {r q : ShopRecord} (first : shopWritten s m k r) (second : shopWritten m t k q) :
    shopWritten s t k q :=
  ⟨second.1, fun j hj => (second.2 j hj).trans (first.2 j hj)⟩

theorem settleFault_trans {s m t : State} {a b : Bool} (first : settleFault s m a) (second : settleFault m t b) :
    settleFault s t (b || a) := by
  unfold settleFault at *
  rw [second, first, Bool.or_assoc, Bool.or_comm b a]

/-- Settles O31: the accrual's shop is current, or is rolled first, or there is none. -/
theorem accrualsReachTheOpenBank : Obligations.AccrualsReachTheOpenBank := by
  intro s e period source rest turn queue
  have noted := State.noteWork_eq s
  refine ⟨fun k bank full accrued current => ?_, fun k bank full accrued behind => ?_, fun amount is => ?_⟩
  · obtain ⟨shop, -⟩ := OpenBank.accrue_of accrued
    have notBehind : s.noteWork.effectBehind e = false := by
      rw [noted, Bool.eq_false_iff, Ne, State.effectBehind_iff]
      rintro ⟨j, named, behind⟩
      obtain rfl : k = j := Option.some.inj (shop.symm.trans named)
      exact absurd behind (Nat.not_lt.mpr current)
    have run := exec_accrualApply turn queue (State.rollForEffect_current notBehind)
    have made := recordsMade_applyEffect (s := s.noteWork) (by rw [noted]; exact accrued) source
    generalize s.noteWork.applyEffect e source = u at run made
    rw [noted] at made
    refine ⟨_, run, made.shop, made.house, ?_, made.fault, made.raises, ?_⟩
    · change { u.settle with accruals := u.settle.accruals.tail } = _
      rw [made.settle]
      simp [queue]
    · exact (congrArg (fun x : State => { x with settle := s.settle }) made.frame :)
  · obtain ⟨shop, -⟩ := OpenBank.accrue_of accrued
    have room : s.noteWork.canReserve .general 1 = true := by
      rw [noted]
      obtain ⟨_, _, no⟩ | ⟨_, _, _, _, is, room⟩ := s.accrualReady_iff.mp ((State.nextWork_ready turn).1 rfl)
      · simp [queue] at no
      · obtain ⟨⟨rfl, -, -⟩, -⟩ : (e = _ ∧ _ ∧ _) ∧ _ := by simpa [queue] using is
        exact room ⟨k, shop, behind⟩
    obtain ⟨s1, granted⟩ := State.reserve_of_canReserve room
    have isBehind : s.noteWork.behind k = true := by
      rw [noted]
      exact (s.behind_iff k).mpr behind
    have run := exec_accrualApply turn queue (State.rollForEffect_behind shop isBehind granted)
    have rolled := rollMade_of_reserve granted (by decide) k
    have accruedAfter : accrues ((s1.commitRoll k).shop k).bank e k bank full := by
      rw [rolled.shop.1, noteWork_rollFor]
      exact accrued
    have made := recordsMade_applyEffect accruedAfter source
    generalize s1.commitRoll k = m at rolled made run
    generalize m.applyEffect e source = u at made run
    rw [noted] at rolled
    have mShop : m.shop k = (s.rollFor k).shop := rolled.shop.1
    rw [mShop] at made
    have kept := made.journal
    refine ⟨_, run, ?_, ?_, ?_, ?_, ?_, ?_, ?_, ?_, ?_, ?_⟩
    · exact shopWritten_trans rolled.shop made.shop
    · change u.store.houseRec = _
      rw [made.house, rolled.house]
      rfl
    · exact oneEntry_kept rolled.oneEntry (t := u.dropAccrual) ⟨kept.ring, kept.next, kept.oldest, kept.chip, kept.signed, kept.full, kept.high⟩
    · change { u.settle with accruals := u.settle.accruals.tail } = _
      rw [made.settle, rolled.settle]
      simp [queue]
    · exact settleFault_trans rolled.fault made.fault
    · exact onlyRaises_trans rolled.raises (onlyRaises_mono made.raises (by simp))
    · exact (congrArg State.channels made.frame :).trans rolled.channels
    · exact (congrArg State.plu made.frame :).trans rolled.plu
    · exact (congrArg (fun x => x.store.nextTag) made.frame :).trans rolled.nextTag
    · have frame := congrArg (fun x : State =>
        { x with settle := s.settle, channels := s.channels, plu := s.plu, store.shops := s.store.shops,
                 store.houseRec := s.store.houseRec, store.nextTag := s.store.nextTag, store.ring := s.store.ring,
                 store.nextToWrite := s.store.nextToWrite, journal := s.journal, attn.pending := s.attn.pending }) made.frame
      exact frame.trans (congrArg (fun x : State => { x with settle := s.settle }) rolled.frame :)
  · subst is
    have run := exec_accrualApply (s1 := s.noteWork) turn queue rfl
    rw [noted] at run
    obtain ⟨house, fault, raises, frame⟩ :=
      State.applyEffect_unclaimed { s with settle.wait := waitAfter s } amount source
    generalize State.applyEffect _ (.unclaimed amount) source = u at run house fault raises frame
    refine ⟨_, run, house, ?_, fault, raises, (congrArg (fun x : State => { x with settle := s.settle }) frame :)⟩
    have settle : u.settle = { s.settle with wait := waitAfter s } := (congrArg State.settle frame :)
    simp [State.dropAccrual, settle, queue]

/-! ### The close -/

/-- An append changes the ring, next to write, the journal's registers and the pending flags only. -/
theorem State.append_keeps (s : State) (p : Nat) (b : EntryBody) :
    { s.append p b with store.ring := s.store.ring, store.nextToWrite := s.store.nextToWrite, journal := s.journal,
                        attn.pending := s.attn.pending } = s := by
  unfold State.append
  dsimp only
  generalize (s.unack + 1 == Config.highMark && !s.journal.highHeld) = high
  cases high <;> rfl

/-- Without a grant an append raises JOURNAL_HIGH at most (R181). -/
theorem State.append_raisesHigh (s : State) (p : Nat) (b : EntryBody) : onlyRaises s (s.append p b) [5] := by
  obtain ⟨-, full, -, -⟩ := (s.append_spec p b).2
  have none_ : fullRaised s 0 = false := by
    simp only [fullRaised, Nat.add_zero, Bool.and_eq_false_imp, Bool.and_eq_true, decide_eq_true_eq, and_imp]
    omega
  rw [none_, Bool.or_false] at full
  intro n
  obtain ⟨kept, only⟩ := s.append_raises p b n
  refine ⟨kept, fun other => ?_⟩
  by_cases is : n = 4
  · exact is ▸ full
  · exact only (by simpa [is] using other)

/-- A period committed: the period in the store and both copies, all shops behind, one PERIOD entry (R133). -/
structure PeriodMade (s m : State) (requested : Nat) : Prop where
  stored : m.store.periodWord = requested + 1
  entry : entryJoins { s with journal.reserved := s.journal.reserved - 1 } m (requested + 1) (.period requested (requested + 1))
  marks : marksFollow s m 0 1
  settle : m.settle =
    { s.settle with period := requested + 1, accruals := s.settle.accruals.tail, unrolled := 512, cursor := 0 }
  ledger : m.ledger = { s.ledger with period := requested + 1, closeOutstanding := false }
  raises : onlyRaises s m [5]
  frame : { m with settle := s.settle, ledger := s.ledger, store.periodWord := s.store.periodWord,
                   store.ring := s.store.ring, store.nextToWrite := s.store.nextToWrite, journal := s.journal,
                   attn.pending := s.attn.pending } = s

theorem State.commitPeriod_made (s : State) (requested : Nat) : PeriodMade s (s.commitPeriod requested) requested := by
  unfold State.commitPeriod
  generalize advanced : (State.mk .. : State) = u
  obtain ⟨entry, marks⟩ := u.append_spec (requested + 1) (.period requested (requested + 1))
  have raises := u.append_raisesHigh (requested + 1) (.period requested (requested + 1))
  have keeps := u.append_keeps (requested + 1) (.period requested (requested + 1))
  generalize u.append (requested + 1) (.period requested (requested + 1)) = m at *
  subst advanced
  refine ⟨(congrArg (fun x => x.store.periodWord) keeps :), entry, marks, (congrArg State.settle keeps :),
    (congrArg State.ledger keeps :), raises, ?_⟩
  exact (congrArg (fun x : State => { x with settle := s.settle, ledger := s.ledger, store.periodWord := s.store.periodWord })
    keeps :)

/-- Settles O32: the two refusals by evaluation, the commit by `PeriodMade`. -/
theorem theCloseIsRefusedOrCommitted : Obligations.TheCloseIsRefusedOrCommitted := by
  intro s requested rest turn queue outstanding
  have noted := State.noteWork_eq s
  have run : exec .closeEntry s = .next (if 0 < s.settle.unrolled then s.noteWork.refuseClose .rollBusy
      else if 0 < s.settle.openPayouts then s.noteWork.refuseClose .payoutOpen
      else ((s.noteWork.commitPeriod requested).advanceNotice).done []) := by
    simp only [exec, execCloseEntry, turn, queue, outstanding, if_true, Bool.true_eq_false, if_false]
    split
    · rfl
    · split <;> rfl
  rw [noted] at run
  refine ⟨fun busy => ?_, fun none_ payouts => ?_, fun none_ closed => ?_⟩
  · rw [run, if_pos busy]
    simp [State.refuseClose, State.giveBack, queue]
  · rw [run, if_neg (by omega), if_pos payouts]
    simp [State.refuseClose, State.giveBack, queue]
  · rw [if_neg (by omega), if_neg (by omega)] at run
    have made := State.commitPeriod_made { s with settle.wait := waitAfter s } requested
    generalize State.commitPeriod _ requested = m at run made
    refine ⟨m, run, made.stored, made.entry, made.marks, ?_, made.ledger, made.raises, ?_⟩
    · rw [made.settle, queue]
      rfl
    · exact (congrArg (fun x : State => { x with settle := s.settle }) made.frame :)

end Sys2Proof.Machine
end

section
/-! PROOFS. The slot arbiter, the channels and the payout link (chapters 8 and 9). -/

namespace Sys2Proof.Machine

/-! ### The slot arbiter -/

theorem State.freeSlot_eq_some_iff (s : State) (k : Nat) :
    s.freeSlot = some k ↔ k ≤ 15 ∧ s.slot k = .free ∧ ∀ j, j < k → s.slot j ≠ .free := by
  simp only [State.freeSlot, firstFrom_eq_some_iff, decide_eq_true_eq, decide_eq_false_iff_not, zero_le, true_and, zero_add,
    forall_const, Config.payoutSlots, Nat.lt_succ_iff, ne_eq]

/-- The channel a slot goes to (R152). -/
theorem State.chooseChannel_eq_some {s : State} {c : Nat} (low : c ≤ 3) (waits : (s.channel c).st = .waitSlot)
    (fixed : s.store.settings.priority = .fixed → ∀ d, d < c → (s.channel d).st ≠ .waitSlot)
    (rotating : s.store.settings.priority = .rotating →
      ∃ n, n ≤ 3 ∧ c = (s.plu.lastGranted + 1 + n) % 4 ∧
        ∀ m, m < n → (s.channel ((s.plu.lastGranted + 1 + m) % 4)).st ≠ .waitSlot) : s.chooseChannel = some c := by
  unfold State.chooseChannel
  cases priority : s.store.settings.priority with
  | fixed =>
    simp only [firstFrom_eq_some_iff, State.waitsSlot, decide_eq_true_eq, decide_eq_false_iff_not]
    exact ⟨Nat.zero_le c, by omega, waits, fun j _ less => fixed priority j less⟩
  | rotating =>
    obtain ⟨n, small, rfl, before⟩ := rotating priority
    have found : firstFrom (fun i => s.waitsSlot (i % 4)) 4 (s.plu.lastGranted + 1) = some (s.plu.lastGranted + 1 + n) := by
      simp only [firstFrom_eq_some_iff, State.waitsSlot, decide_eq_true_eq, decide_eq_false_iff_not]
      refine ⟨by omega, by omega, waits, fun j high less => ?_⟩
      obtain ⟨m, rfl⟩ := Nat.exists_eq_add_of_le high
      exact before m (by omega)
    simp only [found, Option.map_some]

theorem State.chooseChannel_waits {s : State} {c : Nat} (chosen : s.chooseChannel = some c) :
    c ≤ 3 ∧ (s.channel c).st = .waitSlot := by
  unfold State.chooseChannel at chosen
  split at chosen
  · obtain ⟨-, small, waits, -⟩ := (firstFrom_eq_some_iff _ _ _ _).mp chosen
    exact ⟨by omega, of_decide_eq_true waits⟩
  · obtain ⟨i, found, rfl⟩ := Option.map_eq_some_iff.mp chosen
    obtain ⟨-, -, waits, -⟩ := (firstFrom_eq_some_iff _ _ _ _).mp found
    exact ⟨by omega, of_decide_eq_true waits⟩

/-- A grant needs room for two reservations, a free slot and a waiting channel. -/
theorem State.grantOnce_eq_some_iff (s t : State) : s.grantOnce = some t ↔
    ∃ k c, s.canReserve .general 2 = true ∧ s.freeSlot = some k ∧ s.chooseChannel = some c ∧ t = s.grantTo k c := by
  unfold State.grantOnce
  cases s.canReserve .general 2 <;> cases s.freeSlot <;> cases s.chooseChannel <;> simp [eq_comm]

/-- Settles O33: the searches of slot and channel, and what a grant writes. -/
theorem aSlotIsGrantedByPriority : Obligations.ASlotIsGrantedByPriority := by
  refine ⟨fun s k c room low free first named waits fixed rotating => ?_, fun s blocked => ?_⟩
  · have slot : s.freeSlot = some k := (s.freeSlot_eq_some_iff k).mpr ⟨low, free, first⟩
    have grant := (s.grantOnce_eq_some_iff _).mpr ⟨k, c, room, slot, State.chooseChannel_eq_some named waits fixed rotating, rfl⟩
    refine ⟨s.grantTo k c, by simp [exec, execSlotGrant, grant], ⟨?_, fun j other => ?_⟩, ⟨?_, fun j other => ?_⟩, rfl, rfl, rfl⟩
    · exact State.setSlot_slot_same s k (.granted c)
    · exact State.setSlot_slot_ne s k (.granted c) other
    · exact State.setChannel_channel_same (s.setSlot k (.granted c)) c { s.channel c with st := .running, slot := some k }
    · exact State.setChannel_channel_ne (s.setSlot k (.granted c)) c { s.channel c with st := .running, slot := some k } other
  · have none_ : s.grantOnce = none := by
      refine Option.eq_none_iff_forall_ne_some.mpr fun t grant => ?_
      obtain ⟨k, c, room, slot, chosen, -⟩ := (s.grantOnce_eq_some_iff t).mp grant
      obtain noRoom | noSlot | noChannel := blocked
      · simp [room] at noRoom
      · obtain ⟨low, free, -⟩ := (s.freeSlot_eq_some_iff k).mp slot
        exact noSlot k low free
      · obtain ⟨low, waits⟩ := State.chooseChannel_waits chosen
        exact noChannel c low waits
    simp [exec, execSlotGrant, none_]

/-! ### Channel states -/

/-- The walk of the model is the statements' walking state (R146). -/
theorem Channel.walk_eq (v : Channel) : v.walk = walking v := by
  unfold Channel.walk walking
  cases v.mode with
  | block => rfl
  | single => rfl
  | demand => dsimp only; split <;> rfl

theorem Channel.nextShop_eq (v : Channel) : v.nextShop = if v.dir = .ascending then v.cur + 1 else v.cur - 1 := by
  unfold Channel.nextShop
  cases v.dir <;> rfl

/-- What the advance notice does to one channel (R157). -/
theorem Channel.advanceNotice_eq (v : Channel) : v.advanceNotice =
    if v.mask = true ∨ v.auto = false ∨ v.st = .idle ∨ v.st = .done then v
    else if v.st = .waitClose then walking v else { v with passPending := true } := by
  unfold Channel.advanceNotice
  rw [Channel.walk_eq]
  cases mask : v.mask
  · cases auto : v.auto
    · simp
    · cases st : v.st <;> simp
  · simp

/-- A walk over distinct channels writes each of them once. -/
theorem foldl_setChannel_channel (f : Channel → Channel) : ∀ (l : List Nat), l.Nodup → ∀ (s : State) (c : Nat),
    (l.foldl (fun t c => t.setChannel c (f (t.channel c))) s).channel c = if c ∈ l then f (s.channel c) else s.channel c
  | [], _, s, c => by simp
  | d :: l, distinct, s, c => by
    obtain ⟨fresh, rest⟩ := List.nodup_cons.mp distinct
    rw [List.foldl_cons, foldl_setChannel_channel f l rest]
    by_cases is : c = d
    · subst is
      simp [fresh]
    · simp [is, State.setChannel_channel_ne s d _ is]

/-- Settles O35: the cases of the advance, and the notice at each of the four channels. -/
theorem aChannelAdvancesOrReachesTerminalCount : Obligations.AChannelAdvancesOrReachesTerminalCount := by
  refine ⟨?_, fun s => ?_⟩
  · rintro v d u claimed rfl
    refine ⟨fun more => ⟨fun unmasked => ?_, fun masked => ?_⟩, fun last single => ?_, fun last auto masked => ?_,
      fun last auto unmasked pass => ?_, fun last auto unmasked noPass => ?_⟩
    · simp [Channel.advance, Nat.ne_of_gt more, unmasked, Channel.walk_eq, Channel.nextShop_eq, bump32]
    · simp [Channel.advance, Nat.ne_of_gt more, masked, Channel.nextShop_eq, bump32]
    · simp [Channel.advance, last, Channel.terminal, single, bump32]
    · simp [Channel.advance, last, Channel.terminal, auto, masked, bump32, Channel.load]
    · simp [Channel.advance, last, Channel.terminal, auto, unmasked, pass, bump32, Channel.load, Channel.walk_eq]
    · simp [Channel.advance, last, Channel.terminal, auto, unmasked, noPass, bump32, Channel.load]
  · obtain ⟨a, frame⟩ := foldl_setChannel_frame (fun t c => (t.channel c).advanceNotice) [0, 1, 2, 3] s
    refine ⟨_, rfl, fun c low => ?_, fun c high => ?_, by rw [frame]⟩
    · rw [foldl_setChannel_channel _ _ (by decide), if_pos (by simp; omega)]
      exact Channel.advanceNotice_eq _
    · rw [foldl_setChannel_channel _ _ (by decide), if_neg (by simp; omega)]

/-! ### Bank frames -/

theorem State.answerHandedOn_eq_false_iff (s : State) :
    s.answerHandedOn = false ↔ ∀ a ∈ s.settle.answers, ∃ slot tag, a = .deadline slot tag := by
  simp only [State.answerHandedOn, List.any_eq_false]
  refine forall₂_congr fun a _ => ?_
  cases a <;> simp

theorem State.bankHead_eq_some_iff (s : State) (f : Frame) : s.bankHead = some f ↔
    s.pfw = false ∧ s.ledger.mode ≠ .recovering ∧ (∀ a ∈ s.settle.answers, ∃ slot tag, a = .deadline slot tag) ∧
      ∃ rest, s.payLink.queue = f :: rest := by
  rw [← State.answerHandedOn_eq_false_iff]
  unfold State.bankHead
  cases s.pfw <;> cases s.answerHandedOn <;> by_cases recovering : s.ledger.mode = .recovering <;>
    cases s.payLink.queue <;> simp [recovering]

theorem Channel.addCredit_eq (v : Channel) (n : Nat) (some_ : 0 < n) :
    v.addCredit n = if v.st = .waitPull then walking { v with credit := min 255 (v.credit + n) }
      else { v with credit := min 255 (v.credit + n) } := by
  have credit : 0 < min 255 (v.credit + n) := by omega
  simp only [Channel.addCredit, credit, and_true, Channel.walk_eq]

/-- Settles O36: when no frame is taken, and each kind of frame at the head. -/
theorem bankFramesAreTakenInOrder : Obligations.BankFramesAreTakenInOrder := by
  refine ⟨fun s blocked => ?_, fun s f rest unwarned running deadlines queue => ?_⟩
  · have none_ : s.bankHead = none := by
      refine Option.eq_none_iff_forall_ne_some.mpr fun f head => ?_
      obtain ⟨unwarned, running, deadlines, rest, queue⟩ := (s.bankHead_eq_some_iff f).mp head
      obtain warned | recovering | empty | ⟨tag, shop, period, done⟩ | ⟨tag, shop, period, reason, back⟩ := blocked
      · simp [unwarned] at warned
      · exact running recovering
      · simp [queue] at empty
      · simpa using deadlines _ done
      · simpa using deadlines _ back
    simp [exec, execBankFrameTaken, execPull, none_]
  · have head : s.bankHead = some f := (s.bankHead_eq_some_iff f).mpr ⟨unwarned, running, deadlines, rest, queue⟩
    have taken : s.dropBank = { s with payLink.queue := rest } := by simp [State.dropBank, queue]
    refine ⟨fun kind shop => ?_, fun kind shop reason => ?_, fun stray => ?_, fun kind stray => ?_, ?_⟩
    · simp [exec, execBankFrameTaken, head, kind, bankAnswer, taken, Nat.not_le.mpr (Nat.lt_succ_of_le shop)]
    · simp [exec, execBankFrameTaken, head, kind, bankAnswer, taken, Nat.not_le.mpr (Nat.lt_succ_of_le shop), reason]
    · obtain ⟨kind, high⟩ | ⟨kind, high | none_⟩ := stray
      · simp [exec, execBankFrameTaken, head, kind, bankAnswer, taken, Nat.succ_le_of_lt high, State.countStray, bump32]
      · simp [exec, execBankFrameTaken, head, kind, bankAnswer, taken, Nat.succ_le_of_lt high, State.countStray, bump32]
      · simp [exec, execBankFrameTaken, head, kind, bankAnswer, taken, none_, State.countStray, bump32]
    · simp [exec, execPull, head, kind, stray, taken, State.countStray, bump32]
    · rintro v kind channel count rfl
      have valid : ¬(3 < fieldAt f.body 0 1 ∨ fieldAt f.body 1 1 = 0) := by omega
      refine ⟨s.dropBank.setChannel (fieldAt f.body 0 1) ((s.channel (fieldAt f.body 0 1)).addCredit (fieldAt f.body 1 1)),
        ?_, ?_, ⟨?_, fun j other => ?_⟩, ?_⟩
      · simp [exec, execPull, head, kind, valid]
      · simp [taken]
      · rw [State.setChannel_channel_same, Channel.addCredit_eq _ _ count]
      · rw [State.setChannel_channel_ne _ _ _ other]
        rfl
      · rfl

/-! ### One entry of the Settlement Unit -/

/-- Attentions and pointers as they stand decide the marks. -/
theorem marksFollow_of_kept {s m t : State} {n k : Nat} (kept : JournalKept s m) (marks : marksFollow m t n k) :
    marksFollow s t n k := by
  obtain ⟨-, next, oldest, chip, signed, full, high⟩ := kept
  have unack : m.unack = s.unack := by simp only [State.unack, State.nextWrite, State.oldest, next, oldest, signed]
  simpa only [marksFollow, fullRaised, highRaised, unack, chip, full, high] using marks

/-- A granted reservation leaves the store, the settlement, the window and the channels, and raises the journal's attentions at most. -/
theorem State.reserve_leaves {s s1 : State} {cls : ResClass} {n : Nat} (granted : s.reserve cls n = some s1) :
    s1.store = s.store ∧ s1.settle = s.settle ∧ onlyRaises s s1 [4, 5] ∧
      { s1 with journal := s.journal, attn.pending := s.attn.pending } = s := by
  obtain ⟨-, none_⟩ | ⟨-, t, found, made, only⟩ := s.reserve_spec cls n
  · simp [none_] at granted
  obtain rfl : t = s1 := by simpa [found] using granted
  have frame : { t with journal := s.journal, attn.pending := s.attn.pending } = s := by
    rw [made]
  exact ⟨(congrArg State.store frame :), (congrArg State.settle frame :), only, frame⟩

/-- A state with the settlement, the window, the channels, the records, the journal and the pending flags of another. -/
def State.settlementOf (s t : State) : State :=
  { t with settle := s.settle, channels := s.channels, plu := s.plu, store.shops := s.store.shops,
           store.houseRec := s.store.houseRec, store.nextTag := s.store.nextTag, store.ring := s.store.ring,
           store.nextToWrite := s.store.nextToWrite, journal := s.journal, attn.pending := s.attn.pending }

/-- It is the frame of the settlement's work. -/
theorem settleFrame_iff (s t : State) : settleFrame s t ↔ State.settlementOf s t = s := Iff.rfl

/-- Under one reservation the records of shop k and the house, the Settlement Unit's registers and one entry are written;
nothing else is. -/
structure OutcomeMade (s m : State) (k : Nat) (r : ShopRecord) (h : HouseRecord) (st : Settle) (full : Bool)
    (sources : List Nat) (body : EntryBody) : Prop where
  shop : shopWritten s m k r
  house : m.store.houseRec = h
  entry : oneEntry s m s.settle.period body
  settle : m.settle = st
  fault : settleFault s m full
  raises : onlyRaises s m sources
  plu : m.plu = s.plu
  channels : m.channels = s.channels
  nextTag : m.store.nextTag = s.store.nextTag
  frame : settleFrame s m

/-- An entry appended behind edited records, under the reservation granted before them. -/
theorem outcome_of_records {s s1 mid : State} {cls : ResClass} {k : Nat} {r : ShopRecord} {h : HouseRecord} {st : Settle}
    {full : Bool} (granted : s.reserve cls 1 = some s1) (made : RecordsMade s1 mid k r h st full) (body : EntryBody) :
    OutcomeMade s (mid.append s.settle.period body) k r h st full [1, 4, 5] body := by
  obtain ⟨store, settle, only, frame⟩ := State.reserve_leaves granted
  have keeps := mid.append_keeps s.settle.period body
  have raises := mid.append_raises s.settle.period body
  obtain ⟨entry, marks⟩ := mid.append_spec s.settle.period body
  have kept := made.journal
  have reserved : s1.journal.reserved - 1 = s.journal.reserved := by
    rw [(State.reserve_eq granted).2]
    cases fullRaised s 1 <;> simp
  have streams : s1.journal.nextStream = s.journal.nextStream ∧ s1.journal.streamOn = s.journal.streamOn ∧
      s1.journal.unit = s.journal.unit ∧ s1.journal.interval = s.journal.interval ∧
      s1.journal.streamCount = s.journal.streamCount := by
    rw [(State.reserve_eq granted).2]
    cases fullRaised s 1 <;> simp
  generalize mid.append s.settle.period body = m at *
  have shops : m.store.shops = mid.store.shops := (congrArg (fun x => x.store.shops) keeps :)
  have time : mid.time = s.time := (congrArg State.time made.frame :).trans (congrArg State.time frame :)
  refine ⟨⟨?_, fun j other => ?_⟩, ?_, ⟨?_, ?_⟩, ?_, ?_, ?_, ?_, ?_, ?_, ?_⟩
  · exact (congrArg (fun x => x.shop k) keeps :).trans made.shop.1
  · exact (congrArg (fun x => x.shop j) keeps :).trans ((made.shop.2 j other).trans (congrArg (fun x => x.shop j) frame :))
  · exact (congrArg (fun x => x.store.houseRec) keeps :).trans made.house
  · obtain ⟨ring, next, oldest, chip, -, -, -⟩ := kept
    obtain ⟨nextStream, streamOn, unit, interval, count⟩ := streams
    simpa only [entryJoins, pointersPass, ring, next, oldest, chip, reserved, time, store, nextStream, streamOn, unit, interval,
      count] using entry
  · exact marksFollow_grant granted (marksFollow_of_kept kept marks)
  · exact (congrArg State.settle keeps :).trans made.settle
  · rw [settleFault, (raises 1).2 (by decide), made.fault, (only 1).2 (by decide)]
  · exact onlyRaises_trans (onlyRaises_mono only (by simp))
      (onlyRaises_trans (onlyRaises_mono made.raises (by simp)) (onlyRaises_mono raises (by simp)))
  · exact (congrArg State.plu keeps :).trans ((congrArg State.plu made.frame :).trans (congrArg State.plu frame :))
  · exact (congrArg State.channels keeps :).trans ((congrArg State.channels made.frame :).trans (congrArg State.channels frame :))
  · exact (congrArg (fun x => x.store.nextTag) keeps :).trans
      ((congrArg (fun x => x.store.nextTag) made.frame :).trans (congrArg (fun x => x.store.nextTag) frame :))
  · exact (congrArg (State.settlementOf s) keeps :).trans
      ((congrArg (State.settlementOf s) made.frame :).trans (congrArg (State.settlementOf s) frame :))

theorem State.makeSettled_records (s : State) (k : Nat) :
    RecordsMade s (s.makeSettled k) k { s.shop k with closing := { (s.shop k).closing with state := .settled } }
      (settledHouse s.store.houseRec (s.shop k).closing.amount)
      { s.settle with openPayouts := s.settle.openPayouts - 1 }
      (decide (9223372036854775807 < s.store.houseRec.settled + (s.shop k).closing.amount)) := by
  unfold State.makeSettled State.settlePayout
  simp only [satHouseNat_eq]
  exact s.records_written k _ (settledHouse s.store.houseRec _) { s.settle with openPayouts := s.settle.openPayouts - 1 } _

theorem ShopRecord.returnPayout_eq (r : ShopRecord) :
    r.returnPayout = (returnedShop r, returnedShop.carryFull (r.carry + r.closing.amount)) := by
  unfold ShopRecord.returnPayout returnedShop returnedShop.carryFull
  simp only [satCarry_eq]

theorem State.makeReturned_records (s : State) (k : Nat) :
    RecordsMade s (s.makeReturned k) k (returnedShop (s.shop k)) s.store.houseRec
      { s.settle with openPayouts := s.settle.openPayouts - 1 }
      (returnedShop.carryFull ((s.shop k).carry + (s.shop k).closing.amount)) := by
  unfold State.makeReturned State.returnPayout
  simp only [ShopRecord.returnPayout_eq]
  exact s.records_written k _ s.store.houseRec { s.settle with openPayouts := s.settle.openPayouts - 1 } _

theorem State.makeInDoubt_records (s : State) (k : Nat) :
    RecordsMade s (s.makeInDoubt k) k { s.shop k with closing := { (s.shop k).closing with state := .inDoubt } }
      s.store.houseRec s.settle false :=
  ⟨⟨State.setShop_shop_same s k _, fun _ other => State.setShop_shop_ne s k _ other⟩, rfl, rfl, (Bool.or_false _).symm,
    onlyRaises_of_eq _ rfl, rfl⟩

/-- The state the work was taken in may differ in the Settlement Unit's registers, which the outcome writes. -/
theorem OutcomeMade.rebase {s m : State} {st1 : Settle} {k : Nat} {r : ShopRecord} {h : HouseRecord} {st : Settle} {full : Bool}
    {sources : List Nat} {body : EntryBody} (made : OutcomeMade { s with settle := st1 } m k r h st full sources body)
    (period : st1.period = s.settle.period) : OutcomeMade s m k r h st full sources body where
  shop := made.shop
  house := made.house
  entry := by
    have entry := made.entry
    simp only [period] at entry
    exact entry
  settle := made.settle
  fault := made.fault
  raises := made.raises
  plu := made.plu
  channels := made.channels
  nextTag := made.nextTag
  frame := (congrArg (fun x : State => { x with settle := s.settle }) made.frame :)

/-- Another attention raised with an outcome. -/
theorem OutcomeMade.raised {s m : State} {k : Nat} {r : ShopRecord} {h : HouseRecord} {st : Settle} {full : Bool}
    {sources : List Nat} {body : EntryBody} (made : OutcomeMade s m k r h st full sources body) (src : Source)
    (other : src.number ≠ 1 ∧ src.number ≠ 4 ∧ src.number ≠ 5) :
    OutcomeMade s (m.raise src) k r h st full (src.number :: sources) body ∧
      (m.raise src).attn.pending.getLsbD src.number = true := by
  have kept : ∀ n, n ≠ src.number → (m.raise src).attn.pending.getLsbD n = m.attn.pending.getLsbD n := fun n ne =>
    ((onlyRaises_raiseIf m true src [src.number] (by simp)) n).2 (by simpa using ne)
  obtain ⟨notFault, notFull, notHigh⟩ := other
  have journal : JournalKept m (m.raise src) := ⟨rfl, rfl, rfl, rfl, rfl, kept 4 (Ne.symm notFull), kept 5 (Ne.symm notHigh)⟩
  refine ⟨⟨made.shop, made.house, oneEntry_kept made.entry journal, made.settle, ?_, ?_, made.plu, made.channels, made.nextTag,
    made.frame⟩, by rw [State.raise_flag]; simp⟩
  · rw [settleFault, kept 1 (Ne.symm notFault)]
    exact made.fault
  · exact onlyRaises_trans (onlyRaises_mono made.raises fun _ => List.mem_cons_of_mem _)
      (onlyRaises_raiseIf m true src (src.number :: sources) (by simp))

/-- A slot freed behind an outcome: what the statements say of it. -/
theorem OutcomeMade.freed {s u : State} {shop : Nat} {r : ShopRecord} {h : HouseRecord} {st : Settle} {full : Bool}
    {sources : List Nat} {body : EntryBody} (made : OutcomeMade s u shop r h st full sources body) (k : Nat) :
    let m := u.freeSlotOf k
    shopWritten s m shop r ∧ m.store.houseRec = h ∧ oneEntry s m s.settle.period body ∧ slotWritten s m k .free ∧
      m.plu.payList = s.plu.payList.filter (fun x => decide (x ≠ k)) ∧ m.plu.late = s.plu.late ∧ m.plu.stray = s.plu.stray ∧
      m.plu.lastGranted = s.plu.lastGranted ∧ m.settle = st ∧ m.channels = s.channels ∧ m.store.nextTag = s.store.nextTag ∧
      settleFault s m full ∧ onlyRaises s m sources ∧ settleFrame s m := by
  have slots : ∀ j, u.slot j = s.slot j := fun j => by simp only [State.slot, made.plu]
  refine ⟨made.shop, made.house, made.entry, ⟨State.setSlot_slot_same u k .free, fun j other => ?_⟩, ?_, ?_, ?_, ?_, made.settle,
    made.channels, made.nextTag, made.fault, made.raises, made.frame⟩
  · exact (State.setSlot_slot_ne u k .free other).trans (slots j)
  · simp [State.freeSlotOf, made.plu]
  · simp [State.freeSlotOf, made.plu]
  · simp [State.freeSlotOf, made.plu]
  · simp [State.freeSlotOf, made.plu]

/-! ### Answers of the bank -/

theorem State.commitDone_made {s s1 : State} (granted : s.reserve .whole 1 = some s1) (tag shop : Nat) (late : Bool) :
    OutcomeMade s (s1.commitDone tag shop late) shop { s.shop shop with closing := { (s.shop shop).closing with state := .settled } }
      (settledHouse s.store.houseRec (s.shop shop).closing.amount) { s.settle with openPayouts := s.settle.openPayouts - 1 }
      (decide (9223372036854775807 < s.store.houseRec.settled + (s.shop shop).closing.amount)) [1, 4, 5]
      (.payDone tag shop (s.shop shop).closing.period (s.shop shop).closing.amount late) := by
  obtain ⟨store, settle, -, -⟩ := State.reserve_leaves granted
  have record : s1.shop shop = s.shop shop := by simp only [State.shop, store]
  have made := s1.makeSettled_records shop
  rw [record, store, settle] at made
  unfold State.commitDone
  rw [record, settle]
  exact outcome_of_records granted made _

theorem State.commitBack_made {s s1 : State} (granted : s.reserve .whole 1 = some s1) (tag shop reason : Nat) (late : Bool) :
    OutcomeMade s (s1.commitBack tag shop reason late) shop (returnedShop (s.shop shop)) s.store.houseRec
        { s.settle with openPayouts := s.settle.openPayouts - 1 }
        (returnedShop.carryFull ((s.shop shop).carry + (s.shop shop).closing.amount)) [3, 1, 4, 5]
        (.payBack tag shop (s.shop shop).closing.period (s.shop shop).closing.amount reason late) ∧
      (s1.commitBack tag shop reason late).attn.pending.getLsbD 3 = true := by
  obtain ⟨store, settle, -, -⟩ := State.reserve_leaves granted
  have record : s1.shop shop = s.shop shop := by simp only [State.shop, store]
  have made := s1.makeReturned_records shop
  rw [record, store, settle] at made
  unfold State.commitBack
  rw [record, settle]
  exact (outcome_of_records granted made _).raised .payoutReturned (by decide)

/-- What the head answer is taken in: it leaves the class 2 work, noted in the wait count. -/
theorem State.dropAnswer_eq {s : State} {a : Answer} {rest : List Answer} (queue : s.settle.answers = a :: rest) :
    s.noteWork.dropAnswer = { s with settle := { s.settle with answers := rest, wait := waitAfter s } } := by
  rw [State.noteWork_eq]
  simp [State.dropAnswer, queue]

/-- The cases in which an answer is stray (R165, R167). -/
theorem State.matchAnswer_stray {s : State} {tag shop period : Nat}
    (stray : s.store.signature = false ∨ (∃ k p, filledFirst s k tag p ∧ (p.shop ≠ shop ∨ p.period ≠ period)) ∨
      (notFilled s tag ∧ ¬((s.shop shop).closing.state = .inDoubt ∧ (s.shop shop).closing.period = period ∧
        (s.shop shop).closing.tag = some tag))) : s.matchAnswer tag shop period = .stray := by
  by_contra commits
  obtain ⟨signed, found⟩ := (s.matchAnswer_ne_stray_iff tag shop period).mp commits
  obtain unsigned | ⟨k, p, first, other⟩ | ⟨none_, notLate⟩ := stray
  · simp [signed] at unsigned
  · have slot := (s.slotOfTag_eq_some_iff tag k).mpr ⟨p, first⟩
    obtain ⟨j, q, second, same⟩ | ⟨none_, -⟩ := found
    · obtain rfl : k = j := Option.some.inj (slot.symm.trans ((s.slotOfTag_eq_some_iff tag j).mpr ⟨q, second⟩))
      obtain rfl : p = q := Slot.filled.inj (first.2.1.symm.trans second.2.1)
      obtain no | no := other
      · exact no same.1
      · exact no same.2
    · exact none_ k p first.1 first.2.1 first.2.2.1
  · obtain ⟨k, p, first, -⟩ | ⟨-, late⟩ := found
    · exact none_ k p first.1 first.2.1 first.2.2.1
    · exact notLate late

/-- DONE_ANSWER under its reservation, in window or late. -/
theorem exec_doneAnswer {s s1 : State} {tag shop period : Nat} {rest : List Answer} (turn : s.nextWork = some .answer)
    (queue : s.settle.answers = .done tag shop period :: rest) (granted : s.noteWork.dropAnswer.reserve .whole 1 = some s1) :
    (∀ k, s.matchAnswer tag shop period = .inWindow k →
      exec .doneAnswer s = .next ((s1.commitDone tag shop false).releaseSlot k)) ∧
    (s.matchAnswer tag shop period = .late → exec .doneAnswer s = .next (s1.commitDone tag shop true).countLate) := by
  refine ⟨fun k window => ?_, fun late => ?_⟩
  · simp only [exec, execDoneAnswer, turn, if_true, queue, window, granted]
  · simp only [exec, execDoneAnswer, turn, if_true, queue, late, granted]

/-- BACK_ANSWER under its reservation, in window or late. -/
theorem exec_backAnswer {s s1 : State} {tag shop period reason : Nat} {rest : List Answer} (turn : s.nextWork = some .answer)
    (queue : s.settle.answers = .back tag shop period reason :: rest)
    (granted : s.noteWork.dropAnswer.reserve .whole 1 = some s1) :
    (∀ k, s.matchAnswer tag shop period = .inWindow k →
      exec .backAnswer s = .next ((s1.commitBack tag shop reason false).releaseSlot k)) ∧
    (s.matchAnswer tag shop period = .late → exec .backAnswer s = .next (s1.commitBack tag shop reason true).countLate) := by
  refine ⟨fun k window => ?_, fun late => ?_⟩
  · simp only [exec, execBackAnswer, turn, if_true, queue, window, granted]
  · simp only [exec, execBackAnswer, turn, if_true, queue, late, granted]

/-- The room for an answer's reservation is there once the answer has left the queue; it is there only over a signature. -/
theorem State.reserve_dropAnswer {s : State} {a : Answer} {rest : List Answer} (queue : s.settle.answers = a :: rest)
    (room : s.canReserve .whole 1 = true) : s.store.signature = true ∧ ∃ s1, s.noteWork.dropAnswer.reserve .whole 1 = some s1 := by
  refine ⟨((s.canReserve_iff .whole 1).mp room).2.1, State.reserve_of_canReserve ?_⟩
  rw [State.dropAnswer_eq queue]
  exact room

/-- Settles O37: each answer in window, late and stray. -/
theorem answersSettleOrReturnThePayout : Obligations.AnswersSettleOrReturnThePayout := by
  refine ⟨?_, ?_⟩
  · rintro s tag shop period rest r turn queue rfl
    refine ⟨fun k p first named of room => ?_, fun none_ doubt of tagged room => ?_, fun stray => ?_⟩
    · obtain ⟨signed, s1, granted⟩ := State.reserve_dropAnswer queue room
      have run := (exec_doneAnswer turn queue granted).1 k
        ((s.matchAnswer_eq_inWindow_iff tag shop period k).mpr ⟨signed, p, first, named, of⟩)
      rw [State.dropAnswer_eq queue] at granted
      have made := (State.commitDone_made granted tag shop false).rebase rfl
      generalize s1.commitDone tag shop false = u at run made
      obtain ⟨record, house, entry, slot, list, late, stray, last, settle, channels, nextTag, fault, raises, frame⟩ := made.freed k
      exact ⟨_, run, record, house, entry, slot, list, late, stray, last, settle, channels, nextTag, fault, raises, frame⟩
    · obtain ⟨signed, s1, granted⟩ := State.reserve_dropAnswer queue room
      have run := (exec_doneAnswer turn queue granted).2
        ((s.matchAnswer_eq_late_iff tag shop period).mpr ⟨signed, none_, doubt, of, tagged⟩)
      rw [State.dropAnswer_eq queue] at granted
      have made := (State.commitDone_made granted tag shop true).rebase rfl
      generalize s1.commitDone tag shop true = u at run made
      exact ⟨_, run, made.shop, made.house, made.entry, congrArg (fun p : PayoutUnit => { p with late := bump32 p.late }) made.plu,
        made.settle, made.channels, made.nextTag, made.fault, made.raises, made.frame⟩
    · simp [exec, execDoneAnswer, turn, queue, State.matchAnswer_stray stray, State.dropAnswer_eq queue, State.countStray, bump32]
  · rintro s tag shop period reason rest r turn queue rfl
    refine ⟨fun k p first named of room => ?_, fun none_ doubt of tagged room => ?_, fun stray => ?_⟩
    · obtain ⟨signed, s1, granted⟩ := State.reserve_dropAnswer queue room
      have run := (exec_backAnswer turn queue granted).1 k
        ((s.matchAnswer_eq_inWindow_iff tag shop period k).mpr ⟨signed, p, first, named, of⟩)
      rw [State.dropAnswer_eq queue] at granted
      obtain ⟨made, returned⟩ := State.commitBack_made granted tag shop reason false
      generalize s1.commitBack tag shop reason false = u at run made returned
      obtain ⟨record, house, entry, slot, list, late, stray, last, settle, channels, nextTag, fault, raises, frame⟩ :=
        (made.rebase rfl).freed k
      exact ⟨_, run, record, house, entry, slot, list, late, stray, last, settle, channels, nextTag, returned, fault,
        onlyRaises_mono raises (by decide), frame⟩
    · obtain ⟨signed, s1, granted⟩ := State.reserve_dropAnswer queue room
      have run := (exec_backAnswer turn queue granted).2
        ((s.matchAnswer_eq_late_iff tag shop period).mpr ⟨signed, none_, doubt, of, tagged⟩)
      rw [State.dropAnswer_eq queue] at granted
      obtain ⟨back, returned⟩ := State.commitBack_made granted tag shop reason true
      generalize s1.commitBack tag shop reason true = u at run back returned
      have made := back.rebase rfl
      exact ⟨_, run, made.shop, made.house, made.entry, congrArg (fun p : PayoutUnit => { p with late := bump32 p.late }) made.plu,
        made.settle, made.channels, made.nextTag, returned, made.fault, onlyRaises_mono made.raises (by decide), made.frame⟩
    · simp [exec, execBackAnswer, turn, queue, State.matchAnswer_stray stray, State.dropAnswer_eq queue, State.countStray, bump32]

/-! ### Answer deadlines -/

/-- A source that did not rise is not among those that may. -/
theorem onlyRaises_narrow {s t : State} {n : Nat} {l : List Nat} (raises : onlyRaises s t (n :: l))
    (same : t.attn.pending.getLsbD n = s.attn.pending.getLsbD n) : onlyRaises s t l := by
  intro m
  refine ⟨(raises m).1, fun other => ?_⟩
  by_cases is : m = n
  · exact is ▸ same
  · exact (raises m).2 (by simp [is, other])

/-- Settles O38: when the compare hands over an expiry, and what becomes of one taken. -/
theorem deadlinesPutPayoutsInDoubt : Obligations.DeadlinesPutPayoutsInDoubt := by
  refine ⟨fun s k p unwarned filled fresh due => ?_, fun s k blocked => ?_, fun s k tag rest turn queue => ⟨?_, fun gone => ?_⟩⟩
  · have is : reached s.time p.deadline = true := decide_eq_true due
    have run : exec (.payDeadlineReached k) s = .next { s.setSlot k (.filled { p with expired := true }) with
        settle.answers := s.settle.answers ++ [.deadline k p.tag] } := by
      simp [exec, execPayDeadlineReached, filled, unwarned, fresh, is]
    refine ⟨_, run, ⟨?_, fun j other => ?_⟩, rfl, rfl⟩
    · exact State.setSlot_slot_same s k (.filled { p with expired := true })
    · exact State.setSlot_slot_ne s k (.filled { p with expired := true }) other
  · cases slot : s.slot k with
    | filled p =>
      obtain warned | idle := blocked
      · simp [exec, execPayDeadlineReached, slot, warned]
      · obtain expired | early := idle p slot
        · simp [exec, execPayDeadlineReached, slot, expired]
        · have is : reached s.time p.deadline = false := decide_eq_false (Nat.not_lt.mpr early)
          simp [exec, execPayDeadlineReached, slot, is]
    | _ => simp [exec, execPayDeadlineReached, slot]
  · rintro p r filled rfl rfl room
    obtain ⟨-, s1, granted⟩ := State.reserve_dropAnswer queue room
    have run : exec .deadlineExpiry s = .next (s1.commitDoubt k p) := by
      simp only [exec, execDeadlineExpiry, turn, if_true, queue, filled, granted]
    rw [State.dropAnswer_eq queue] at granted
    obtain ⟨store, settle, -, -⟩ := State.reserve_leaves granted
    have made := s1.makeInDoubt_records p.shop
    have record : s1.shop p.shop = s.shop p.shop := by simp only [State.shop, store]
    unfold State.commitDoubt at run
    rw [record, store, settle] at made
    rw [record, settle] at run
    obtain ⟨raised, doubt⟩ := (outcome_of_records granted made
      (.payDoubt p.tag p.shop (s.shop p.shop).closing.period (s.shop p.shop).closing.amount .deadline)).raised .payoutInDoubt
        (by decide)
    obtain ⟨shop, house, entry, slot, list, late, stray, last, st, channels, nextTag, fault, raises, frame⟩ :=
      (raised.rebase rfl).freed k
    refine ⟨_, run, shop, house, entry, slot, list, late, stray, last, st, channels, nextTag, doubt, ?_, frame⟩
    exact onlyRaises_narrow (n := 1) (onlyRaises_mono raises (by decide)) (fault.trans (Bool.or_false _))
  · rw [← State.dropAnswer_eq queue]
    cases slot : s.slot k with
    | filled p => simp [exec, execDeadlineExpiry, turn, queue, slot, gone p slot]
    | _ => simp [exec, execDeadlineExpiry, turn, queue, slot]

/-! ### The visit -/

/-- The shop of a visit made current under the first of its two reservations (R153). -/
def State.readied (s : State) (k : Nat) : State := if s.behind k then s.commitRoll k else s.giveBack 1

/-- The channel of a visit advanced, CHANNEL_TC raised at terminal count (R155, R156). -/
def State.visitEnds (s : State) (v : Visit) (claimed : Bool) : State :=
  (s.setChannel v.channel ((s.channel v.channel).advance (s.setup v.channel) claimed)).raiseIf
    ((s.channel v.channel).remaining == 0) .channelTc

/-- A visit that has its reservations. -/
theorem State.serveVisit_granted {s s1 : State} (granted : s.reserve .general 2 = some s1) (v : Visit) :
    s.serveVisit v = (if ((s1.readied v.shop).shop v.shop).closing.state = .owed then
      ((s1.readied v.shop).claim v).visitEnds v true
      else (((s1.readied v.shop).setSlot v.slot .free).giveBack 1).visitEnds v false).grantSlots := by
  unfold State.serveVisit State.makeVisit State.readied State.visitEnds
  simp only [granted]
  generalize (if s1.behind v.shop = true then s1.commitRoll v.shop else s1.giveBack 1) = u
  split <;> rfl

theorem State.takeVisit_eq {s : State} {v : Visit} {rest : List Visit} (queue : s.settle.visits = v :: rest) :
    s.takeVisit = { s with settle := { s.settle with visits := rest, visitsHigher := false, wait := waitAfter s } } := by
  unfold State.takeVisit
  rw [State.noteWork_eq]
  simp [queue]

/-- The head visit is served in the state it is taken in. -/
theorem exec_channelVisit {s : State} {v : Visit} {rest : List Visit} (turn : s.nextWork = some .visit)
    (queue : s.settle.visits = v :: rest) : exec .channelVisit s = .next (s.takeVisit.serveVisit v) := by
  simp only [exec, execChannelVisit, turn, if_true, queue]

theorem marksFollow_refl (s : State) : marksFollow s s 0 0 := by
  have full : fullRaised s 0 = false := by
    simp only [fullRaised, Nat.add_zero, Bool.and_eq_false_imp, Bool.and_eq_true, decide_eq_true_eq, and_imp]
    omega
  have high : highRaised s 0 = false := by
    simp only [highRaised, Nat.add_zero, Bool.and_eq_false_imp, Bool.and_eq_true, decide_eq_true_eq, and_imp]
    omega
  simp [marksFollow, full, high]

/-- Attentions of two pieces of journal work, the second without a grant and with one entry at most. -/
theorem marksFollow_trans {s u t : State} {n j : Nat} (first : marksFollow s u n j) (second : marksFollow u t 0 1)
    (unack : u.unack = s.unack + j ∨ (s.unack = 0 ∧ u.unack ≤ 1 ∧ j ≤ 1)) : marksFollow s t n (j + 1) := by
  obtain ⟨fullHeld, full, highHeld, high⟩ := first
  obtain ⟨fullHeld', full', highHeld', high'⟩ := second
  have none_ : fullRaised u 0 = false := by
    simp only [fullRaised, Nat.add_zero, Bool.and_eq_false_imp, Bool.and_eq_true, decide_eq_true_eq, and_imp]
    omega
  have both : (highRaised s j || highRaised u 1) = highRaised s (j + 1) := by
    unfold highRaised
    rw [highHeld]
    unfold highRaised
    cases s.journal.highHeld
    · rw [Bool.eq_iff_iff]
      simp only [Bool.false_or, Bool.not_false, Bool.and_true, Bool.or_eq_true, Bool.and_eq_true,
        decide_eq_true_eq, Bool.not_eq_true', Bool.and_eq_false_imp, decide_eq_false_iff_not]
      omega
    · simp
  rw [none_, Bool.or_false] at fullHeld' full'
  exact ⟨fullHeld'.trans fullHeld, full'.trans full, by rw [highHeld', highHeld, Bool.or_assoc, both],
    by rw [high', high, Bool.or_assoc, both]⟩

/-- The shop of a visit is current and one reservation is left: what the first part of a visit has written. -/
structure VisitReady (s u : State) (k : Nat) (r : ShopRecord) (h : HouseRecord) (ring : List JournalEntry) (unrolled j : Nat)
    (full : Bool) : Prop where
  shop : shopWritten s u k r
  house : u.store.houseRec = h
  ring : u.store.ring = ring
  pointers : pointersPass { s with journal.reserved := s.journal.reserved + 1 } u j
  marks : marksFollow s u 2 j
  settle : u.settle = { s.settle with unrolled := unrolled }
  fault : settleFault s u full
  raises : onlyRaises s u [1, 4, 5]
  plu : u.plu = s.plu
  channels : u.channels = s.channels
  nextTag : u.store.nextTag = s.store.nextTag
  frame : settleFrame s u

/-- The entry of a roll of shop k as the next to be written. -/
def rollEntry (s : State) (k : Nat) : JournalEntry :=
  { seq := s.store.nextToWrite, time := s.time, period := s.settle.period, body := .roll (s.rollFor k).entry }

theorem visitReady_of_reserve {s s1 : State} (granted : s.reserve .general 2 = some s1) (k : Nat) :
    VisitReady s (s1.readied k) k (if s.behind k = true then (s.rollFor k).shop else s.shop k)
      (if s.behind k = true then
        houseAfter s.store.houseRec (s.store.house.has k) (s.rollFor k).entry.commission (s.rollFor k).entry.net
        else s.store.houseRec)
      (if s.behind k = true then
        (rollEntry s k :: s.store.ring).take Config.ringMax else s.store.ring)
      (if s.behind k = true then s.settle.unrolled - 1 else s.settle.unrolled) (if s.behind k = true then 1 else 0)
      (s.behind k && rollFull s k) := by
  obtain ⟨store, settle, only, frame⟩ := State.reserve_leaves granted
  have same : s1.behind k = s.behind k := (congrArg (fun x => x.behind k) frame :)
  unfold State.readied
  rw [same]
  cases behind : s.behind k
  · simp only [Bool.false_eq_true, if_false, Bool.false_and]
    have marks : marksFollow s1 (s1.giveBack 1) 0 0 := marksFollow_refl s1
    refine ⟨⟨?_, fun j _ => ?_⟩, ?_, ?_, ?_, marksFollow_grant granted marks, ?_, ?_, onlyRaises_mono only (by decide), ?_, ?_,
      ?_, ?_⟩
    · exact (congrArg (fun x => x.shop k) frame :)
    · exact (congrArg (fun x => x.shop j) frame :)
    · exact (congrArg (fun x => x.store.houseRec) frame :)
    · exact (congrArg (fun x => x.store.ring) frame :)
    · rw [(State.reserve_eq granted).2]
      cases fullRaised s 2 <;> simp [pointersPass, State.giveBack]
    · exact settle
    · exact ((only 1).2 (by decide)).trans (Bool.or_false _).symm
    · exact (congrArg State.plu frame :)
    · exact (congrArg State.channels frame :)
    · exact (congrArg (fun x => x.store.nextTag) frame :)
    · exact (congrArg (State.settlementOf s) frame :)
  · simp only [if_true, Bool.true_and]
    have made := rollMade_of_reserve granted (by decide) k
    obtain ⟨ring, pointers⟩ := made.entry
    exact ⟨made.shop, made.house, ring, pointers, made.marks, made.settle, made.fault, made.raises, made.plu, made.channels,
      made.nextTag, made.frame⟩

/-- The payout of a closing bank claimed now, under the next tag (R163, R170). -/
def claimedPayout (u : State) (v : Visit) (c : ClosingBank) : Payout :=
  { tag := u.store.nextTag, shop := v.shop, period := c.period, amount := c.amount,
    deadline := u.time + milliseconds u.store.settings.answerTimeout, sent := false, expired := false }

/-- The record of a claimed shop: EMITTED under its tag (R154). -/
def claimedShop (r : ShopRecord) (tag : Nat) : ShopRecord := { r with closing := { r.closing with state := .emitted, tag := some tag } }

/-- A claim before its entry. -/
def State.claimWrites (u : State) (v : Visit) : State :=
  { u with
    store.shops := Table.write ShopRecord.initial u.store.shops v.shop (claimedShop (u.shop v.shop) u.store.nextTag),
    store.nextTag := tagAfter u.store.nextTag, settle.openPayouts := u.settle.openPayouts + 1,
    plu.slots := Table.write Slot.free u.plu.slots v.slot (.filled (claimedPayout u v (u.shop v.shop).closing)),
    plu.payList := u.plu.payList ++ [v.slot],
    channels := Table.write Channel.initial u.channels v.channel
      { u.channel v.channel with emitted := bump32 (u.channel v.channel).emitted } }

/-- The entry of a claim (R154). -/
def claimEntry (tag : Nat) (v : Visit) (c : ClosingBank) : EntryBody := .payEmit tag v.shop c.period c.amount v.channel

theorem State.claim_eq (u : State) (v : Visit) : u.claim v =
    (u.claimWrites v).append u.settle.period (claimEntry u.store.nextTag v (u.shop v.shop).closing) := by
  unfold State.claim
  have filled : (u.setShop v.shop (claimedShop (u.shop v.shop) u.store.nextTag)).setSlot v.slot
      (.filled (claimedPayout u v (u.shop v.shop).closing)) =
    { u with
      store.shops := Table.write ShopRecord.initial u.store.shops v.shop (claimedShop (u.shop v.shop) u.store.nextTag),
      plu.slots := Table.write Slot.free u.plu.slots v.slot (.filled (claimedPayout u v (u.shop v.shop).closing)) } := rfl
  unfold claimedShop claimedPayout at filled
  dsimp only
  rw [filled]
  rfl

/-- What a claim writes (R134, R154, R163, R164). -/
structure Claimed (u w : State) (v : Visit) : Prop where
  shop : shopWritten u w v.shop
    (claimedShop (u.shop v.shop) u.store.nextTag)
  slot : slotWritten u w v.slot (.filled (claimedPayout u v (u.shop v.shop).closing))
  nextTag : w.store.nextTag = if u.store.nextTag = 65535 then 1 else u.store.nextTag + 1
  list : w.plu.payList = u.plu.payList ++ [v.slot]
  channel : channelWritten u w v.channel
    { u.channel v.channel with emitted := ((u.channel v.channel).emitted + 1) % 4294967296 }
  settle : w.settle = { u.settle with openPayouts := u.settle.openPayouts + 1 }
  entry : entryJoins { u with journal.reserved := u.journal.reserved - 1 } w u.settle.period (claimEntry u.store.nextTag v (u.shop v.shop).closing)
  marks : marksFollow u w 0 1
  raises : onlyRaises u w [5]
  frame : { w with plu.slots := u.plu.slots, plu.payList := u.plu.payList, settle := u.settle, channels := u.channels,
                   store.shops := u.store.shops, store.nextTag := u.store.nextTag, store.ring := u.store.ring,
                   store.nextToWrite := u.store.nextToWrite, journal := u.journal, attn.pending := u.attn.pending } = u

/-- The writes of a claim before its entry. -/
structure ClaimWritten (u x : State) (v : Visit) : Prop where
  shop : shopWritten u x v.shop (claimedShop (u.shop v.shop) u.store.nextTag)
  slot : slotWritten u x v.slot (.filled (claimedPayout u v (u.shop v.shop).closing))
  nextTag : x.store.nextTag = if u.store.nextTag = 65535 then 1 else u.store.nextTag + 1
  list : x.plu.payList = u.plu.payList ++ [v.slot]
  channel : channelWritten u x v.channel
    { u.channel v.channel with emitted := ((u.channel v.channel).emitted + 1) % 4294967296 }
  settle : x.settle = { u.settle with openPayouts := u.settle.openPayouts + 1 }
  journal : JournalKept u x
  frame : { x with plu.slots := u.plu.slots, plu.payList := u.plu.payList, settle := u.settle, channels := u.channels,
                   store.shops := u.store.shops, store.nextTag := u.store.nextTag } = u

theorem State.claimWrites_made (u : State) (v : Visit) : ClaimWritten u (u.claimWrites v) v where
  shop := ⟨Table.read_write_same _ _ _ _, fun _ other => Table.read_write_ne _ _ _ other⟩
  slot := ⟨Table.read_write_same Slot.free u.plu.slots v.slot (.filled (claimedPayout u v (u.shop v.shop).closing)), fun _ other =>
    Table.read_write_ne Slot.free u.plu.slots (.filled (claimedPayout u v (u.shop v.shop).closing)) other⟩
  nextTag := rfl
  list := rfl
  channel := ⟨Table.read_write_same _ _ _ _, fun _ other => Table.read_write_ne _ _ _ other⟩
  settle := rfl
  journal := ⟨rfl, rfl, rfl, rfl, rfl, rfl, rfl⟩
  frame := rfl

theorem State.claim_made (u : State) (v : Visit) : Claimed u (u.claim v) v := by
  rw [State.claim_eq]
  obtain ⟨shop, slot, nextTag, list, channel, settle, journal, frame⟩ := u.claimWrites_made v
  generalize u.claimWrites v = x at *
  have keeps := x.append_keeps u.settle.period (claimEntry u.store.nextTag v (u.shop v.shop).closing)
  have raises := x.append_raisesHigh u.settle.period (claimEntry u.store.nextTag v (u.shop v.shop).closing)
  obtain ⟨entry, marks⟩ := x.append_spec u.settle.period (claimEntry u.store.nextTag v (u.shop v.shop).closing)
  generalize x.append u.settle.period (claimEntry u.store.nextTag v (u.shop v.shop).closing) = w at *
  have shops : ∀ j, w.shop j = x.shop j := fun j => (congrArg (fun y => y.shop j) keeps :)
  have slots : ∀ j, w.slot j = x.slot j := fun j => (congrArg (fun y => y.slot j) keeps :)
  have channels : ∀ j, w.channel j = x.channel j := fun j => (congrArg (fun y => y.channel j) keeps :)
  have time : x.time = u.time := (congrArg State.time frame :)
  have pending : x.attn.pending = u.attn.pending := (congrArg (fun y => y.attn.pending) frame :)
  refine ⟨⟨(shops _).trans shop.1, fun j other => (shops j).trans (shop.2 j other)⟩,
    ⟨(slots _).trans slot.1, fun j other => (slots j).trans (slot.2 j other)⟩,
    (congrArg (fun y => y.store.nextTag) keeps :).trans nextTag, (congrArg (fun y => y.plu.payList) keeps :).trans list,
    ⟨(channels _).trans channel.1, fun j other => (channels j).trans (channel.2 j other)⟩,
    (congrArg State.settle keeps :).trans settle, ?_, marksFollow_of_kept journal marks,
    onlyRaises_trans (onlyRaises_of_eq _ pending) raises, ?_⟩
  · obtain ⟨ring, next, oldest, chip, -, -, -⟩ := journal
    simpa only [entryJoins, pointersPass, ring, next, oldest, chip, time] using entry
  · exact (congrArg (fun y : State => { y with
      plu.slots := u.plu.slots, plu.payList := u.plu.payList, settle := u.settle, channels := u.channels,
      store.shops := u.store.shops, store.nextTag := u.store.nextTag, store.ring := u.store.ring,
      store.nextToWrite := u.store.nextToWrite, journal := u.journal, attn.pending := u.attn.pending }) keeps :).trans
      (congrArg (fun y : State => { y with
        store.ring := u.store.ring, store.nextToWrite := u.store.nextToWrite, journal := u.journal,
        attn.pending := u.attn.pending }) frame :)

/-- The end of a visit writes its channel and raises CHANNEL_TC at terminal count. -/
theorem State.visitEnds_made (x : State) (v : Visit) (claimed : Bool) :
    let m := x.visitEnds v claimed
    channelWritten x m v.channel ((x.channel v.channel).advance (x.setup v.channel) claimed) ∧ onlyRaises x m [7] ∧
      ((x.channel v.channel).remaining = 0 → m.attn.pending.getLsbD 7 = true) ∧
      { m with channels := x.channels, attn.pending := x.attn.pending } = x := by
  unfold State.visitEnds
  dsimp only
  have raises := onlyRaises_raiseIf x ((x.channel v.channel).remaining == 0) .channelTc [7] (by decide)
  have last : (x.channel v.channel).remaining = 0 →
      (x.raiseIf ((x.channel v.channel).remaining == 0) .channelTc).attn.pending.getLsbD 7 = true := by
    intro zero
    rw [zero, beq_self_eq_true, State.raiseIf_true, State.raise_flag]
    simp [Source.number]
  have same := State.setChannel_channel_same x v.channel ((x.channel v.channel).advance (x.setup v.channel) claimed)
  have ne := fun j (other : j ≠ v.channel) =>
    State.setChannel_channel_ne x v.channel ((x.channel v.channel).advance (x.setup v.channel) claimed) other
  generalize ((x.channel v.channel).remaining == 0) = tc at *
  cases tc
  · exact ⟨⟨same, ne⟩, raises, last, rfl⟩
  · exact ⟨⟨same, ne⟩, raises, last, rfl⟩

/-- A state with all that a visit writes as in another. -/
def State.visitOf (s t : State) : State :=
  { t with plu.slots := s.plu.slots, plu.payList := s.plu.payList, settle := s.settle, channels := s.channels,
           store.shops := s.store.shops, store.houseRec := s.store.houseRec, store.nextTag := s.store.nextTag,
           store.ring := s.store.ring, store.nextToWrite := s.store.nextToWrite, journal := s.journal,
           attn.pending := s.attn.pending }

theorem State.visitOf_of_settlement {s t : State} (frame : settleFrame s t) (plu : t.plu = s.plu) : State.visitOf s t = s := by
  have same : State.visitOf s t = { State.settlementOf s t with
    plu := { t.plu with slots := s.plu.slots, payList := s.plu.payList } } := rfl
  rw [same, plu, (settleFrame_iff s t).mp frame]

/-- What a visit that claims leaves, from the state it was taken in. -/
theorem VisitReady.claimed {s u : State} {v : Visit} {r : ShopRecord} {h : HouseRecord} {ring : List JournalEntry}
    {unrolled j : Nat} {full : Bool} (ready : VisitReady s u v.shop r h ring unrolled j full) (one : j ≤ 1) :
    let m := (u.claim v).visitEnds v true
    onlyRaises s m [1, 4, 5, 7] ∧ ((s.channel v.channel).remaining = 0 → m.attn.pending.getLsbD 7 = true) ∧
      settleFault s m full ∧ marksFollow s m 2 (j + 1) ∧ m.store.houseRec = h ∧
      shopWritten s m v.shop (claimedShop r s.store.nextTag) ∧
      slotWritten s m v.slot (.filled (claimedPayout s v r.closing)) ∧
      m.store.nextTag = (if s.store.nextTag = 65535 then 1 else s.store.nextTag + 1) ∧ m.plu.payList = s.plu.payList ++ [v.slot] ∧
      channelWritten s m v.channel
        (Channel.advance { s.channel v.channel with emitted := ((s.channel v.channel).emitted + 1) % 4294967296 }
          (s.setup v.channel) true) ∧
      m.settle = { s.settle with unrolled := unrolled, openPayouts := s.settle.openPayouts + 1 } ∧
      m.store.ring = ({ seq := s.store.nextToWrite + j, time := s.time, period := s.settle.period,
                         body := claimEntry s.store.nextTag v r.closing } :: ring).take Config.ringMax ∧
      pointersPass s m (j + 1) ∧
      { m with plu.slots := s.plu.slots, plu.payList := s.plu.payList, settle := s.settle, channels := s.channels,
               store.shops := s.store.shops, store.houseRec := s.store.houseRec, store.nextTag := s.store.nextTag,
               store.ring := s.store.ring, store.nextToWrite := s.store.nextToWrite, journal := s.journal,
               attn.pending := s.attn.pending } = s := by
  obtain ⟨shopW, slotW, nextTagW, listW, channelW, settleW, entryW, marksW, raisesW, frameW⟩ := u.claim_made v
  obtain ⟨channelM, raisesM, lastM, frameM⟩ := (u.claim v).visitEnds_made v true
  obtain ⟨shopU, houseU, ringU, pointersU, marksU, settleU, faultU, raisesU, pluU, channelsU, nextTagU, frameU⟩ := ready
  generalize (u.claim v).visitEnds v true = m at *
  generalize u.claim v = w at *
  intro m'
  subst m'
  have timeU : u.time = s.time := (congrArg State.time frameU :)
  have settingsU : u.store.settings = s.store.settings := (congrArg (fun x => x.store.settings) frameU :)
  have setupW : w.setup v.channel = s.setup v.channel :=
    (congrArg (fun x => x.setup v.channel) frameW :).trans (congrArg (fun x => x.setup v.channel) frameU :)
  have channelU : ∀ c, u.channel c = s.channel c := fun c => by simp only [State.channel, channelsU]
  have slotU : ∀ j, u.slot j = s.slot j := fun j => by simp only [State.slot, pluU]
  have payout : claimedPayout u v r.closing = claimedPayout s v r.closing := by
    simp only [claimedPayout, nextTagU, timeU, settingsU]
  rw [shopU.1] at shopW slotW entryW
  rw [nextTagU] at shopW nextTagW entryW
  rw [payout] at slotW
  rw [pluU] at listW
  rw [channelU] at channelW
  rw [channelW.1, setupW] at channelM
  rw [channelW.1] at lastM
  have kept : JournalKept w m := ⟨(congrArg (fun x => x.store.ring) frameM :), (congrArg (fun x => x.store.nextToWrite) frameM :),
    (congrArg (fun x => x.store.oldestUnack) frameM :), (congrArg State.journal frameM :),
    (congrArg (fun x => x.store.signature) frameM :), (raisesM 4).2 (by decide), (raisesM 5).2 (by decide)⟩
  have raisesW' : onlyRaises s w [1, 4, 5] := onlyRaises_trans raisesU (onlyRaises_mono raisesW (by decide))
  obtain ⟨ring, pointers⟩ := entryJoins_kept entryW kept
  refine ⟨onlyRaises_trans (onlyRaises_mono raisesW' (by decide)) (onlyRaises_mono raisesM (by decide)), lastM, ?_,
    marksFollow_kept (marksFollow_trans marksU marksW ?_) kept, ?_, ⟨?_, fun k other => ?_⟩, ⟨?_, fun k other => ?_⟩, ?_, ?_,
    ⟨channelM.1, fun k other => ?_⟩, ?_, ?_, ?_, ?_⟩
  · rw [settleFault, (raisesM 1).2 (by decide), (raisesW 1).2 (by decide), faultU]
  · obtain ⟨next, oldest, -⟩ := pointersU
    have signed : u.store.signature = s.store.signature := (congrArg (fun x => x.store.signature) frameU :)
    simp only [State.unack, State.nextWrite, State.oldest, signed, next, oldest]
    split <;> omega
  · exact (congrArg (fun x => x.store.houseRec) frameM :).trans ((congrArg (fun x => x.store.houseRec) frameW :).trans houseU)
  · exact (congrArg (fun x => x.shop v.shop) frameM :).trans shopW.1
  · exact (congrArg (fun x => x.shop k) frameM :).trans ((shopW.2 k other).trans (shopU.2 k other))
  · exact (congrArg (fun x => x.slot v.slot) frameM :).trans slotW.1
  · exact (congrArg (fun x => x.slot k) frameM :).trans ((slotW.2 k other).trans (slotU k))
  · exact (congrArg (fun x => x.store.nextTag) frameM :).trans nextTagW
  · exact (congrArg (fun x => x.plu.payList) frameM :).trans listW
  · exact (channelM.2 k other).trans ((channelW.2 k other).trans (channelU k))
  · rw [(congrArg State.settle frameM :), settleW, settleU]
  · rw [ring, ringU]
    simp only [timeU, settleU, pointersU.1]
  · obtain ⟨next, oldest, reserved, stream, on, unit, interval, count⟩ := pointers
    obtain ⟨nextU, oldestU, reservedU, streamU, onU, unitU, intervalU, countU⟩ := pointersU
    refine ⟨next.trans ?_, oldest.trans oldestU, reserved.trans ?_, stream.trans streamU, on.trans onU, unit.trans unitU,
      interval.trans intervalU, count.trans ?_⟩
    · simp only [nextU, Nat.add_assoc]
    · simp only [reservedU, Nat.add_sub_cancel]
    · simp only [onU, unitU, countU]
      split <;> omega
  · exact (congrArg (State.visitOf s) frameM :).trans
      ((congrArg (State.visitOf s) frameW :).trans (State.visitOf_of_settlement frameU pluU))

/-- What a visit that releases its slot leaves, from the state it was taken in. -/
theorem VisitReady.released {s u : State} {v : Visit} {r : ShopRecord} {h : HouseRecord} {ring : List JournalEntry}
    {unrolled j : Nat} {full : Bool} (ready : VisitReady s u v.shop r h ring unrolled j full) :
    let m := ((u.setSlot v.slot .free).giveBack 1).visitEnds v false
    onlyRaises s m [1, 4, 5, 7] ∧ ((s.channel v.channel).remaining = 0 → m.attn.pending.getLsbD 7 = true) ∧
      settleFault s m full ∧ marksFollow s m 2 j ∧ m.store.houseRec = h ∧
      shopWritten s m v.shop r ∧ m.store.shops = u.store.shops ∧ slotWritten s m v.slot .free ∧
      m.store.nextTag = s.store.nextTag ∧ m.plu.payList = s.plu.payList ∧
      channelWritten s m v.channel (Channel.advance (s.channel v.channel) (s.setup v.channel) false) ∧
      m.settle = { s.settle with unrolled := unrolled } ∧ m.store.ring = ring ∧ pointersPass s m j ∧ State.visitOf s m = s := by
  obtain ⟨channelM, raisesM, lastM, frameM⟩ := ((u.setSlot v.slot .free).giveBack 1).visitEnds_made v false
  obtain ⟨shopU, houseU, ringU, pointersU, marksU, settleU, faultU, raisesU, pluU, channelsU, nextTagU, frameU⟩ := ready
  generalize ((u.setSlot v.slot .free).giveBack 1).visitEnds v false = m at *
  intro m'
  subst m'
  have setupU : u.setup v.channel = s.setup v.channel := (congrArg (fun x => x.setup v.channel) frameU :)
  have channelU : ∀ c, ((u.setSlot v.slot .free).giveBack 1).channel c = s.channel c := fun c => congrArg
    (fun x => Table.read Channel.initial x c) channelsU
  have slotU : ∀ j, u.slot j = s.slot j := fun j => by simp only [State.slot, pluU]
  have kept : JournalKept (u.giveBack 1) m := ⟨(congrArg (fun x => x.store.ring) frameM :),
    (congrArg (fun x => x.store.nextToWrite) frameM :), (congrArg (fun x => x.store.oldestUnack) frameM :),
    (congrArg State.journal frameM :), (congrArg (fun x => x.store.signature) frameM :), (raisesM 4).2 (by decide),
    (raisesM 5).2 (by decide)⟩
  rw [channelU] at channelM lastM
  refine ⟨onlyRaises_trans (onlyRaises_mono raisesU (by decide)) (onlyRaises_mono raisesM (by decide)), lastM, ?_,
    marksFollow_kept (m := u.giveBack 1) marksU kept, ?_, ⟨?_, fun k other => ?_⟩, (congrArg (fun x => x.store.shops) frameM :),
    ⟨?_, fun k other => ?_⟩, ?_, ?_, ⟨?_, fun k other => ?_⟩, ?_, ?_, ?_, ?_⟩
  · rw [settleFault, (raisesM 1).2 (by decide)]
    exact faultU
  · exact (congrArg (fun x => x.store.houseRec) frameM :).trans houseU
  · exact (congrArg (fun x => x.shop v.shop) frameM :).trans shopU.1
  · exact (congrArg (fun x => x.shop k) frameM :).trans (shopU.2 k other)
  · exact (congrArg (fun x => x.slot v.slot) frameM :).trans (State.setSlot_slot_same u v.slot .free)
  · exact (congrArg (fun x => x.slot k) frameM :).trans ((State.setSlot_slot_ne u v.slot .free other).trans (slotU k))
  · exact (congrArg (fun x => x.store.nextTag) frameM :).trans nextTagU
  · exact (congrArg (fun x => x.plu.payList) frameM :).trans (congrArg PayoutUnit.payList pluU :)
  · exact channelM.1.trans (congrArg (fun x => Channel.advance _ x false) setupU)
  · exact (channelM.2 k other).trans (channelU k)
  · exact (congrArg State.settle frameM :).trans settleU
  · exact kept.ring.trans ringU
  · obtain ⟨next, oldest, reserved, stream, on, unit, interval, count⟩ := pointersU
    have chip := kept.chip
    refine ⟨kept.next.trans next, kept.oldest.trans oldest, ?_, ?_, ?_, ?_, ?_, ?_⟩
    · rw [chip]
      simp [State.giveBack, reserved]
    · rw [chip]
      exact stream
    · rw [chip]
      exact on
    · rw [chip]
      exact unit
    · rw [chip]
      exact interval
    · rw [chip]
      exact count
  · have current : State.visitOf s ((u.setSlot v.slot .free).giveBack 1) = s := State.visitOf_of_settlement (t := u) frameU pluU
    exact (congrArg (State.visitOf s) frameM).trans current

theorem take_cons_take {α : Type} (n : Nat) (a : α) (l : List α) : (a :: l.take n).take n = (a :: l).take n := by
  cases n with
  | zero => rfl
  | succ n => simp [List.take_take]

/-- A channel whose visit was not made (R149, R153). -/
theorem Channel.unvisited_eq (v : Channel) : v.unvisited =
    if v.maskPending = true then { v with st := .idle, maskPending := false, slot := none }
    else { v with st := .waitSlot, slot := none } := rfl

/-- Without room for two reservations no slot is granted. -/
theorem State.grantSlots_of_noRoom {s : State} (noRoom : s.canReserve .general 2 = false) : s.grantSlots = s := by
  simp [State.grantSlots, State.grantUpTo, State.grantOnce, noRoom]

/-- Settles O34: the visit made ready, then claimed or released; or not made. -/
theorem aVisitClaimsAnOwedBank : Obligations.AVisitClaimsAnOwedBank := by
  rintro s v rest r c turn queue rfl rfl
  have run := exec_channelVisit turn queue
  rw [State.takeVisit_eq queue] at run
  refine ⟨fun room => ?_, fun noRoom => ?_⟩
  · obtain ⟨s1, granted⟩ := State.reserve_of_canReserve (s := { s with
      settle := { s.settle with visits := rest, visitsHigher := false, wait := waitAfter s } }) room
    have ready : VisitReady { s with settle := { s.settle with visits := rest, visitsHigher := false, wait := waitAfter s } }
        (s1.readied v.shop) v.shop (if s.behind v.shop = true then (s.rollFor v.shop).shop else s.shop v.shop)
        (if s.behind v.shop = true then
          houseAfter s.store.houseRec (s.store.house.has v.shop) (s.rollFor v.shop).entry.commission (s.rollFor v.shop).entry.net
          else s.store.houseRec)
        (if s.behind v.shop = true then (rollEntry s v.shop :: s.store.ring).take Config.ringMax else s.store.ring)
        (if s.behind v.shop = true then s.settle.unrolled - 1 else s.settle.unrolled)
        (if s.behind v.shop = true then 1 else 0) (s.behind v.shop && rollFull s v.shop) := visitReady_of_reserve granted v.shop
    rw [State.serveVisit_granted granted, ready.shop.1] at run
    have few : (if s.behind v.shop = true then 1 else 0) ≤ 1 := by split <;> decide
    by_cases owed : (if s.behind v.shop = true then (s.rollFor v.shop).shop else s.shop v.shop).closing.state = .owed
    · obtain ⟨raises, last, fault, marks, house, shop, slot, nextTag, list, channel, settle, ring, pointers, frame⟩ := ready.claimed few
      have ran := run.trans (congrArg (fun x => (.next (State.grantSlots x) : Out)) (if_pos owed))
      refine ⟨_, ran, raises, last, fault, ?_, house, ?_, ?_⟩
      · rw [if_pos owed]
        exact marks
      · rw [if_pos owed]
        refine ⟨shop, slot, nextTag, list, channel, settle, fun current => ?_, fun behind => ?_⟩
        · simp only [current, Bool.false_eq_true, if_false] at ring pointers ⊢
          exact ⟨ring, pointers⟩
        · simp only [behind, if_true] at ring pointers ⊢
          exact ⟨ring.trans (take_cons_take _ _ _), pointers⟩
      · exact (congrArg (fun x : State => { x with settle := s.settle }) frame :)
    · obtain ⟨raises, last, fault, marks, house, shop, shops, slot, nextTag, list, channel, settle, ring, pointers, frame⟩ := ready.released
      have ran := run.trans (congrArg (fun x => (.next (State.grantSlots x) : Out)) (if_neg owed))
      refine ⟨_, ran, raises, last, fault, ?_, house, ?_, ?_⟩
      · rw [if_neg owed]
        exact marks
      · rw [if_neg owed]
        refine ⟨?_, slot, nextTag, list, channel, settle, ?_⟩
        · rw [shops]
          cases behind : s.behind v.shop
          · obtain ⟨store, -, -, same⟩ := State.reserve_leaves granted
            have current : s1.behind v.shop = false := (congrArg (fun x => x.behind v.shop) same :).trans behind
            simp [State.readied, current, State.giveBack, store]
          · simp only [behind, if_true] at shop ⊢
            exact shop
        · cases behind : s.behind v.shop <;> simp only [behind, if_true, Bool.false_eq_true, if_false] at ring pointers ⊢ <;>
            exact ⟨ring, pointers⟩
      · exact (congrArg (fun x : State => { x with settle := s.settle }) frame :)
  · have none_ : State.reserve { s with settle := { s.settle with visits := rest, visitsHigher := false, wait := waitAfter s } }
        .general 2 = none := reserve_none_of noRoom
    simp only [State.serveVisit, none_, Channel.unvisited_eq] at run
    rw [State.grantSlots_of_noRoom (by exact noRoom)] at run
    refine ⟨_, run, ⟨?_, fun k other => ?_⟩, ⟨?_, fun k other => ?_⟩, rfl, rfl⟩
    · exact State.setSlot_slot_same s v.slot .free
    · exact State.setSlot_slot_ne s v.slot .free other
    · exact State.setChannel_channel_same s v.channel _
    · exact State.setChannel_channel_ne s v.channel _ other

end Sys2Proof.Machine
end

section
/-! PROOFS. The stream and the attention unit (chapters 10 and 11). -/

namespace Sys2Proof.Machine

/-! ### The stream -/

theorem optBytes_length (w absent : Nat) (v : Option Nat) : (optBytes w absent v).length = w := by
  cases v <;> simp [optBytes, bytesOf_length]

theorem flagByte_length (b : Bool) : (flagByte b).length = 1 := bytesOf_length 1 _

theorem intBytes_length (w : Nat) (v : Int) : (intBytes w v).length = w := bytesOf_length w _

theorem rewriteBytes_length (card : Nat) (rewrite : Option (CardRecord × Int)) : (rewriteBytes card rewrite).length = 35 := by
  cases rewrite <;> simp [rewriteBytes, cardFields, bytesOf_length, optBytes_length, intBytes_length]

theorem rollBytes_length (f : RollFields) : (rollBytes f).length = 114 := by
  unfold rollBytes
  repeat rw [List.length_append]
  simp only [bytesOf_length, flagByte_length, intBytes_length]

/-- Every entry fits the body of a STREAM frame behind the count (12.5). -/
theorem entryBytes_length_le (e : JournalEntry) : (entryBytes e).length ≤ 249 := by
  have fields : (entryFields e.body).length ≤ 237 := by
    cases e.body with
    | roll f => simp [entryFields, rollBytes_length]
    | _ => simp [entryFields, bytesOf_length, flagByte_length, optBytes_length, rewriteBytes_length]
  simp only [entryBytes, List.length_append, bytesOf_length]
  omega

/-- The streamable entries are the written ones from k on. -/
theorem State.streamable_entry (s : State) : ∀ n k i, i < (s.streamable n k).length →
    s.entry (k + i) = (s.streamable n k)[i]? ∧ k + i < s.nextWrite
  | 0, k, i, low => by simp [State.streamable] at low
  | n + 1, k, i, low => by
    unfold State.streamable at low ⊢
    split at low
    · next e found =>
      split at low
      · next written =>
        simp only [written, if_true]
        cases i with
        | zero => exact ⟨found, written⟩
        | succ i =>
          have rest := s.streamable_entry n (k + 1) i (by simpa using low)
          rw [Nat.add_right_comm, Nat.add_assoc] at rest
          exact rest
      · simp at low
    · simp at low

/-- They end before n of them only where no written entry follows. -/
theorem State.streamable_ends (s : State) : ∀ n k x, (s.streamable n k).length < n →
    s.entry (k + (s.streamable n k).length) = some x → s.nextWrite ≤ k + (s.streamable n k).length
  | 0, k, x, low, _ => by simp at low
  | n + 1, k, x, low, next => by
    unfold State.streamable at low next ⊢
    split at low
    · next e found =>
      by_cases written : k < s.nextWrite
      · simp only [found, written, if_true, List.length_cons] at low next ⊢
        have rest := s.streamable_ends n (k + 1) x (by omega)
        rw [Nat.add_right_comm, Nat.add_assoc] at rest
        exact rest next
      · simp only [written, if_false, List.length_nil, Nat.add_zero]
        omega
    · next none_ => simp [none_] at next

/-- What fits is a first part of the list, within the room, and what follows it does not fit. -/
theorem fitting_prefix : ∀ (room : Nat) (es : List JournalEntry), fitting room es <+: es
  | _, [] => List.prefix_refl []
  | room, e :: es => by
    unfold fitting
    split
    · exact List.cons_prefix_cons.mpr ⟨rfl, fitting_prefix _ es⟩
    · exact List.nil_prefix

theorem fitting_sum_le : ∀ (room : Nat) (es : List JournalEntry),
    ((fitting room es).map fun x => (entryBytes x).length).sum ≤ room
  | _, [] => Nat.zero_le _
  | room, e :: es => by
    unfold fitting
    split
    · next fits =>
      have rest := fitting_sum_le (room - (entryBytes e).length) es
      simp only [List.map_cons, List.sum_cons]
      omega
    · exact Nat.zero_le _

theorem fitting_next : ∀ (room : Nat) (es : List JournalEntry) (x : JournalEntry), es[(fitting room es).length]? = some x →
    room < ((fitting room es).map fun y => (entryBytes y).length).sum + (entryBytes x).length
  | _, [], x, next => by simp at next
  | room, e :: es, x, next => by
    unfold fitting at next ⊢
    split at next
    · next fits =>
      have rest := fitting_next (room - (entryBytes e).length) es x (by simpa using next)
      simp only [fits, if_true, List.map_cons, List.sum_cons]
      omega
    · next tight =>
      obtain rfl : e = x := by simpa using next
      simp only [tight, if_false, List.map_nil, List.sum_nil]
      omega

theorem fitting_head {room : Nat} {e : JournalEntry} {es : List JournalEntry} (fits : (entryBytes e).length ≤ room) :
    (fitting room (e :: es)).head? = some e := by
  simp [fitting, fits]

theorem State.streamable_length_le (s : State) : ∀ n k, (s.streamable n k).length ≤ n
  | 0, k => Nat.zero_le 0
  | n + 1, k => by
    unfold State.streamable
    split
    · split
      · exact Nat.succ_le_succ (s.streamable_length_le n (k + 1))
      · exact Nat.zero_le _
    · exact Nat.zero_le _

/-- Settles O39: the mark without a frame, and the frame of what fits. -/
theorem aStreamFrameIsFormedAtAMark : Obligations.AStreamFrameIsFormedAtAMark := by
  intro s on due
  refine ⟨fun blocked => ?_, fun e unwarned empty behind first => ?_⟩
  · have none_ : (s.pfw || s.officeLink.streamPlace.isSome || s.streamEntries.isEmpty ||
        decide (s.nextWrite ≤ s.journal.nextStream)) = true := by
      obtain warned | waits | end_ := blocked
      · simp [warned]
      · simp [Option.isSome_iff_ne_none.mpr waits]
      · simp [end_]
    simp only [exec, execStreamMark, on, due, none_, decide_true, Bool.and_self, if_true]
  · have written : s.streamable 4 s.journal.nextStream = e :: s.streamable 3 (s.journal.nextStream + 1) := by
      rw [State.streamable]
      simp only [first, behind, if_true]
    have starts : s.streamEntries.head? = some e := by
      rw [State.streamEntries, written]
      exact fitting_head (entryBytes_length_le e)
    have part : s.streamEntries <+: s.streamable 4 s.journal.nextStream := fitting_prefix _ _
    have entries : ∀ i, i < s.streamEntries.length →
        s.entry (s.journal.nextStream + i) = s.streamEntries[i]? ∧ s.journal.nextStream + i < s.nextWrite := fun i low => by
      obtain ⟨same, before⟩ := s.streamable_entry 4 s.journal.nextStream i (low.trans_le part.length_le)
      exact ⟨same.trans (List.prefix_iff_getElem?.mp part i low ▸ (List.getElem?_eq_getElem low).symm), before⟩
    have some_ : s.streamEntries ≠ [] := by
      intro none_
      simp [none_] at starts
    have positive := List.length_pos_iff.mpr some_
    refine ⟨s.streamEntries, starts, part.length_le.trans (s.streamable_length_le 4 _), ?_, ?_, fun i low => (entries i low).1,
      fun x short before next => ?_, ?_⟩
    · have sum := fitting_sum_le 249 (s.streamable 4 s.journal.nextStream)
      simp only [State.streamEntries]
      omega
    · have last := (entries (s.streamEntries.length - 1) (by omega)).2
      omega
    · rcases part.length_le.lt_or_eq with more | all
      · have at_ := (s.streamable_entry 4 s.journal.nextStream _ more).1.symm.trans next
        have tight := fitting_next 249 _ x at_
        simp only [State.streamEntries]
        omega
      · rw [all] at short before next
        exact absurd (s.streamable_ends 4 s.journal.nextStream x short next) (Nat.not_le.mpr before)
    · have formed : (s.pfw || s.officeLink.streamPlace.isSome || s.streamEntries.isEmpty ||
          decide (s.nextWrite ≤ s.journal.nextStream)) = false := by
        simp [unwarned, empty, some_, behind]
      simp only [exec, execStreamMark, on, due, formed, decide_true, Bool.and_self, if_true, Bool.false_eq_true, if_false]

/-! ### The attention unit -/

theorem Attention.ready_iff (a : Attention) (n : Nat) :
    a.ready n = true ↔ a.pending.getLsbD n = true ∧ a.mask.getLsbD n = false := by simp [Attention.ready]

/-- The search of the rotating modes: the first ready source after the rotating lowest (R192). -/
theorem Attention.chooseRotating {a : Attention} {n d : Nat} (fixed : a.mode ≠ .fixed) (low : d ≤ 7)
    (is : n = (a.lowest + 1 + d) % 8) (ready : a.ready n = true)
    (before : ∀ j, j < d → a.ready ((a.lowest + 1 + j) % 8) = false) : a.choose = some n := by
  have found : firstFrom (fun i => a.ready (i % 8)) 8 (a.lowest + 1) = some (a.lowest + 1 + d) := by
    refine (firstFrom_eq_some_iff _ _ _ _).mpr ⟨by omega, by omega, is ▸ ready, fun j high less => ?_⟩
    obtain ⟨m, rfl⟩ := Nat.exists_eq_add_of_le high
    exact before m (by omega)
  unfold Attention.choose
  cases mode : a.mode with
  | fixed => exact absurd mode fixed
  | _ => simp only [found, Option.map_some, is]

/-- A chosen source is one of the eight, pending and not masked. -/
theorem Attention.choose_ready {a : Attention} {n : Nat} (chosen : a.choose = some n) : n ≤ 7 ∧ a.ready n = true := by
  have rotated : ∀ m, (firstFrom (fun i => a.ready (i % 8)) 8 (a.lowest + 1)).map (fun i => i % 8) = some m →
      m ≤ 7 ∧ a.ready m = true := by
    intro m found
    obtain ⟨i, first, rfl⟩ := Option.map_eq_some_iff.mp found
    exact ⟨by omega, (firstFrom_spec _ _ _ _ first).2.2.1⟩
  unfold Attention.choose at chosen
  split at chosen
  · obtain ⟨-, small, ready, -⟩ := firstFrom_spec _ _ _ _ chosen
    exact ⟨by omega, ready⟩
  · exact rotated n chosen
  · exact rotated n chosen

/-- Settles O40: nothing is chosen, or the search of the mode finds the source. -/
theorem attentionIsChosenByMode : Obligations.AttentionIsChosenByMode := by
  refine ⟨fun s blocked => ?_, fun s free empty n unwarned low pending unmasked => ⟨fun mode before => ?_, ?_⟩⟩
  · obtain warned | serves | waits | masked := blocked
    · simp [exec, execAttnChoice, warned]
    · simp [exec, execAttnChoice, Option.isSome_iff_ne_none.mpr serves]
    · simp [exec, execAttnChoice, Option.isSome_iff_ne_none.mpr waits]
    · have none_ : s.attn.choose = none := by
        refine Option.eq_none_iff_forall_ne_some.mpr fun n chosen => ?_
        obtain ⟨low, ready⟩ := Attention.choose_ready chosen
        obtain ⟨pending, unmasked⟩ := (s.attn.ready_iff n).mp ready
        simp [masked n low pending] at unmasked
      simp [exec, execAttnChoice, none_]
  · have ready := (s.attn.ready_iff n).mpr ⟨pending, unmasked⟩
    have chosen : s.attn.choose = some n := by
      simp only [Attention.choose, mode]
      refine (firstFrom_eq_some_iff _ _ _ _).mpr ⟨Nat.zero_le n, by omega, ready, fun j _ less => ?_⟩
      simpa [Attention.ready] using before j less
    simp [exec, execAttnChoice, unwarned, free, empty, chosen, Attention.take, mode, sourceBit]
  · intro d small is before
    have ready := (s.attn.ready_iff n).mpr ⟨pending, unmasked⟩
    have none_ : ∀ j, j < d → s.attn.ready ((s.attn.lowest + 1 + j) % 8) = false := fun j less => by
      simpa [Attention.ready] using before j less
    refine ⟨fun mode => ?_, fun mode => ?_⟩
    · have chosen := Attention.chooseRotating (by simp [mode]) small is ready none_
      simp [exec, execAttnChoice, unwarned, free, empty, chosen, Attention.take, mode, sourceBit]
    · have chosen := Attention.chooseRotating (by simp [mode]) small is ready none_
      simp [exec, execAttnChoice, unwarned, free, empty, chosen, Attention.take, mode, sourceBit, Attention.endService]

end Sys2Proof.Machine
end

section
/-! PROOFS. The recovery passes and the end of recovery (chapters 3, 7 and 10). -/

namespace Sys2Proof.Machine

/-! ### The passes -/

theorem State.passRuns_iff (s : State) : s.passRuns = true ↔ passes s := by
  simp [State.passRuns, passes, and_assoc]

/-- The card pass takes the record at its cursor. -/
theorem exec_cardPassRecord {s : State} (runs : passes s) (more : s.recovery.cardCursor < s.cap) :
    exec .cardPassRecord s =
      .next { s.cardPass s.recovery.cardCursor with recovery.cardCursor := s.recovery.cardCursor + 1 } := by
  simp [exec, execCardPassRecord, s.passRuns_iff.mpr runs, more]

/-- A noted fault that was not listed joins the list, or the list overflows. -/
theorem noteFault_ledger {s : State} {serial : Nat} (fresh : serial ∉ s.ledger.faults) :
    (s.ledger.faults.length < 16 → (s.noteFault serial).ledger = { s.ledger with faults := s.ledger.faults ++ [serial] }) ∧
      (16 ≤ s.ledger.faults.length → (s.noteFault serial).ledger = { s.ledger with faultOverflow := true }) := by
  unfold State.noteFault
  rw [if_neg fresh]
  refine ⟨fun room => ?_, fun full => ?_⟩
  · rw [if_pos room]
    rfl
  · rw [if_neg (Nat.not_lt.mpr full)]
    rfl

/-- Settles O41: a record without held amounts, with some, and a faulty one. -/
theorem theCardPassReleasesHolds : Obligations.TheCardPassReleasesHolds := by
  rintro s serial r runs more rfl rfl
  have run := exec_cardPassRecord runs more
  unfold State.cardPass at run
  refine ⟨fun sound held count => ?_, fun sound some_ => ?_, fun faults listed => ?_, fun faults fresh => ?_⟩
  · rw [run]
    simp [sound, held, count]
  · simp only [sound, Bool.false_eq_true, if_false, some_, if_true] at run
    refine ⟨_, run, ⟨?_, fun k other => ?_⟩, rfl, rfl⟩
    · exact State.setCard_card_same s s.recovery.cardCursor _
    · exact State.setCard_card_ne s s.recovery.cardCursor _ other
  · rw [run]
    simp only [faults, if_true, noteFault_of_listed listed]
  · simp only [faults, if_true] at run
    obtain ⟨-, -, pending⟩ := faultNoted_noteFault s s.recovery.cardCursor
    have raises := onlyRaises_noteFault s s.recovery.cardCursor
    rw [if_neg fresh] at raises
    obtain ⟨joins, overflows⟩ := noteFault_ledger fresh
    have rest := noteFault_rest s s.recovery.cardCursor
    generalize s.noteFault s.recovery.cardCursor = t at *
    refine ⟨_, run, joins, overflows, ?_, pending fresh, raises, ?_⟩
    · rw [show t.recovery = s.recovery from (congrArg State.recovery rest :)]
    · exact (congrArg (fun x : State => { x with ledger := s.ledger, recovery := s.recovery }) rest :)

/-! ### The doubt pass and the counts -/

theorem State.emittedShop_eq_some_iff (s : State) (k : Nat) : s.emittedShop = some k ↔
    k ≤ 511 ∧ (s.shop k).closing.state = .emitted ∧ ∀ j, j < k → (s.shop j).closing.state ≠ .emitted := by
  simp only [State.emittedShop, firstFrom_eq_some_iff, decide_eq_true_eq, decide_eq_false_iff_not, zero_le, true_and, zero_add,
    forall_const, Config.shops, Nat.lt_succ_iff, ne_eq]

theorem State.emittedShop_eq_none_iff (s : State) :
    s.emittedShop = none ↔ ∀ k, k ≤ 511 → (s.shop k).closing.state ≠ .emitted := by
  constructor
  · intro none_ k low
    exact of_decide_eq_false (firstFrom_none _ _ _ none_ k (Nat.zero_le k) (by simpa using Nat.lt_succ_of_le low))
  · intro clear
    refine Option.eq_none_iff_forall_ne_some.mpr fun k found => ?_
    obtain ⟨low, emitted, -⟩ := (s.emittedShop_eq_some_iff k).mp found
    exact clear k low emitted

/-- A count is the length of what the predicate selects. -/
theorem countBelow_eq (p : Nat → Bool) (n : Nat) : countBelow p n = ((List.range n).filter p).length := by
  induction n with
  | zero => rfl
  | succ n ih =>
    rw [countBelow, ih, List.range_succ, List.filter_append, List.length_append]
    cases h : p n <;> simp [h]

/-- With no shop EMITTED the counts are made, if they have not been, and nothing else happens. -/
theorem State.makeCounts_made {s : State} (clear : ∀ k, k ≤ 511 → (s.shop k).closing.state ≠ .emitted) :
    onlyCounts s s.makeCounts := by
  have none_ := s.emittedShop_eq_none_iff.mpr clear
  cases counted : s.recovery.counted with
  | true =>
    have same : s.makeCounts = s := by simp [State.makeCounts, counted]
    rw [same]
    refine ⟨by simp [countedSettle, counted], ?_, by simp [countsRaised, countSources, counted], onlyRaises_of_eq _ rfl, rfl⟩
    rw [← counted]
  | false =>
    have made : s.makeCounts = State.raiseIf { s with settle := countedSettle s, recovery.counted := true }
        (decide (0 < s.recovery.doubted)) .payoutInDoubt := by
      simp only [State.makeCounts, counted, none_, Option.isSome_none, Bool.or_self, Bool.false_eq_true, if_false, countBelow_eq,
        countedSettle]
      rfl
    have raises := onlyRaises_raiseIf s (decide (0 < s.recovery.doubted)) .payoutInDoubt [2] (by decide)
    rw [made]
    by_cases doubted : 0 < s.recovery.doubted
    · simp only [doubted, decide_true] at raises ⊢
      refine ⟨rfl, rfl, ?_, ?_, rfl⟩
      · simp [countsRaised, countSources, counted, doubted, State.raise_flag, Source.number, -State.raise_attn_pending]
      · simp only [countSources, counted, doubted, and_self, if_true]
        exact raises
    · simp only [doubted, decide_false]
      refine ⟨rfl, rfl, by simp [countsRaised, countSources, doubted], onlyRaises_of_eq _ rfl, rfl⟩

/-- The counts are not made while a shop is EMITTED. -/
theorem State.makeCounts_held {s : State} {k : Nat} (low : k ≤ 511) (emitted : (s.shop k).closing.state = .emitted) :
    s.makeCounts = s := by
  have some_ : s.emittedShop.isSome = true := by
    rw [Option.isSome_iff_ne_none, Ne, s.emittedShop_eq_none_iff]
    exact fun clear => clear k low emitted
  simp [State.makeCounts, some_]

theorem countSources_subset (s : State) : ∀ n ∈ countSources s, n = 2 := by
  unfold countSources
  split <;> simp

/-- The counts leave the journal. -/
theorem onlyCounts.journal {s t : State} (counts : onlyCounts s t) : JournalKept s t := by
  obtain ⟨-, -, -, raises, rest⟩ := counts
  have kept : ∀ n, n ≠ 2 → t.attn.pending.getLsbD n = s.attn.pending.getLsbD n := fun n ne =>
    (raises n).2 fun mem => ne (countSources_subset s n mem)
  exact ⟨(congrArg (fun x => x.store.ring) rest :), (congrArg (fun x => x.store.nextToWrite) rest :),
    (congrArg (fun x => x.store.oldestUnack) rest :), (congrArg State.journal rest :),
    (congrArg (fun x => x.store.signature) rest :), kept 4 (by decide), kept 5 (by decide)⟩

/-- An outcome that leaves the house record, the window, the channels and the next tag. -/
theorem OutcomeMade.rest {s m : State} {k : Nat} {r : ShopRecord} {st : Settle} {full : Bool} {sources : List Nat}
    {body : EntryBody} (made : OutcomeMade s m k r s.store.houseRec st full sources body) :
    { m with settle := s.settle, store.shops := s.store.shops, store.ring := s.store.ring,
             store.nextToWrite := s.store.nextToWrite, journal := s.journal, attn.pending := s.attn.pending } = s := by
  have frame := (settleFrame_iff s m).mp made.frame
  have parts : { m with settle := s.settle, store.shops := s.store.shops, store.ring := s.store.ring,
                        store.nextToWrite := s.store.nextToWrite, journal := s.journal, attn.pending := s.attn.pending } =
      { State.settlementOf s m with channels := m.channels, plu := m.plu, store.houseRec := m.store.houseRec,
                                    store.nextTag := m.store.nextTag } := rfl
  rw [parts, frame, made.channels, made.plu, made.house, made.nextTag]

/-- RECOVERY_DOUBT of the lowest EMITTED shop under its reservation (R141). -/
theorem exec_recoveryDoubt {s : State} {k : Nat} (runs : passes s) (first : s.emittedShop = some k)
    (room : s.canReserve .whole 1 = true) :
    ∃ u, OutcomeMade s u k { s.shop k with closing := { (s.shop k).closing with state := .inDoubt } } s.store.houseRec s.settle
        false [1, 4, 5]
        (.payDoubt ((s.shop k).closing.tag.getD 0) k (s.shop k).closing.period (s.shop k).closing.amount .recovery) ∧
      exec .recoveryDoubt s = .next (State.makeCounts { u with recovery.doubted := s.recovery.doubted + 1 }) := by
  obtain ⟨s1, granted⟩ := State.reserve_of_canReserve room
  obtain ⟨store, settle, -, -⟩ := State.reserve_leaves granted
  have record : s1.shop k = s.shop k := by simp only [State.shop, store]
  have made := s1.makeInDoubt_records k
  rw [record, store, settle] at made
  refine ⟨_, outcome_of_records granted made _, ?_⟩
  simp only [exec, execRecoveryDoubt, s.passRuns_iff.mpr runs, if_true, first, granted, State.makeInDoubt, record]

/-- Settles O42: the outcome of the doubted shop, then the counts if it was the last. -/
theorem theRecoveryPassDoubtsEmittedShops : Obligations.TheRecoveryPassDoubtsEmittedShops := by
  rintro s k r runs low rfl emitted lowest room
  obtain ⟨u, made, run⟩ := exec_recoveryDoubt runs ((s.emittedShop_eq_some_iff k).mpr ⟨low, emitted, lowest⟩) room
  have kept : u.recovery = s.recovery := (congrArg State.recovery made.rest :)
  have narrow : onlyRaises s u [4, 5] := onlyRaises_narrow made.raises (made.fault.trans (Bool.or_false _))
  by_cases more : ∃ j, j ≤ 511 ∧ j ≠ k ∧ (s.shop j).closing.state = .emitted
  · obtain ⟨j, small, other, waits⟩ := more
    rw [State.makeCounts_held (k := j) small (by exact (congrArg (fun x => x.closing.state) (made.shop.2 j other)).trans waits)]
      at run
    refine ⟨_, run, made.shop, made.entry, by rw [kept], onlyRaises_mono narrow (by decide), fun _ => ⟨made.settle, ?_⟩, ?_, ?_⟩
    · rw [kept]
    · exact fun _ clear => absurd waits (clear j small other)
    · exact (congrArg (fun x : State => { x with recovery := s.recovery }) made.rest :)
  · have clear : ∀ j, j ≤ 511 → (u.shop j).closing.state ≠ .emitted := by
      intro j small
      by_cases other : j = k
      · rw [other, made.shop.1]
        simp
      · rw [made.shop.2 j other]
        exact fun waits => more ⟨j, small, other, waits⟩
    have counts := State.makeCounts_made (s := { u with recovery.doubted := s.recovery.doubted + 1 }) clear
    have journal : JournalKept u (State.makeCounts { u with recovery.doubted := s.recovery.doubted + 1 }) :=
      ⟨counts.journal.ring, counts.journal.next, counts.journal.oldest, counts.journal.chip, counts.journal.signed,
        counts.journal.full, counts.journal.high⟩
    obtain ⟨settle, recovery, raised, raises, rest⟩ := counts
    generalize State.makeCounts { u with recovery.doubted := s.recovery.doubted + 1 } = t at *
    have two : onlyRaises u t [2] := onlyRaises_mono raises fun n mem => by simp [countSources_subset _ n mem]
    have counted : t.recovery = { s.recovery with doubted := s.recovery.doubted + 1, counted := true } := by
      rw [recovery, kept]
    refine ⟨t, run, ⟨?_, fun j other => ?_⟩, oneEntry_kept made.entry journal, ?_, ?_, fun some_ => absurd some_ more,
      fun fresh _ => ⟨?_, ?_, ?_⟩, ?_⟩
    · exact (congrArg (fun x => x.shop k) rest :).trans made.shop.1
    · exact (congrArg (fun x => x.shop j) rest :).trans (made.shop.2 j other)
    · rw [counted]
    · exact onlyRaises_trans (onlyRaises_mono narrow (by decide)) (onlyRaises_mono two (by decide))
    · rw [counted]
    · exact raised 2 (by simp [countSources, kept, fresh])
    · rw [settle]
      have period : ∀ j, (u.shop j).bank.period = (s.shop j).bank.period := fun j => by
        by_cases is : j = k
        · rw [is, made.shop.1]
        · rw [made.shop.2 j is]
      have state : ∀ j, (u.shop j).closing.state = .inDoubt ↔ j = k ∨ (s.shop j).closing.state = .inDoubt := fun j => by
        by_cases is : j = k
        · rw [is, made.shop.1]
          simp
        · rw [made.shop.2 j is]
          simp [is]
      have notCounted : ¬(u.recovery.counted = true) := by simp [kept, fresh]
      refine (if_neg notCounted).trans ?_
      simp only [← period, ← state, made.settle]
      rfl
    · exact (congrArg (fun x : State => { x with
        settle := s.settle, recovery := s.recovery, store.shops := s.store.shops, store.ring := s.store.ring,
        store.nextToWrite := s.store.nextToWrite, journal := s.journal, attn.pending := s.attn.pending }) rest :).trans
        (congrArg (fun x : State => { x with recovery := s.recovery }) made.rest :)

/-! ### The replay -/

theorem State.nextReplay_of {s : State} {e : JournalEntry} {eff : Effect} (next : replayNext s e eff) :
    s.nextReplay = some e := by
  obtain ⟨newer, older, ring, above, posts, first⟩ := next
  have none_ : older.reverse.find? (fun x => decide (s.store.houseRec.mark < x.seq) && (effectOfEntry x.body).isSome) = none := by
    refine List.find?_eq_none.mpr fun x mem => ?_
    by_cases unapplied : s.store.houseRec.mark < x.seq
    · simp [first x (List.mem_reverse.mp mem) unapplied]
    · simp [unapplied]
  rw [State.nextReplay, ring, List.reverse_append, List.reverse_cons, List.append_assoc, List.find?_append, none_]
  simp [above, posts]

theorem State.nextReplay_none {s : State} (done : passesDone s) : s.nextReplay = none := by
  refine List.find?_eq_none.mpr fun x mem => ?_
  by_cases unapplied : s.store.houseRec.mark < x.seq
  · simp [done.2 x (List.mem_reverse.mp mem) unapplied]
  · simp [unapplied]

/-- ACCRUAL_REPLAY once no shop is EMITTED: the entry's accrual is applied to its current shop, or the pass holds. -/
theorem exec_accrualReplay {s : State} {e : JournalEntry} {eff : Effect} (runs : passes s)
    (clear : ∀ k, k ≤ 511 → (s.shop k).closing.state ≠ .emitted) (next : replayNext s e eff) :
    (∀ u, s.makeCounts.rollForEffect eff = some u →
      exec .accrualReplay s = .next { u.applyEffect eff e.seq with recovery.replayed := s.recovery.replayed + 1 }) ∧
    (s.makeCounts.rollForEffect eff = none → exec .accrualReplay s = .next s.makeCounts) := by
  have posts : effectOfEntry e.body = some eff := by
    obtain ⟨-, -, -, -, posts, -⟩ := next
    exact posts
  have found : s.makeCounts.nextReplay = some e := by
    obtain ⟨-, -, -, -, rest⟩ := State.makeCounts_made clear
    exact (congrArg State.nextReplay rest :).trans (State.nextReplay_of next)
  have none_ := s.emittedShop_eq_none_iff.mpr clear
  refine ⟨fun u rolled => ?_, fun held => ?_⟩
  · simp only [exec, execAccrualReplay, s.passRuns_iff.mpr runs, none_, Option.isNone_none, Bool.and_self, if_true, found, posts,
      rolled]
  · simp only [exec, execAccrualReplay, s.passRuns_iff.mpr runs, none_, Option.isNone_none, Bool.and_self, if_true, found, posts,
      held]

/-- An entry from a state with the same journal and time. -/
theorem oneEntry_of_kept {s m t : State} {period : Nat} {body : EntryBody} (kept : JournalKept s m) (time : m.time = s.time)
    (entry : oneEntry m t period body) : oneEntry s t period body := by
  refine ⟨?_, marksFollow_of_kept kept entry.2⟩
  have joins := entry.1
  obtain ⟨ring, next, oldest, chip, -, -, -⟩ := kept
  simpa only [entryJoins, pointersPass, ring, next, oldest, chip, time] using joins

/-- What a raise behind the counts leaves of them. -/
theorem countsRaised_mono {s u t : State} {l : List Nat} (raised : countsRaised s u) (raises : onlyRaises u t l) :
    countsRaised s t := fun n mem => (raises n).1 (raised n mem)

theorem onlyCounts.fault {s u : State} (counts : onlyCounts s u) : u.attn.pending.getLsbD 1 = s.attn.pending.getLsbD 1 := by
  obtain ⟨-, -, -, raises, -⟩ := counts
  exact (raises 1).2 fun mem => absurd (countSources_subset s 1 mem) (by decide)

/-- The shop of an effect that needs its roll, and the state of the roll. -/
theorem onlyCounts.rollFor {s u : State} (counts : onlyCounts s u) (k : Nat) : u.rollFor k = s.rollFor k := by
  obtain ⟨settle, -, -, -, rest⟩ := counts
  have period : u.settle.period = s.settle.period := by
    rw [settle, countedSettle]
    split <;> rfl
  have same : u.rollFor k = rollOf k (s.shop k) (s.store.house.has k) s.store.settings.payoutMin u.settle.period :=
    (congrArg (fun x : State => rollOf k (x.shop k) (x.store.house.has k) x.store.settings.payoutMin u.settle.period) rest :)
  rw [same, period]
  rfl

/-- A roll leaves the window, the channels and the next tag. -/
theorem RollMade.rest {s m : State} {k n : Nat} (made : RollMade s m k n) :
    { m with settle := s.settle, store.shops := s.store.shops, store.houseRec := s.store.houseRec, store.ring := s.store.ring,
             store.nextToWrite := s.store.nextToWrite, journal := s.journal, attn.pending := s.attn.pending } = s := by
  have frame := (settleFrame_iff s m).mp made.frame
  have parts : { m with settle := s.settle, store.shops := s.store.shops, store.houseRec := s.store.houseRec,
                        store.ring := s.store.ring, store.nextToWrite := s.store.nextToWrite, journal := s.journal,
                        attn.pending := s.attn.pending } =
      { State.settlementOf s m with channels := m.channels, plu := m.plu, store.nextTag := m.store.nextTag } := rfl
  rw [parts, frame, made.channels, made.plu, made.nextTag]

/-- A state with all that a replay writes as in another. -/
def State.replayOf (s t : State) : State :=
  { t with settle := s.settle, recovery := s.recovery, store.shops := s.store.shops, store.houseRec := s.store.houseRec,
           store.ring := s.store.ring, store.nextToWrite := s.store.nextToWrite, journal := s.journal,
           attn.pending := s.attn.pending }

/-- Settles O43: the effects, then the replay with its shop current, rolled first, held, without a shop, and with nothing left. -/
theorem accrualsAreReplayed : Obligations.AccrualsAreReplayed := by
  refine ⟨fun _ _ _ _ _ _ _ => rfl, fun _ _ _ _ _ _ _ => rfl, fun _ _ _ _ _ _ _ _ => rfl, fun _ _ _ _ _ _ _ _ => rfl,
    fun _ _ _ _ _ _ _ _ _ _ _ => rfl, fun _ _ _ _ _ _ => rfl, fun _ _ _ => rfl, fun s e eff runs clear next => ?_,
    fun s runs done => ?_, fun s k low emitted => ?_⟩
  · obtain ⟨applies, holds⟩ := exec_accrualReplay runs clear next
    have counts := State.makeCounts_made clear
    have journal := counts.journal
    have fault0 := counts.fault
    have roll0 := counts.rollFor
    obtain ⟨settle0, recovery0, raised0, raises0, rest0⟩ := counts
    generalize s.makeCounts = u at *
    have shop0 : ∀ k, u.shop k = s.shop k := fun k => (congrArg (fun x => x.shop k) rest0 :)
    have house0 : u.store.houseRec = s.store.houseRec := (congrArg (fun x => x.store.houseRec) rest0 :)
    have period0 : u.settle.period = s.settle.period := by
      rw [settle0, countedSettle]
      split <;> rfl
    have behind0 : ∀ k, u.behind k = true ↔ (s.shop k).bank.period < s.settle.period := fun k => by
      rw [u.behind_iff, shop0, period0]
    refine ⟨fun k bank full accrued current => ?_, fun k bank full accrued behind room => ?_, fun k named behind noRoom => ?_,
      fun amount is => ?_⟩
    · obtain ⟨named, -⟩ := OpenBank.accrue_of accrued
      have notBehind : u.effectBehind eff = false := by
        rw [Bool.eq_false_iff, Ne, State.effectBehind_iff]
        rintro ⟨j, other, behind⟩
        obtain rfl : k = j := Option.some.inj (named.symm.trans other)
        rw [shop0, period0] at behind
        exact absurd behind (Nat.not_lt.mpr current)
      have run := applies u (State.rollForEffect_current notBehind)
      rw [← shop0] at accrued ⊢
      have made := recordsMade_applyEffect accrued e.seq
      generalize u.applyEffect eff e.seq = t at run made
      have recovery : t.recovery = { s.recovery with counted := true } := (congrArg State.recovery made.frame :).trans recovery0
      refine ⟨_, run, ⟨made.shop.1, fun j other => (made.shop.2 j other).trans (shop0 j)⟩, ?_, made.settle.trans settle0, ?_,
        countsRaised_mono raised0 made.raises, ?_, ?_, ?_⟩
      · exact made.house.trans (by rw [house0])
      · simp only [recovery]
      · exact made.fault.trans (by rw [fault0])
      · exact onlyRaises_trans (onlyRaises_mono raises0 fun _ => List.mem_append_left _)
          (onlyRaises_mono made.raises fun _ => List.mem_append_right _)
      · exact (congrArg (fun x : State => { x with
          settle := s.settle, recovery := s.recovery, store.shops := s.store.shops, store.houseRec := s.store.houseRec,
          attn.pending := s.attn.pending }) made.frame :).trans
          (congrArg (fun x : State => { x with store.shops := s.store.shops, store.houseRec := s.store.houseRec }) rest0 :)
    · obtain ⟨named, -⟩ := OpenBank.accrue_of accrued
      have room0 : u.canReserve .general 1 = true := (congrArg (fun x => x.canReserve .general 1) rest0 :).trans room
      obtain ⟨s1, granted⟩ := State.reserve_of_canReserve room0
      have run := applies _ (State.rollForEffect_behind named ((behind0 k).mpr behind) granted)
      have rolled := rollMade_of_reserve granted (by decide) k
      have full0 : rollFull u k = rollFull s k := by
        have same : rollFull u k = ((u.rollFor k).clamped ||
          houseIntFull (s.store.houseRec.commission + (u.rollFor k).entry.commission) ||
          (s.store.house.has k && houseIntFull (s.store.houseRec.net + (u.rollFor k).entry.net))) := by
          have house : u.store.house = s.store.house := (congrArg (fun x => x.store.house) rest0 :)
          simp only [rollFull, house0, house]
        rw [same, roll0]
        rfl
      have accruedAfter : accrues ((s1.commitRoll k).shop k).bank eff k bank full := by
        rw [rolled.shop.1, roll0]
        exact accrued
      have made := recordsMade_applyEffect accruedAfter e.seq
      generalize s1.commitRoll k = m at *
      generalize m.applyEffect eff e.seq = t at *
      have record : m.shop k = (s.rollFor k).shop := rolled.shop.1.trans (congrArg Rolled.shop (roll0 k))
      rw [record] at made
      have recovery : t.recovery = { s.recovery with counted := true } := (congrArg State.recovery made.frame :).trans
        ((congrArg State.recovery rolled.frame :).trans recovery0)
      have entry : oneEntry s t s.settle.period (.roll (s.rollFor k).entry) := by
        have entry := oneEntry_kept rolled.oneEntry made.journal
        rw [roll0, period0] at entry
        exact oneEntry_of_kept journal (congrArg State.time rest0 :) entry
      refine ⟨_, run, ⟨made.shop.1, fun j other => (made.shop.2 j other).trans ((rolled.shop.2 j other).trans (shop0 j))⟩, ?_,
        entry, ?_, ?_, countsRaised_mono raised0 (onlyRaises_trans rolled.raises (onlyRaises_mono made.raises (by simp))), ?_, ?_, ?_⟩
      · have house := rolled.house
        rw [house0, roll0] at house
        exact made.house.trans (by rw [house, (congrArg (fun x => x.store.house) rest0 :)])
      · rw [← settle0]
        exact made.settle.trans rolled.settle
      · simp only [recovery]
      · have fault := settleFault_trans rolled.fault made.fault
        rw [full0] at fault
        exact fault.trans (by rw [fault0])
      · exact onlyRaises_trans (onlyRaises_mono raises0 fun _ => List.mem_append_left _)
          (onlyRaises_trans (onlyRaises_mono rolled.raises fun _ => List.mem_append_right _)
            (onlyRaises_mono made.raises (by simp)))
      · exact (congrArg (State.replayOf s) made.frame :).trans
          ((congrArg (State.replayOf s) rolled.rest :).trans (congrArg (State.replayOf s) rest0 :))
    · have isBehind := (behind0 k).mpr behind
      have noRoom0 : u.canReserve .general 1 = false := (congrArg (fun x => x.canReserve .general 1) rest0 :).trans noRoom
      have held : u.rollForEffect eff = none := by
        simp [State.rollForEffect, named, State.rollIfBehind, isBehind, reserve_none_of noRoom0]
      exact ⟨u, holds held, settle0, recovery0, raised0, raises0, rest0⟩
    · subst is
      have run := applies u rfl
      obtain ⟨house, fault, raises, frame⟩ := u.applyEffect_unclaimed amount e.seq
      generalize u.applyEffect (.unclaimed amount) e.seq = t at *
      have recovery : t.recovery = { s.recovery with counted := true } := (congrArg State.recovery frame :).trans recovery0
      rw [house0] at house fault
      refine ⟨_, run, house, (congrArg State.settle frame :).trans settle0, ?_, countsRaised_mono raised0 raises, ?_, ?_, ?_⟩
      · simp only [recovery]
      · exact fault.trans (by rw [fault0])
      · exact onlyRaises_trans (onlyRaises_mono raises0 fun _ => List.mem_append_left _)
          (onlyRaises_mono raises fun _ => List.mem_append_right _)
      · exact (congrArg (fun x : State => { x with
          settle := s.settle, recovery := s.recovery, store.houseRec := s.store.houseRec,
          attn.pending := s.attn.pending }) frame :).trans
          (congrArg (fun x : State => { x with store.houseRec := s.store.houseRec }) rest0 :)
  · have none_ := s.emittedShop_eq_none_iff.mpr done.1
    have counts := State.makeCounts_made done.1
    have left : s.makeCounts.nextReplay = none := by
      obtain ⟨-, -, -, -, rest⟩ := counts
      exact (congrArg State.nextReplay rest :).trans (State.nextReplay_none done)
    refine ⟨s.makeCounts, ?_, counts⟩
    simp only [exec, execAccrualReplay, s.passRuns_iff.mpr runs, none_, Option.isNone_none, Bool.and_self, if_true, left]
  · have some_ : s.emittedShop.isNone = false := by
      rw [Option.isNone_eq_false_iff, Option.isSome_iff_ne_none, Ne, s.emittedShop_eq_none_iff]
      exact fun clear => clear k low emitted
    simp only [exec, execAccrualReplay, some_, Bool.and_false, Bool.false_eq_true, if_false]

/-! ### The end of recovery -/

/-- The re-arming of the journal's two attentions (R181). -/
theorem State.rearm_made (s : State) :
    let t := s.rearm
    t.journal = { s.journal with highHeld := decide (12288 ≤ s.unack), fullHeld := decide (16336 ≤ s.unack + s.journal.reserved) } ∧
      t.attn.pending.getLsbD 5 = (s.attn.pending.getLsbD 5 || decide (12288 ≤ s.unack)) ∧
      t.attn.pending.getLsbD 4 = (s.attn.pending.getLsbD 4 || decide (16336 ≤ s.unack + s.journal.reserved)) ∧
      onlyRaises s t [4, 5] ∧ { t with journal := s.journal, attn.pending := s.attn.pending } = s := by
  unfold State.rearm
  generalize decide (Config.highMark ≤ s.unack) = high
  generalize decide (Config.generalLimit ≤ s.unack + s.journal.reserved) = full
  have first := onlyRaises_raiseIf { s with journal.highHeld := high, journal.fullHeld := full } high .journalHigh [4, 5] (by decide)
  have second := onlyRaises_raiseIf
    (State.raiseIf { s with journal.highHeld := high, journal.fullHeld := full } high .journalHigh) full .journalFull [4, 5]
    (by decide)
  refine ⟨?_, ?_, ?_, onlyRaises_trans (onlyRaises_trans (onlyRaises_of_eq _ rfl) first) second, ?_⟩
  · cases high <;> cases full <;> rfl
  · cases high <;> cases full <;> simp only [State.raiseIf_true, State.raiseIf_false, State.raise_flag, Source.number,
      Nat.reduceEqDiff, decide_true, decide_false, Bool.or_true, Bool.or_false]
  · cases high <;> cases full <;> simp only [State.raiseIf_true, State.raiseIf_false, State.raise_flag, Source.number,
      Nat.reduceEqDiff, decide_true, decide_false, Bool.or_true, Bool.or_false]
  · cases high <;> cases full <;> rfl

/-- The ledger out of RECOVERING, from a state that k entries under k reservations have led to (R47, R181). -/
structure RecoveryLeft (s u t : State) (mode : LedgerState) (k : Nat) : Prop where
  ledger : t.ledger = { u.ledger with mode := mode }
  rearmed : rearmed s t k
  pointers : pointersPass u t 0
  raises : onlyRaises u t [4, 5]
  frame : { t with ledger := u.ledger, journal := u.journal, attn.pending := u.attn.pending } = u

theorem recoveryLeft_of {s u : State} {k : Nat} (marks : marksFollow s u k k) (mode : LedgerState) :
    RecoveryLeft s u (u.leaveRecovery mode) mode k := by
  obtain ⟨chip, high, full, raises, frame⟩ := State.rearm_made { u with ledger.mode := mode }
  unfold State.leaveRecovery
  generalize State.rearm { u with ledger.mode := mode } = t at *
  obtain ⟨-, pending4, -, pending5⟩ := marks
  have unack : t.unack = u.unack := (congrArg State.unack frame :)
  refine ⟨(congrArg State.ledger frame :), ⟨?_, ?_, ?_, ?_⟩, ?_, raises, (congrArg (fun x : State => { x with ledger := u.ledger }) frame :)⟩
  · rw [chip, unack]
    rfl
  · rw [chip, unack]
    rfl
  · rw [unack, high]
    exact congrArg (· || decide (12288 ≤ u.unack)) pending5
  · rw [chip, unack, full]
    exact congrArg (· || decide (16336 ≤ u.unack + u.journal.reserved)) pending4
  · refine ⟨(congrArg (fun x => x.store.nextToWrite) frame :), (congrArg (fun x => x.store.oldestUnack) frame :), ?_, ?_, ?_, ?_, ?_, ?_⟩
    all_goals rw [chip]
    simp

/-- The end of recovery over a signature, once the card pass is complete. -/
theorem exec_recoveryEnd {s : State} (runs : passes s) (cards : s.cap ≤ s.recovery.cardCursor) :
    (s.passComplete = false → exec .recoveryEnd s = .next s) ∧
    (s.passComplete = true → s.makeCounts.numberingSpent 1 = true →
      exec .recoveryEnd s = .next (s.makeCounts.leaveRecovery .config)) ∧
    (s.passComplete = true → s.makeCounts.numberingSpent 1 = false →
      (s.makeCounts.reserve .whole 1 = none → exec .recoveryEnd s = .next s.makeCounts) ∧
      ∀ s1, s.makeCounts.reserve .whole 1 = some s1 → exec .recoveryEnd s = .next
        ((s1.append s.settle.period (.restart s.office.resetCause s.recovery.rewritten s.recovery.released s.recovery.doubted
          s.recovery.replayed)).leaveRecovery (if s.store.openFlag then .opened else .config))) := by
  obtain ⟨recovering, unwarned, signed⟩ := runs
  have start : exec .recoveryEnd s = execRecoveryEnd s := rfl
  rw [start]
  unfold execRecoveryEnd
  simp only [recovering, unwarned, signed, Nat.not_lt.mpr cards, ne_eq, not_true_eq_false, Bool.false_eq_true, or_self, if_false,
    Bool.true_eq_false, decide_false, Bool.false_or]
  refine ⟨fun short => ?_, fun complete spent => ?_, fun complete unspent => ⟨fun full => ?_, fun s1 granted => ?_⟩⟩
  · simp only [short, Bool.not_false, if_true]
  · simp only [complete, Bool.not_true, Bool.false_eq_true, if_false, spent, if_true]
  · simp only [complete, Bool.not_true, Bool.false_eq_true, if_false, unspent, full]
  · simp only [complete, Bool.not_true, Bool.false_eq_true, if_false, unspent, granted]

theorem State.numberingSpent_iff {s : State} (signed : s.store.signature = true) :
    s.numberingSpent 1 = true ↔ 4294967296 ≤ s.store.nextToWrite + s.journal.reserved := by
  simp only [State.numberingSpent, State.nextWrite, signed, if_true, decide_eq_true_eq, Config.wrap32]
  omega

/-- The Settlement Unit's pass is complete, or held by the numbering. -/
theorem State.passComplete_of_done {s : State} (done : passesDone s) : s.passComplete = true := by
  simp [State.passComplete, s.emittedShop_eq_none_iff.mpr done.1, State.nextReplay_none done]

theorem State.passSpent_of {s : State} {e : JournalEntry} {eff : Effect}
    (clear : ∀ j, j ≤ 511 → (s.shop j).closing.state ≠ .emitted) (next : replayNext s e eff) :
    s.passComplete = (s.numberingSpent 1 && s.effectBehind eff) := by
  have posts : effectOfEntry e.body = some eff := by
    obtain ⟨-, -, -, -, posts, -⟩ := next
    exact posts
  simp [State.passComplete, State.passSpent, s.emittedShop_eq_none_iff.mpr clear, State.nextReplay_of next, posts]

theorem State.passComplete_emitted {s : State} {k : Nat} (low : k ≤ 511) (emitted : (s.shop k).closing.state = .emitted) :
    s.passComplete = s.numberingSpent 1 := by
  have some_ : s.emittedShop ≠ none := by
    rw [Ne, s.emittedShop_eq_none_iff]
    exact fun clear => clear k low emitted
  simp [State.passComplete, State.passSpent, Option.isSome_iff_ne_none.mpr some_, some_]

/-- The counts, and then the ledger in CONFIG without an entry (R47, R181). -/
theorem endsInConfig_of {s : State} (counts : onlyCounts s s.makeCounts) :
    endsInConfig s (s.makeCounts.leaveRecovery .config) := by
  have marks := marksFollow_of_kept counts.journal (marksFollow_refl s.makeCounts)
  have kept := counts.journal
  obtain ⟨settle0, recovery0, raised0, raises0, rest0⟩ := counts
  obtain ⟨ledger, rearmed, pointers, raises, frame⟩ := recoveryLeft_of marks .config
  generalize s.makeCounts = u at *
  generalize u.leaveRecovery .config = t at *
  refine ⟨?_, (congrArg State.settle frame :).trans settle0, (congrArg State.recovery frame :).trans recovery0,
    countsRaised_mono raised0 raises, ⟨(congrArg (fun x => x.store.ring) frame :).trans kept.ring, ?_⟩, rearmed, ?_, ?_⟩
  · rw [ledger, show u.ledger = s.ledger from (congrArg State.ledger rest0 :)]
  · obtain ⟨-, next, oldest, chip, -, -, -⟩ := kept
    simpa only [pointersPass, next, oldest, chip] using pointers
  · exact onlyRaises_trans (onlyRaises_mono raises0 fun _ => List.mem_append_left _)
      (onlyRaises_mono raises fun _ => List.mem_append_right _)
  · exact (congrArg (fun x : State => { x with
      ledger := s.ledger, settle := s.settle, recovery := s.recovery, journal := s.journal,
      attn.pending := s.attn.pending }) frame :).trans
      (congrArg (fun x : State => { x with ledger := s.ledger, journal := s.journal }) rest0 :)

/-- A state with all that the end of recovery writes as in another. -/
def State.recoveryOf (s t : State) : State :=
  { t with ledger := s.ledger, settle := s.settle, recovery := s.recovery, store.ring := s.store.ring,
           store.nextToWrite := s.store.nextToWrite, journal := s.journal, attn.pending := s.attn.pending }

/-- Pointers that stay behind pointers that pass. -/
theorem pointersPass_trans {s u t : State} {k : Nat} (first : pointersPass s u k) (second : pointersPass u t 0) :
    pointersPass s t k := by
  obtain ⟨next, oldest, reserved, stream, on, unit, interval, count⟩ := first
  obtain ⟨next', oldest', reserved', stream', on', unit', interval', count'⟩ := second
  refine ⟨next'.trans next, oldest'.trans oldest, reserved'.trans reserved, stream'.trans stream, on'.trans on,
    unit'.trans unit, interval'.trans interval, count'.trans ?_⟩
  rw [Nat.add_zero, ite_self, count]

/-- Settles O44: the blank store, the spent numbering, RESTART, the full ring, and the passes that are not complete. -/
theorem recoveryEndsWithRestart : Obligations.RecoveryEndsWithRestart := by
  refine ⟨fun s recovering unwarned blank => ?_, fun s runs cards done spent => ?_, fun s runs cards done room => ?_,
    fun s runs cards done full unspent => ?_, fun s runs cards emitted spent => ?_,
    fun s e eff k runs cards clear next named behind spent => ?_, fun s runs => ⟨fun more => ?_, fun unspent emitted => ?_,
      fun e eff clear next waits => ?_⟩⟩
  · have run : exec .recoveryEnd s = .next (s.leaveRecovery .config) := by
      simp [exec, execRecoveryEnd, recovering, unwarned, blank]
    obtain ⟨ledger, rearmed, pointers, raises, frame⟩ := recoveryLeft_of (marksFollow_refl s) .config
    exact ⟨_, run, ledger, ⟨(congrArg (fun x => x.store.ring) frame :), pointers⟩, rearmed, raises, frame⟩
  · have counts := State.makeCounts_made done.1
    have held : s.makeCounts.numberingSpent 1 = true := by
      obtain ⟨-, -, -, -, rest⟩ := counts
      exact (congrArg (fun x => x.numberingSpent 1) rest :).trans ((State.numberingSpent_iff runs.2.2).mpr (by omega))
    exact ⟨_, (exec_recoveryEnd runs cards).2.1 (State.passComplete_of_done done) held, endsInConfig_of counts⟩
  · have counts := State.makeCounts_made done.1
    have kept := counts.journal
    obtain ⟨unwarned, signed, limit, numbers⟩ := (s.canReserve_iff .whole 1).mp room
    have complete := (exec_recoveryEnd runs cards).2.2 (State.passComplete_of_done done)
    obtain ⟨settle0, recovery0, raised0, raises0, rest0⟩ := counts
    generalize s.makeCounts = u at *
    have open_ : u.numberingSpent 1 = false := by
      refine (congrArg (fun x => x.numberingSpent 1) rest0 :).trans ?_
      rw [Bool.eq_false_iff, Ne, State.numberingSpent_iff signed]
      omega
    have room0 : u.canReserve .whole 1 = true := (congrArg (fun x => x.canReserve .whole 1) rest0 :).trans room
    obtain ⟨s1, granted⟩ := State.reserve_of_canReserve room0
    have run := (complete open_).2 s1 granted
    generalize body : (EntryBody.restart s.office.resetCause s.recovery.rewritten s.recovery.released s.recovery.doubted
      s.recovery.replayed) = restart at run ⊢
    have entry := oneEntry_of_kept kept (congrArg State.time rest0 :) (oneEntry_append granted s.settle.period restart)
    have appendRaises := State.append_reserve_raises granted s.settle.period restart
    have appendFrame := State.append_reserve_frame granted s.settle.period restart
    obtain ⟨ledger, rearmed, pointers, raises, frame⟩ :=
      recoveryLeft_of entry.2 (if s.store.openFlag = true then .opened else .config)
    generalize s1.append s.settle.period restart = w at *
    generalize w.leaveRecovery _ = t at *
    have ring : t.store.ring = w.store.ring := (congrArg (fun x => x.store.ring) frame :)
    refine ⟨t, run, ?_, ⟨ring.trans entry.1.1, ?_⟩, ?_, ?_, countsRaised_mono raised0 (onlyRaises_trans appendRaises raises), rearmed,
      ?_, ?_⟩
    · rw [ledger, show w.ledger = s.ledger from (congrArg State.ledger appendFrame :).trans (congrArg State.ledger rest0 :)]
    · exact pointersPass_trans entry.1.2 pointers
    · exact (congrArg State.settle frame :).trans ((congrArg State.settle appendFrame :).trans settle0)
    · exact (congrArg State.recovery frame :).trans ((congrArg State.recovery appendFrame :).trans recovery0)
    · exact onlyRaises_trans (onlyRaises_mono raises0 fun _ => List.mem_append_left _)
        (onlyRaises_mono (onlyRaises_trans appendRaises raises) fun _ => List.mem_append_right _)
    · exact (congrArg (State.recoveryOf s) frame :).trans
        ((congrArg (State.recoveryOf s) appendFrame :).trans (congrArg (State.recoveryOf s) rest0 :))
  · have counts := State.makeCounts_made done.1
    obtain ⟨-, -, -, -, rest⟩ := counts
    have open_ : s.makeCounts.numberingSpent 1 = false := by
      refine (congrArg (fun x => x.numberingSpent 1) rest :).trans ?_
      rw [Bool.eq_false_iff, Ne, State.numberingSpent_iff runs.2.2]
      omega
    have noRoom : s.makeCounts.canReserve .whole 1 = false := by
      refine (congrArg (fun x => x.canReserve .whole 1) rest :).trans ?_
      simp only [State.unack, State.nextWrite, State.oldest, runs.2.2, if_true] at full
      rw [Bool.eq_false_iff, Ne, State.canReserve_iff]
      simp only [reduceCtorEq, if_false]
      omega
    have run := ((exec_recoveryEnd runs cards).2.2 (State.passComplete_of_done done) open_).1 (reserve_none_of noRoom)
    exact ⟨_, run, State.makeCounts_made done.1⟩
  · obtain ⟨k, low, waits⟩ := emitted
    have held : s.numberingSpent 1 = true := (State.numberingSpent_iff runs.2.2).mpr (by omega)
    have complete : s.passComplete = true := (State.passComplete_emitted low waits).trans held
    have run := (exec_recoveryEnd runs cards).2.1 complete
    rw [State.makeCounts_held low waits] at run
    obtain ⟨ledger, rearmed, pointers, raises, frame⟩ := recoveryLeft_of (marksFollow_refl s) .config
    exact ⟨_, run held, ledger, ⟨(congrArg (fun x => x.store.ring) frame :), pointers⟩, rearmed, raises, frame⟩
  · have counts := State.makeCounts_made clear
    have spent' : s.numberingSpent 1 = true := (State.numberingSpent_iff runs.2.2).mpr (by omega)
    have held : s.makeCounts.numberingSpent 1 = true := by
      obtain ⟨-, -, -, -, rest⟩ := counts
      exact (congrArg (fun x => x.numberingSpent 1) rest :).trans spent'
    have complete : s.passComplete = true := by
      rw [State.passSpent_of clear next, spent', Bool.true_and, State.effectBehind_iff]
      exact ⟨k, named, behind⟩
    exact ⟨_, (exec_recoveryEnd runs cards).2.1 complete held, endsInConfig_of counts⟩
  · simp [exec, execRecoveryEnd, more, runs.2.2]
  · obtain ⟨k, low, waits⟩ := emitted
    have short : s.passComplete = false := by
      rw [State.passComplete_emitted low waits, Bool.eq_false_iff, Ne, State.numberingSpent_iff runs.2.2]
      omega
    by_cases cards : s.cap ≤ s.recovery.cardCursor
    · exact (exec_recoveryEnd runs cards).1 short
    · simp [exec, execRecoveryEnd, Nat.not_le.mp cards, runs.2.2]
  · have short : s.passComplete = false := by
      rw [State.passSpent_of clear next]
      obtain unspent | current := waits
      · rw [Bool.and_eq_false_iff, Bool.eq_false_iff, Ne, State.numberingSpent_iff runs.2.2]
        exact .inl (by omega)
      · rw [Bool.and_eq_false_iff, Bool.eq_false_iff (b := s.effectBehind eff), Ne, State.effectBehind_iff]
        exact .inr fun ⟨k, named, behind⟩ => absurd behind (Nat.not_lt.mpr (current k named))
    by_cases cards : s.cap ≤ s.recovery.cardCursor
    · exact (exec_recoveryEnd runs cards).1 short
    · simp [exec, execRecoveryEnd, Nat.not_le.mp cards, runs.2.2]

end Sys2Proof.Machine
end

section
/-! PROOFS. The Office Unit's own requests and those of the Journal Unit (R183 to R187, R190 to R195, R197). -/

namespace Sys2Proof.Machine

/-! ### Bytes that name a member of an encoding (12.3) -/

theorem flagOfCode_of_le {n : Nat} (h : n ≤ 1) : flagOfCode n = some (decide (n = 1)) := by
  obtain rfl | rfl : n = 0 ∨ n = 1 := by omega
  · rfl
  · rfl

theorem flagOfCode_of_lt {n : Nat} (h : 1 < n) : flagOfCode n = none := by
  unfold flagOfCode
  split
  · omega
  · omega
  · rfl

theorem flagOfCode_of_names {n : Nat} {on : Bool} (h : (n = 0 ∧ on = false) ∨ (n = 1 ∧ on = true)) :
    flagOfCode n = some on := by
  obtain ⟨rfl, rfl⟩ | ⟨rfl, rfl⟩ := h
  · rfl
  · rfl

theorem StreamUnit.ofCode_of_lt {n : Nat} (h : 1 < n) : StreamUnit.ofCode n = none := by
  unfold StreamUnit.ofCode
  split
  · omega
  · omega
  · rfl

theorem AttnModeName.ofCode_of_lt {n : Nat} (h : 2 < n) : AttnModeName.ofCode n = none := by
  unfold AttnModeName.ofCode
  split
  · omega
  · omega
  · omega
  · rfl

/-! ### LANE_STATUS (R18, R187) -/

theorem countStage_of_answered (p : Stage → Bool) (answered : ∀ a, p (.answered a) = true) (waiting : p .waiting = false)
    (taken : p .taken = false) (q : List LaneEntry) :
    countStage p q = (q.filter fun e => decide (e.stage ≠ .waiting) && decide (e.stage ≠ .taken)).length := by
  unfold countStage
  congr 1
  refine List.filter_congr fun e _ => ?_
  cases e.stage with
  | waiting => exact waiting
  | taken => exact taken
  | answered a => exact answered a

theorem laneStatusBytes_eq (v : Lane) :
    laneStatusBytes v =
      bytesOf 1 v.rx.code ++ bytesOf 4 v.taken ++ bytesOf 4 v.framing ++ bytesOf 1 v.consecutive ++
        bytesOf 4 v.busyCount ++ bytesOf 4 v.overflows ++ bytesOf 1 v.queue.length ++
        bytesOf 1 (v.queue.filter fun e => decide (e.stage = .waiting)).length ++
        bytesOf 1 (v.queue.filter fun e => decide (e.stage = .taken)).length ++
        bytesOf 1 (v.queue.filter fun e => decide (e.stage ≠ .waiting) && decide (e.stage ≠ .taken)).length := by
  exact congrArg (fun n => _ ++ bytesOf 1 n) (countStage_of_answered _ (fun _ => rfl) rfl rfl v.queue)

theorem payStatusBytes_eq (s : State) (page : Nat) :
    payStatusBytes s page =
      bytesOf 1 s.payLink.rx.code ++ bytesOf 4 s.payLink.taken ++ bytesOf 4 s.payLink.framing ++
          bytesOf 4 s.payLink.unknown ++ bytesOf 4 s.payLink.overruns ++ bytesOf 1 s.payLink.queue.length ++
          bytesOf 4 s.plu.late ++ bytesOf 4 s.plu.stray ++ bytesOf 2 s.store.nextTag ++
          bytesOf 1 ((List.range 16).filter fun k => decide (s.slot k = .free)).length ++
          bytesOf 1 ((List.range 16).filter fun k => (s.slot k).isGranted).length ++
          bytesOf 1 ((List.range 16).filter fun k => (s.slot k).isFilled).length ++
          (List.range 8).flatMap fun i => slotBytes s.time (s.slot (8 * page + i)) := by
  unfold payStatusBytes
  simp only [countBelow_eq]
  rfl

theorem exec_laneStatus {s : State} {b : List Byte} (hb : s.officeBody 0x62 = some b) :
    exec .laneStatus s = .next (serveLaneStatus b s) :=
  congrArg Host.Outcome.next (officeStep_of_officeBody serveLaneStatus hb)

theorem serveLaneStatus_lane {b : List Byte} (s : State) (link : fieldAt b 2 1 ≤ 3) (page : fieldAt b 3 1 = 0) :
    serveLaneStatus b s = s.done (laneStatusBytes (s.lane (fieldAt b 2 1))) := by
  unfold serveLaneStatus
  rw [if_neg (by simp only [officeByte, officeByte2]; omega), if_pos link]

theorem serveLaneStatus_office {b : List Byte} (s : State) (link : fieldAt b 2 1 = 4) (page : fieldAt b 3 1 = 0) :
    serveLaneStatus b s = s.done (officeStatusBytes s.officeLink) := by
  unfold serveLaneStatus
  rw [if_neg (by simp only [officeByte, officeByte2]; omega), if_neg (by simp only [officeByte]; omega), if_pos link]

theorem serveLaneStatus_pay {b : List Byte} (s : State) (link : fieldAt b 2 1 = 5) (page : fieldAt b 3 1 ≤ 1) :
    serveLaneStatus b s = s.done (payStatusBytes s (fieldAt b 3 1)) := by
  unfold serveLaneStatus
  rw [if_neg (by simp only [officeByte, officeByte2]; omega), if_neg (by simp only [officeByte]; omega),
    if_neg (by simp only [officeByte]; omega)]

theorem serveLaneStatus_bad {b : List Byte} (s : State)
    (bad : 5 < fieldAt b 2 1 ∨ 1 < fieldAt b 3 1 ∨ (fieldAt b 3 1 = 1 ∧ fieldAt b 2 1 ≠ 5)) :
    serveLaneStatus b s = s.refuse .badValue :=
  if_pos bad

/-! ### The attention requests (R193, R194) -/

theorem exec_attnEnd {s : State} {b : List Byte} (hb : s.officeBody 0x5F = some b) :
    exec .attnEnd s = .next (serveAttnEnd b s) :=
  congrArg Host.Outcome.next (officeStep_of_officeBody serveAttnEnd hb)

theorem serveAttnEnd_named {b : List Byte} {s : State} {n : Nat} (serving : s.attn.inService = some n)
    (named : (fieldAt b 2 1 = n ∧ n ≤ 7) ∨ fieldAt b 2 1 = 255) :
    serveAttnEnd b s = State.done { s with attn := s.attn.endService } s.attn.endService.bytes := by
  have within : ¬(officeByte b ≠ 0xFF ∧ 7 < officeByte b) := by simp only [officeByte]; omega
  have this_one : officeByte b = 0xFF ∨ officeByte b = n := by simp only [officeByte]; omega
  unfold serveAttnEnd
  simp only [if_neg within, serving, if_pos this_one]

theorem serveAttnEnd_other {b : List Byte} {s : State} {n : Nat} (serving : s.attn.inService = some n)
    (within : fieldAt b 2 1 ≤ 7) (other : fieldAt b 2 1 ≠ n) : serveAttnEnd b s = s.refuse .wrongState := by
  have within' : ¬(officeByte b ≠ 0xFF ∧ 7 < officeByte b) := by simp only [officeByte]; omega
  have other' : ¬(officeByte b = 0xFF ∨ officeByte b = n) := by simp only [officeByte]; omega
  unfold serveAttnEnd
  simp only [if_neg within', serving, if_neg other']

theorem serveAttnEnd_idle {b : List Byte} {s : State} (idle : s.attn.inService = none)
    (named : fieldAt b 2 1 ≤ 7 ∨ fieldAt b 2 1 = 255) : serveAttnEnd b s = s.refuse .wrongState := by
  have within : ¬(officeByte b ≠ 0xFF ∧ 7 < officeByte b) := by simp only [officeByte]; omega
  unfold serveAttnEnd
  simp only [if_neg within, idle]

theorem exec_attnMode {s : State} {b : List Byte} (hb : s.officeBody 0x60 = some b) :
    exec .attnMode s = .next (serveAttnMode b s) :=
  congrArg Host.Outcome.next (officeStep_of_officeBody serveAttnMode hb)

theorem serveAttnMode_of {b : List Byte} {m : AttnModeName} (s : State) (named : AttnModeName.ofCode (fieldAt b 2 1) = some m) :
    serveAttnMode b s = State.done { s with attn := s.attn.setMode m } (s.attn.setMode m).bytesMode := by
  unfold serveAttnMode
  simp only [officeByte, named]

theorem Attention.setMode_automaticEnd_idle {a : Attention} (idle : a.inService = none) :
    a.setMode .automaticEnd = { a with mode := .automaticEnd } := by
  simp only [Attention.setMode, if_true, Attention.endService, idle]

theorem Attention.setMode_automaticEnd_serving {a : Attention} {n : Nat} (serving : a.inService = some n) :
    a.setMode .automaticEnd = { a with mode := .automaticEnd, inService := none, lowest := n } := by
  simp only [Attention.setMode, if_true, Attention.endService, serving]

theorem Attention.endService_serving {a : Attention} {n : Nat} (serving : a.inService = some n) :
    a.endService = { a with inService := none, lowest := n } := by
  simp only [Attention.endService, serving]

/-! ### The Office Unit's own requests (R187) -/

theorem exec_readSnap {s : State} {b : List Byte} (hb : s.officeBody 0x45 = some b) :
    exec .readSnap s = .next (serveReadSnap b s) :=
  congrArg Host.Outcome.next (officeStep_of_officeBody serveReadSnap hb)

theorem exec_officeBadRequest {s : State} {f : Frame} (request : s.officeRequest = some f)
    (bad : officeWellFormed f = false) : exec .officeBadRequest s = .next (s.refuse .badRequest) := by
  show execOfficeBadRequest s = _
  unfold execOfficeBadRequest
  simp only [request, bad]
  rfl

/-- Settles O47: the request in flight reaches its serving function, whose branches are the clauses. -/
theorem theOfficeUnitAnswersItsOwnRequests : Obligations.TheOfficeUnitAnswersItsOwnRequests := by
  refine ⟨?laneStatus, ?readStatus, ?restart, ?readSnap, ?badRequest, ?attnMask, ?attnEnd, ?attnMode⟩
  case laneStatus =>
    intro s b hb
    rw [exec_laneStatus hb]
    refine ⟨fun link page => ?_, fun link page => ?_, fun link page => ?_, fun bad => ?_⟩
    · rw [serveLaneStatus_lane s link page, laneStatusBytes_eq]
    · rw [serveLaneStatus_office s link page, officeStatusBytes]
    · rw [serveLaneStatus_pay s link page, payStatusBytes_eq]
    · rw [serveLaneStatus_bad s bad]
  case readStatus =>
    intro s b hb
    exact congrArg Host.Outcome.next (officeStep_of_officeBody serveReadStatus hb)
  case restart =>
    intro s b hb
    exact congrArg Host.Outcome.next (officeStep_of_officeBody serveRestart hb)
  case readSnap =>
    intro s b hb
    rw [exec_readSnap hb]
    refine ⟨fun empty => ?_, fun c full => ?_⟩
    · simp only [serveReadSnap, empty]
    · simp only [serveReadSnap, full]
  case badRequest =>
    intro s f request bad
    exact exec_officeBadRequest request bad
  case attnMask =>
    rintro s b t hb rfl
    exact congrArg Host.Outcome.next (officeStep_of_officeBody serveAttnMask hb)
  case attnEnd =>
    intro s b hb
    rw [exec_attnEnd hb]
    refine ⟨?_, fun idle named => ?_, fun n serving within other => ?_, fun above notFF => ?_⟩
    · rintro n t serving named rfl
      rw [serveAttnEnd_named serving named, Attention.endService_serving serving]
    · rw [serveAttnEnd_idle idle named]
    · rw [serveAttnEnd_other serving within other]
    · rw [serveAttnEnd, if_pos ⟨notFF, above⟩]
  case attnMode =>
    intro s b hb
    rw [exec_attnMode hb]
    refine ⟨?_, fun above => ?_⟩
    · rintro t (⟨mode, rfl⟩ | ⟨mode, rfl⟩ | ⟨mode, idle, rfl⟩ | ⟨n, mode, serving, rfl⟩)
      · rw [serveAttnMode_of (m := .fixed) s (by rw [mode]; rfl)]
        rfl
      · rw [serveAttnMode_of (m := .rotating) s (by rw [mode]; rfl)]
        rfl
      · rw [serveAttnMode_of (m := .automaticEnd) s (by rw [mode]; rfl), Attention.setMode_automaticEnd_idle idle]
      · rw [serveAttnMode_of (m := .automaticEnd) s (by rw [mode]; rfl), Attention.setMode_automaticEnd_serving serving]
    · simp only [serveAttnMode, officeByte, AttnModeName.ofCode_of_lt above]

/-! ### The Journal Unit's requests (R183 to R185) -/

theorem exec_journalRead {s : State} {b : List Byte} (hb : s.officeBody 0x5B = some b) :
    exec .journalRead s = .next (serveJournalRead b s) :=
  congrArg Host.Outcome.next (officeStep_of_officeBody serveJournalRead hb)

theorem exec_journalAck {s : State} {b : List Byte} (hb : s.officeBody 0x5C = some b) :
    exec .journalAck s = .next (serveJournalAck b s) :=
  congrArg Host.Outcome.next (officeStep_of_officeBody serveJournalAck hb)

theorem exec_streamSet {s : State} {b : List Byte} (hb : s.officeBody 0x5D = some b) :
    exec .streamSet s = .next (serveStreamSet b s) :=
  congrArg Host.Outcome.next (officeStep_of_officeBody serveStreamSet hb)

/-- Over a blank store both pointers are 1 and nothing can be acknowledged, so the signature stands. -/
theorem signature_of_oldest_le_ackValue {s : State} {n : Nat} (some_ : s.oldest ≤ s.ackValue n) : s.store.signature = true := by
  cases signed : s.store.signature with
  | true => rfl
  | false =>
    simp only [State.oldest, State.ackValue, State.nextWrite, signed, Bool.false_eq_true, if_false] at some_
    omega

theorem State.acknowledge_eq {s : State} (signed : s.store.signature = true) (v : Nat) :
    s.acknowledge v =
      { s with store.oldestUnack := v + 1, journal.nextStream := max s.journal.nextStream (v + 1),
               journal.highHeld := s.journal.highHeld && decide (12288 ≤ s.nextWrite - (v + 1)),
               journal.fullHeld := s.journal.fullHeld && decide (16336 ≤ s.nextWrite - (v + 1) + s.journal.reserved) } := by
  simp only [State.acknowledge, State.unack, State.nextWrite, State.oldest, signed, if_true, Config.highMark,
    Config.generalLimit]

theorem serveJournalAck_above {b : List Byte} {s : State} {v : Nat} (clamped : v = min (fieldAt b 2 4) (s.nextWrite - 1))
    (above : s.oldest ≤ v) : serveJournalAck b s = (s.acknowledge v).done (s.acknowledge v).pointers := by
  obtain rfl : v = s.ackValue (officeSequence b) := clamped
  simp only [serveJournalAck, if_pos above]

theorem serveJournalAck_below {b : List Byte} {s : State} {v : Nat} (clamped : v = min (fieldAt b 2 4) (s.nextWrite - 1))
    (below : v < s.oldest) : serveJournalAck b s = s.done s.pointers := by
  obtain rfl : v = s.ackValue (officeSequence b) := clamped
  simp only [serveJournalAck, if_neg (Nat.not_le.mpr below)]

theorem interval_eq (n : Nat) : max 1 n = if n = 0 then 1 else n := by
  split
  · omega
  · omega

/-- Settles O48: the request in flight reaches its serving function, whose branches are the clauses. -/
theorem journalRequests : Obligations.JournalRequests := by
  refine ⟨?read, ?ack, ?set⟩
  case read =>
    intro s b hb
    rw [exec_journalRead hb]
    refine ⟨fun e above below found => ?_, fun outside => ?_⟩
    · simp only [serveJournalRead, officeSequence, if_pos (And.intro above below), found]
    · have outside' : ¬(s.oldest ≤ officeSequence b ∧ officeSequence b < s.nextWrite) := by
        simp only [officeSequence]
        omega
      simp only [serveJournalRead, if_neg outside']
  case ack =>
    intro s t b v hb clamped
    rw [exec_journalAck hb]
    refine ⟨?_, fun below => ?_⟩
    · rintro above rfl
      have signed : s.store.signature = true := signature_of_oldest_le_ackValue (n := fieldAt b 2 4) (above.trans clamped.le)
      rw [serveJournalAck_above clamped above, State.acknowledge_eq signed]
    · rw [serveJournalAck_below clamped below]
  case set =>
    intro s b hb
    rw [exec_streamSet hb]
    refine ⟨?_, fun outside => ?_⟩
    · rintro t on unit flag named rfl
      have unitNamed : StreamUnit.ofCode (fieldAt b 3 1) = some unit := by
        obtain ⟨code, rfl⟩ | ⟨code, rfl⟩ := named
        · rw [code]; rfl
        · rw [code]; rfl
      simp only [serveStreamSet, flagOfCode_of_names flag, unitNamed, interval_eq]
    · unfold serveStreamSet
      obtain flag | unit := outside
      · simp only [flagOfCode_of_lt flag]
      · rw [StreamUnit.ofCode_of_lt unit]
        cases flagOfCode (fieldAt b 2 1) with
        | none => rfl
        | some on => rfl

end Sys2Proof.Machine
end

section
/-! PROOFS. The tables in the store: READ_TABLE and WRITE_TABLE (R21 to R23, R25 to R27, R30, R32, R33, R36). -/

namespace Sys2Proof.Machine

/-! ### Which table, index and length a request names (R22, R23) -/

theorem exec_readTable {s : State} {b : List Byte} (hb : s.officeBody 0x59 = some b) :
    exec .readTable s = .next (serveReadTable b s) :=
  congrArg Host.Outcome.next (officeStep_of_officeBody serveReadTable hb)

theorem serveReadTable_entry {s : State} {b : List Byte} (signed : s.store.signature = true)
    (within : fieldAt b 3 2 < tableSize (fieldAt b 2 1)) :
    serveReadTable b s = s.answerEntry (fieldAt b 2 1) (fieldAt b 3 2) := by
  unfold serveReadTable
  rw [if_neg (by simp only [signed, Bool.true_eq_false, not_false_eq_true]), if_neg (Nat.not_le.mpr within)]

theorem serveReadTable_outside {s : State} {b : List Byte} (signed : s.store.signature = true)
    (outside : tableSize (fieldAt b 2 1) ≤ fieldAt b 3 2) : serveReadTable b s = s.refuse .badValue := by
  unfold serveReadTable
  rw [if_neg (by simp only [signed, Bool.true_eq_false, not_false_eq_true]), if_pos outside]

theorem tableSize_of_unknown : ∀ {code : Nat}, code = 0 ∨ 5 < code → tableSize code = 0
  | 0, _ => rfl
  | 1, unknown | 2, unknown | 3, unknown | 4, unknown | 5, unknown => absurd unknown (by decide)
  | _ + 6, _ => rfl

theorem tableEntryBytes_of_unknown : ∀ {code : Nat}, code = 0 ∨ 5 < code → tableEntryBytes code = none
  | 0, _ => rfl
  | 1, unknown | 2, unknown | 3, unknown | 4, unknown | 5, unknown => absurd unknown (by decide)
  | _ + 6, _ => rfl

section
variable {s : State} {b : List Byte} {code : Nat} (serve : List Byte → State → State)

theorem writeStep_serves {width : Nat} (hb : s.officeBody 0x5A = some b) (named : fieldAt b 2 1 = code)
    (signed : s.store.signature = true) (within : fieldAt b 3 2 < tableSize code) (laid : tableEntryBytes code = some width)
    (long : b.length = width + 5) : writeStep code serve s = serve b s := by
  have fits : ¬(tableSize code ≤ tableIndex b ∨ some (b.length - 5) ≠ tableEntryBytes code) := by
    rw [laid, long]
    simp only [tableIndex, Nat.add_sub_cancel, ne_eq, not_true_eq_false, or_false, not_le]
    exact within
  unfold writeStep
  simp only [hb, officeByte, if_pos named, signed, Bool.true_eq_false, if_false, if_neg fits]

theorem writeStep_outside {width : Nat} (hb : s.officeBody 0x5A = some b) (named : fieldAt b 2 1 = code)
    (signed : s.store.signature = true) (laid : tableEntryBytes code = some width)
    (outside : tableSize code ≤ fieldAt b 3 2 ∨ b.length ≠ width + 5) (wide : 0 < width) :
    writeStep code serve s = s.refuse .badValue := by
  have misfits : tableSize code ≤ tableIndex b ∨ some (b.length - 5) ≠ tableEntryBytes code := by
    rw [laid]
    refine outside.imp id fun short same => ?_
    have := Option.some.inj same
    omega
  unfold writeStep
  simp only [hb, officeByte, if_pos named, signed, Bool.true_eq_false, if_false, if_pos misfits]

theorem writeStep_unknown (hb : s.officeBody 0x5A = some b) (known : ¬(code = 0 ∨ 5 < code))
    (signed : s.store.signature = true) (unknown : fieldAt b 2 1 = 0 ∨ 5 < fieldAt b 2 1) :
    writeStep code serve s = s.refuse .badValue := by
  have other : fieldAt b 2 1 ≠ code := fun same => known (same ▸ unknown)
  unfold writeStep
  simp only [hb, officeByte, if_neg other, tableEntryBytes_of_unknown unknown, Option.isNone_none, if_true, signed]

theorem writeStep_blank (hb : s.officeBody 0x5A = some b) (blank : s.store.signature = false)
    (named : fieldAt b 2 1 = code ∨ fieldAt b 2 1 = 0 ∨ 5 < fieldAt b 2 1) :
    writeStep code serve s = s.refuse .wrongState := by
  unfold writeStep
  simp only [hb, officeByte, blank, if_true]
  split
  · rfl
  · next other =>
    simp only [tableEntryBytes_of_unknown (named.resolve_left other), Option.isNone_none, if_true, Bool.false_eq_true, if_false]

end

/-! ### ACCEPT (R30) -/

theorem headD_drop (b : List Byte) (n : Nat) : (b.drop n).headD 0 = b.getD n 0 := by
  rw [List.headD_eq_head?_getD, List.head?_drop, List.getD_eq_getElem?_getD]

/-- Bit p of eight flags packed into one byte. -/
theorem getLsbD_packed : ∀ (x0 x1 x2 x3 x4 x5 x6 x7 : Bool) (p : Fin 8),
    (BitVec.ofNat 8 (x0.toNat * 1 + x1.toNat * 2 + x2.toNat * 4 + x3.toNat * 8 + x4.toNat * 16 + x5.toNat * 32 +
      x6.toNat * 64 + x7.toNat * 128)).getLsbD p = [x0, x1, x2, x3, x4, x5, x6, x7].getD p false := by
  decide

theorem getLsbD_acceptBits (b : List Byte) (j p : Nat) (hp : p ≤ 7) :
    (acceptBits b j).getLsbD p = (b.getD (5 + p) 0).getLsbD j := by
  have packed := getLsbD_packed ((b.getD 5 0).getLsbD j) ((b.getD 6 0).getLsbD j) ((b.getD 7 0).getLsbD j)
    ((b.getD 8 0).getLsbD j) ((b.getD 9 0).getLsbD j) ((b.getD 10 0).getLsbD j) ((b.getD 11 0).getLsbD j)
    ((b.getD 12 0).getLsbD j) ⟨p, by omega⟩
  simp only [acceptBits, List.foldl_cons, List.foldl_nil, headD_drop, Nat.zero_add]
  refine packed.trans ?_
  interval_cases p
  all_goals rfl

theorem exec_writeTable_accept {s : State} {b : List Byte} (hb : s.officeBody 0x5A = some b) (named : fieldAt b 2 1 = 2)
    (signed : s.store.signature = true) (within : fieldAt b 3 2 ≤ 31) (long : b.length = 13) :
    exec .writeTableAccept s = .next (serveWriteAccept b s) :=
  congrArg Host.Outcome.next
    (writeStep_serves serveWriteAccept hb named signed (Nat.lt_succ_of_le within) (width := 8) rfl long)

/-! ### BINDING and SETTINGS (R33, R36) -/

theorem exec_writeTable_binding {s : State} {b : List Byte} (hb : s.officeBody 0x5A = some b) (named : fieldAt b 2 1 = 4)
    (signed : s.store.signature = true) (within : fieldAt b 3 2 ≤ 511) (long : b.length = 9) :
    exec .writeTableBinding s = .next (serveWriteBinding b s) :=
  congrArg Host.Outcome.next
    (writeStep_serves serveWriteBinding hb named signed (Nat.lt_succ_of_le within) (width := 4) rfl long)

theorem bindingOfBody_of_le {b : List Byte} (flag : fieldAt b 8 1 ≤ 1) :
    bindingOfBody b =
      some { address := fieldAt b 5 1, shop := fieldAt b 6 2, enabled := decide (fieldAt b 8 1 = 1) } := by
  rw [bindingOfBody, flagOfCode_of_le flag]
  rfl

theorem Binding.bad_eq_true_iff (x : Binding) : x.bad = true ↔ x.address = 0 ∨ x.address = 255 ∨ 511 < x.shop := by
  simp only [Binding.bad, Bool.or_eq_true, decide_eq_true_eq, or_assoc]
  exact Iff.rfl

theorem serveWriteBinding_bad {s : State} {b : List Byte}
    (bad : fieldAt b 5 1 = 0 ∨ fieldAt b 5 1 = 255 ∨ 511 < fieldAt b 6 2) :
    serveWriteBinding b s = s.refuse .badValue := by
  unfold serveWriteBinding
  rw [bindingOfBody]
  cases flagOfCode (fieldAt b 8 1) with
  | none => rfl
  | some on => exact if_pos ((Binding.bad_eq_true_iff _).mpr bad)

theorem serveWriteBinding_flag {s : State} {b : List Byte} (flag : 1 < fieldAt b 8 1) :
    serveWriteBinding b s = s.refuse .badValue := by
  unfold serveWriteBinding
  rw [bindingOfBody, flagOfCode_of_lt flag]
  rfl

theorem exec_writeTable_settings {s : State} {b : List Byte} (hb : s.officeBody 0x5A = some b) (named : fieldAt b 2 1 = 5)
    (signed : s.store.signature = true) (single : fieldAt b 3 2 = 0) (long : b.length = 12) :
    exec .writeTableSettings s = .next (serveWriteSettings b s) :=
  congrArg Host.Outcome.next
    (writeStep_serves serveWriteSettings hb named signed (by rw [single]; decide) (width := 7) rfl long)

theorem SlotPriority.ofCode_of_lt : ∀ {n : Nat}, 1 < n → SlotPriority.ofCode n = none
  | 0, above | 1, above => absurd above (by decide)
  | _ + 2, _ => rfl

theorem SlotPriority.ofCode_of_names {n : Nat} {p : SlotPriority} (h : (n = 0 ∧ p = .fixed) ∨ (n = 1 ∧ p = .rotating)) :
    SlotPriority.ofCode n = some p := by
  obtain ⟨rfl, rfl⟩ | ⟨rfl, rfl⟩ := h
  · rfl
  · rfl

/-! ### HOUSE (R32) -/

theorem exec_writeTable_house {s : State} {b : List Byte} (hb : s.officeBody 0x5A = some b) (named : fieldAt b 2 1 = 3)
    (signed : s.store.signature = true) (single : fieldAt b 3 2 = 0) (long : b.length = 9) :
    exec .writeTableHouse s = .next (serveWriteHouse b s) :=
  congrArg Host.Outcome.next
    (writeStep_serves serveWriteHouse hb named signed (by rw [single]; decide) (width := 4) rfl long)

/-! ### PROGRAM (R25 to R27) -/

theorem programOfBody_of_le {b : List Byte} (flag : fieldAt b 8 1 ≤ 1) :
    programOfBody b =
      some { boundary := fieldAt b 5 3, enabled := decide (fieldAt b 8 1 = 1), loadLimit := fieldAt b 9 4,
             activationMin := fieldAt b 13 4, rate := fieldAt b 17 2, lifetime := fieldAt b 19 4, maxHolds := fieldAt b 23 1,
             refundWindow := fieldAt b 24 1, ceiling := fieldAt b 25 4 } := by
  rw [programOfBody, flagOfCode_of_le flag]
  rfl

theorem serveWriteProgram_flag {s : State} {b : List Byte} (flag : 1 < fieldAt b 8 1) :
    serveWriteProgram b s = s.refuse .badValue := by
  unfold serveWriteProgram
  rw [programOfBody, flagOfCode_of_lt flag]
  rfl

theorem exec_writeTable_program {s : State} {b : List Byte} (hb : s.officeBody 0x5A = some b) (named : fieldAt b 2 1 = 1)
    (signed : s.store.signature = true) (within : fieldAt b 3 2 ≤ 7) (long : b.length = 29) :
    exec .writeTableProgram s = .next (serveWriteProgram b s) :=
  congrArg Host.Outcome.next
    (writeStep_serves serveWriteProgram hb named signed (Nat.lt_succ_of_le within) (width := 24) rfl long)

/-- One program raised to the boundary written, where it stands above the program written and below that boundary (R25). -/
def State.raiseBoundary (k bound : Nat) (s : State) (j : Nat) : State :=
  if k < j ∧ (s.program j).boundary < bound then s.setProgram j { s.program j with boundary := bound } else s

theorem State.raiseBoundaries_eq_foldl (s : State) (k bound : Nat) :
    s.raiseBoundaries k bound = [1, 2, 3, 4, 5, 6, 7].foldl (State.raiseBoundary k bound) s := rfl

@[simp] theorem State.setProgram_program_same (s : State) (k : Nat) (p : Program) : (s.setProgram k p).program k = p :=
  Table.read_write_same ..

theorem State.setProgram_program_ne (s : State) {j k : Nat} (p : Program) (other : j ≠ k) :
    (s.setProgram k p).program j = s.program j :=
  Table.read_write_ne _ _ _ other

theorem State.raiseBoundary_frame (k bound : Nat) (s : State) (j : Nat) (programs : Table Program) :
    { s.raiseBoundary k bound j with store.programs := programs } = { s with store.programs := programs } := by
  unfold State.raiseBoundary
  split
  · rfl
  · rfl

theorem State.raiseBoundary_program (k bound : Nat) (s : State) (i j : Nat) :
    (s.raiseBoundary k bound i).program j =
      if i = j ∧ k < j then { s.program j with boundary := max (s.program j).boundary bound } else s.program j := by
  unfold State.raiseBoundary
  by_cases same : i = j
  · subst same
    by_cases above : k < i
    · by_cases low : (s.program i).boundary < bound
      · rw [if_pos ⟨above, low⟩, if_pos ⟨rfl, above⟩, State.setProgram_program_same, Nat.max_eq_right low.le]
      · rw [if_neg (fun both => low both.2), if_pos ⟨rfl, above⟩, Nat.max_eq_left (Nat.not_lt.mp low)]
    · rw [if_neg (fun both => above both.1), if_neg (fun both => above both.2)]
  · rw [if_neg (c := i = j ∧ k < j) (fun both => same both.1)]
    split
    · exact State.setProgram_program_ne s _ (Ne.symm same)
    · rfl

theorem State.foldl_raiseBoundary_frame (k bound : Nat) (programs : Table Program) : ∀ (l : List Nat) (s : State),
    { l.foldl (State.raiseBoundary k bound) s with store.programs := programs } = { s with store.programs := programs }
  | [], _ => rfl
  | j :: l, s => (State.foldl_raiseBoundary_frame k bound programs l _).trans (State.raiseBoundary_frame k bound s j programs)

theorem State.foldl_raiseBoundary_program (k bound j : Nat) : ∀ (l : List Nat) (s : State),
    (l.foldl (State.raiseBoundary k bound) s).program j =
      if j ∈ l ∧ k < j then { s.program j with boundary := max (s.program j).boundary bound } else s.program j
  | [], s => by rw [if_neg (fun both => List.not_mem_nil both.1)]; rfl
  | i :: l, s => by
    rw [List.foldl_cons, State.foldl_raiseBoundary_program k bound j l, State.raiseBoundary_program]
    by_cases above : k < j
    · by_cases head : i = j
      · by_cases tail : j ∈ l
        · simp [head, above, tail]
        · simp [head, above, tail]
      · have other : j ≠ i := Ne.symm head
        by_cases tail : j ∈ l
        · simp [head, above, tail]
        · simp [head, other, tail]
    · simp [above]

theorem State.raiseBoundaries_program_above (s : State) {k bound j : Nat} (above : k < j) (within : j ≤ 7) :
    (s.raiseBoundaries k bound).program j = { s.program j with boundary := max (s.program j).boundary bound } := by
  have listed : j ∈ [1, 2, 3, 4, 5, 6, 7] := by
    simp only [List.mem_cons, List.not_mem_nil, or_false]
    omega
  rw [State.raiseBoundaries_eq_foldl, State.foldl_raiseBoundary_program, if_pos ⟨listed, above⟩]

theorem State.raiseBoundaries_program_below (s : State) {k bound j : Nat} (below : j ≤ k) :
    (s.raiseBoundaries k bound).program j = s.program j := by
  rw [State.raiseBoundaries_eq_foldl, State.foldl_raiseBoundary_program, if_neg (fun both => Nat.not_lt.mpr below both.2)]

/-- Settles O49: the body of each write is decoded and clamped; what does not fit is refused before or after the decoding. -/
theorem tablesAreReadAndWritten : Obligations.TablesAreReadAndWritten := by
  refine ⟨?read, ?write, ?readBlank, ?blank⟩
  case read =>
    rintro s b i entry hb signed rfl
    rw [exec_readTable hb]
    refine ⟨fun entries => ?_, fun outside => ?_⟩
    · have within : fieldAt b 3 2 < tableSize (fieldAt b 2 1) := by
        obtain ⟨code, le, -⟩ | ⟨code, le, -⟩ | ⟨code, le, -⟩ | ⟨code, le, -⟩ | ⟨code, le, -⟩ := entries <;>
          (rw [code]; simp only [tableSize]; omega)
      rw [serveReadTable_entry signed within]
      obtain ⟨code, -, rfl⟩ | ⟨code, -, rfl⟩ | ⟨code, -, rfl⟩ | ⟨code, -, rfl⟩ | ⟨code, -, rfl⟩ := entries <;>
        (rw [code]; rfl)
    · refine congrArg Host.Outcome.next (serveReadTable_outside signed ?_)
      obtain zero | above | ⟨code, le⟩ | ⟨code, le⟩ | ⟨code, le⟩ | ⟨code | code, le⟩ := outside
      · rw [tableSize_of_unknown (.inl zero)]
        exact Nat.zero_le _
      · rw [tableSize_of_unknown (.inr above)]
        exact Nat.zero_le _
      all_goals
        rw [code]
        exact le
  case write =>
    rintro s b i hb signed rfl
    refine ⟨?accept, ?house, ?binding, ?bindingBad, ?settings, ?settingsBad, ?acceptOut, ?houseOut, ?bindingOut, ?settingsOut,
      ?programOut, ?programFlag, ?bindingFlag⟩
    case accept =>
      intro named within long
      rw [exec_writeTable_accept hb named signed within long]
      refine ⟨acceptOfBody b, { s with store.accept := Table.write AcceptRow.initial s.store.accept (fieldAt b 3 2) (acceptOfBody b) },
        ?_, fun p hp => ⟨getLsbD_acceptBits b 0 p hp, getLsbD_acceptBits b 1 p hp, getLsbD_acceptBits b 2 p hp⟩,
        Table.read_write_same .., fun j other => Table.read_write_ne _ _ _ other, rfl⟩
      simp only [serveWriteAccept, State.answerEntry, State.tableEntry, State.acceptRow, tableIndex, Table.read_write_same]
    case house =>
      rintro t named single long rfl
      rw [exec_writeTable_house hb named signed single long]
      simp only [serveWriteHouse, State.answerEntry, State.tableEntry, tableIndex, single, houseOfBody, HouseRange.clamp, clampTo,
        Nat.zero_max]
    case binding =>
      rintro x named within long notZero notLast shop flag rfl
      rw [exec_writeTable_binding hb named signed within long]
      have good : ∀ x : Binding, x = { address := fieldAt b 5 1, shop := fieldAt b 6 2, enabled := decide (fieldAt b 8 1 = 1) } →
          ¬x.bad = true := by
        rintro x rfl bad
        obtain zero | last | above := (Binding.bad_eq_true_iff _).mp bad
        · exact notZero zero
        · exact notLast last
        · exact absurd above (Nat.not_lt.mpr shop)
      refine ⟨{ s with store.bindings := Table.write Binding.initial s.store.bindings (fieldAt b 3 2) _ }, ?_,
        Table.read_write_same .., fun j other => Table.read_write_ne _ _ _ other, rfl⟩
      simp only [serveWriteBinding, bindingOfBody_of_le flag, if_neg (good _ rfl), State.answerEntry, State.tableEntry,
        State.binding, tableIndex, Table.read_write_same]
    case bindingBad =>
      intro named within long bad
      rw [exec_writeTable_binding hb named signed within long, serveWriteBinding_bad bad]
    case settings =>
      rintro t p named single long priority rfl
      rw [exec_writeTable_settings hb named signed single long]
      simp only [serveWriteSettings, settingsOfBody, SlotPriority.ofCode_of_names priority, Option.map_some, State.answerEntry,
        State.tableEntry, tableIndex, single, Settings.clamp, clampTo, Nat.zero_max]
    case settingsBad =>
      intro named single long priority
      rw [exec_writeTable_settings hb named signed single long]
      simp only [serveWriteSettings, settingsOfBody, SlotPriority.ofCode_of_lt priority, Option.map_none]
    case acceptOut =>
      rintro ⟨named, outside⟩
      exact congrArg Host.Outcome.next (writeStep_outside _ hb named signed (width := 8) rfl outside (by decide))
    case houseOut =>
      rintro ⟨named, outside⟩
      exact congrArg Host.Outcome.next (writeStep_outside _ hb named signed (width := 4) rfl outside (by decide))
    case bindingOut =>
      rintro ⟨named, outside⟩
      exact congrArg Host.Outcome.next (writeStep_outside _ hb named signed (width := 4) rfl outside (by decide))
    case settingsOut =>
      rintro ⟨named, outside⟩
      exact congrArg Host.Outcome.next (writeStep_outside _ hb named signed (width := 7) rfl outside (by decide))
    case programOut =>
      rintro ⟨named, outside⟩
      exact congrArg Host.Outcome.next (writeStep_outside _ hb named signed (width := 24) rfl outside (by decide))
    case programFlag =>
      intro named within long flag
      rw [exec_writeTable_program hb named signed within long, serveWriteProgram_flag flag]
    case bindingFlag =>
      intro named within long flag
      rw [exec_writeTable_binding hb named signed within long, serveWriteBinding_flag flag]
  case readBlank =>
    intro s b hb blank
    rw [exec_readTable hb, serveReadTable, if_pos blank]
  case blank =>
    intro s b i code row hb
    simp only [List.mem_cons, Prod.mk.injEq, List.not_mem_nil, or_false] at row
    refine ⟨fun blank named => ?_, fun signed unknown => ?_⟩
    · obtain ⟨rfl, rfl⟩ | ⟨rfl, rfl⟩ | ⟨rfl, rfl⟩ | ⟨rfl, rfl⟩ | ⟨rfl, rfl⟩ := row <;>
        exact congrArg Host.Outcome.next (writeStep_blank _ hb blank named)
    · obtain ⟨rfl, rfl⟩ | ⟨rfl, rfl⟩ | ⟨rfl, rfl⟩ | ⟨rfl, rfl⟩ | ⟨rfl, rfl⟩ := row <;>
        exact congrArg Host.Outcome.next (writeStep_unknown _ hb (by decide) signed unknown)

/-! ### A program record written (R25 to R27) -/

theorem State.boundaryFree_eq_true_iff (s : State) :
    s.boundaryFree = true ↔ s.ledger.mode = .config ∧ s.store.openFlag = false := by
  simp only [State.boundaryFree, Bool.and_eq_true, decide_eq_true_eq, Bool.not_eq_true']

theorem State.boundaryFree_eq_false {s : State} (fixed : s.ledger.mode ≠ .config ∨ s.store.openFlag = true) :
    s.boundaryFree = false := by
  rw [Bool.eq_false_iff, ne_eq, State.boundaryFree_eq_true_iff]
  rintro ⟨config, closed⟩
  exact fixed.elim (fun other => other config) (fun opened => Bool.false_ne_true (closed.symm.trans opened))

/-- The record a program write carries, every field but the boundary clamped (R27). -/
def clampedProgram (b : List Byte) (boundary : Nat) : Program :=
  { boundary := boundary, enabled := decide (fieldAt b 8 1 = 1),
    loadLimit := min 10000000 (max 100 (fieldAt b 9 4)),
    activationMin := min (min 10000000 (max 100 (fieldAt b 9 4))) (fieldAt b 13 4),
    rate := min 2000 (fieldAt b 17 2), lifetime := min 86400 (max 10 (fieldAt b 19 4)),
    maxHolds := min 8 (max 1 (fieldAt b 23 1)), refundWindow := min 255 (fieldAt b 24 1),
    ceiling := min 100000 (fieldAt b 25 4) }

theorem clamp_programOfBody {b : List Byte} {p : Program} (decoded : programOfBody b = some p) (flag : fieldAt b 8 1 ≤ 1) :
    p.clamp = clampedProgram b p.boundary := by
  rw [programOfBody_of_le flag] at decoded
  obtain rfl := Option.some.inj decoded
  simp only [Program.clamp, clampTo, clampedProgram, Nat.zero_max, Config.amountMax]

theorem boundary_programOfBody {b : List Byte} {p : Program} (decoded : programOfBody b = some p) (flag : fieldAt b 8 1 ≤ 1) :
    p.boundary = fieldAt b 5 3 := by
  rw [programOfBody_of_le flag] at decoded
  obtain rfl := Option.some.inj decoded
  rfl

theorem serveWriteProgram_refused {s : State} {b : List Byte} (flag : fieldAt b 8 1 ≤ 1) (fixed : s.boundaryFree = false)
    (moved : fieldAt b 5 3 ≠ (s.program (fieldAt b 3 2)).boundary) : serveWriteProgram b s = s.refuse .wrongState := by
  unfold serveWriteProgram
  simp only [programOfBody_of_le flag, tableIndex, fixed, Bool.not_false, Bool.true_and, decide_eq_true moved, if_true]

theorem serveWriteProgram_kept {s : State} {b : List Byte} {q : Program} (flag : fieldAt b 8 1 ≤ 1)
    (fixed : s.boundaryFree = false) (kept : fieldAt b 5 3 = (s.program (fieldAt b 3 2)).boundary)
    (clamped : q = clampedProgram b (s.program (fieldAt b 3 2)).boundary) :
    serveWriteProgram b s = (s.setProgram (fieldAt b 3 2) q).done (bytesOf 1 1 ++ bytesOf 2 (fieldAt b 3 2) ++ programBytes q) := by
  obtain ⟨p, decoded⟩ : ∃ p, programOfBody b = some p := ⟨_, programOfBody_of_le flag⟩
  have boundary := boundary_programOfBody decoded flag
  have made : p.clamp = q := by rw [clamp_programOfBody decoded flag, boundary, kept, clamped]
  unfold serveWriteProgram
  simp only [decoded, tableIndex, fixed, boundary, kept, ne_eq, not_true_eq_false, decide_false, Bool.and_false,
    Bool.false_eq_true, if_false, State.writeProgram, made, State.answerEntry, State.tableEntry,
    State.setProgram_program_same]

theorem serveWriteProgram_moved {s : State} {b : List Byte} {q : Program} (flag : fieldAt b 8 1 ≤ 1)
    (free : s.boundaryFree = true)
    (clamped : q = clampedProgram b (s.clampBoundary (fieldAt b 3 2) (fieldAt b 5 3))) :
    serveWriteProgram b s =
      ((s.setProgram (fieldAt b 3 2) q).raiseBoundaries (fieldAt b 3 2) q.boundary).done
        (bytesOf 1 1 ++ bytesOf 2 (fieldAt b 3 2) ++ programBytes q) := by
  obtain ⟨p, decoded⟩ : ∃ p, programOfBody b = some p := ⟨_, programOfBody_of_le flag⟩
  have boundary := boundary_programOfBody decoded flag
  have made : { p.clamp with boundary := s.clampBoundary (fieldAt b 3 2) (fieldAt b 5 3) } = q := by
    rw [clamp_programOfBody decoded flag, clamped]
    rfl
  have new : s.clampBoundary (fieldAt b 3 2) (fieldAt b 5 3) = q.boundary := by rw [clamped]; rfl
  unfold serveWriteProgram
  simp only [decoded, tableIndex, free, boundary, Bool.not_true, Bool.false_and, Bool.false_eq_true, if_false,
    State.writeProgram, if_true, made, State.answerEntry, State.tableEntry]
  rw [new, State.raiseBoundaries_program_below _ (Nat.le_refl _), State.setProgram_program_same]

/-- Settles O50: where the boundaries may not move the record alone is replaced; where they may, the record takes the clamped
boundary and those above it are raised to it. -/
theorem programWritesKeepTheBoundariesInOrder : Obligations.ProgramWritesKeepTheBoundariesInOrder := by
  rintro s b k q hb named rfl within long signed flag clamped
  rw [exec_writeTable_program hb named signed within long]
  refine ⟨fun fixed kept => ?_, fun fixed moved => ?_, ?_⟩
  · rw [serveWriteProgram_kept flag (State.boundaryFree_eq_false fixed) kept clamped]
    exact ⟨_, rfl, State.setProgram_program_same .., fun j other => State.setProgram_program_ne s q other, rfl⟩
  · rw [serveWriteProgram_refused flag (State.boundaryFree_eq_false fixed) moved]
  · intro low new config closed ordered isLow lowCap isNew
    have free := (State.boundaryFree_eq_true_iff s).mpr ⟨config, closed⟩
    have raised : s.clampBoundary (fieldAt b 3 2) (fieldAt b 5 3) = new := by
      rw [isNew, isLow]
      rfl
    generalize made : { q with boundary := new } = r
    have isR : r = clampedProgram b (s.clampBoundary (fieldAt b 3 2) (fieldAt b 5 3)) := by
      rw [raised, ← made, clamped]
      rfl
    have boundary : r.boundary = new := by rw [← made]
    rw [serveWriteProgram_moved flag free isR, boundary]
    have here : ((s.setProgram (fieldAt b 3 2) r).raiseBoundaries (fieldAt b 3 2) new).program (fieldAt b 3 2) = r := by
      rw [State.raiseBoundaries_program_below _ (Nat.le_refl _), State.setProgram_program_same]
    have below : ∀ j, j < fieldAt b 3 2 →
        ((s.setProgram (fieldAt b 3 2) r).raiseBoundaries (fieldAt b 3 2) new).program j = s.program j := fun j lt => by
      rw [State.raiseBoundaries_program_below _ lt.le, State.setProgram_program_ne s r lt.ne]
    have above : ∀ j, fieldAt b 3 2 < j → j ≤ 7 →
        ((s.setProgram (fieldAt b 3 2) r).raiseBoundaries (fieldAt b 3 2) new).program j =
          { s.program j with boundary := max (s.program j).boundary new } := fun j gt le => by
      rw [State.raiseBoundaries_program_above _ gt le, State.setProgram_program_ne s r gt.ne']
    refine ⟨_, rfl, here, by omega, below, above, fun i j hij hj => ?_, State.foldl_raiseBoundary_frame _ _ _ _ _⟩
    have lows : ∀ i, i < fieldAt b 3 2 → (s.program i).boundary ≤ low := fun i lt => by
      rw [isLow, if_neg (by omega)]
      exact ordered i (fieldAt b 3 2 - 1) (by omega) (by omega)
    have lowNew : low ≤ new := by omega
    obtain ilt | ieq | igt := Nat.lt_trichotomy i (fieldAt b 3 2)
    · rw [below i ilt]
      obtain jlt | jeq | jgt := Nat.lt_trichotomy j (fieldAt b 3 2)
      · rw [below j jlt]
        exact ordered i j hij hj
      · rw [jeq, here, boundary]
        exact (lows i ilt).trans lowNew
      · rw [above j jgt hj]
        exact (ordered i j hij hj).trans (Nat.le_max_left ..)
    · rw [ieq, here, boundary]
      obtain jeq | jgt := (ieq ▸ hij).eq_or_lt
      · rw [← jeq, here, boundary]
      · rw [above j jgt hj]
        exact Nat.le_max_right ..
    · rw [above i igt (hij.trans hj), above j (igt.trans_le hij) hj]
      exact max_le_max (ordered i j hij hj) le_rfl

end Sys2Proof.Machine
end

section
/-! PROOFS. The office's requests on a channel (R144, R147 to R150, R160, R161). -/

namespace Sys2Proof.Machine

theorem channelWritten_setChannel (s : State) (c : Nat) (v : Channel) : channelWritten s (s.setChannel c v) c v :=
  ⟨State.setChannel_channel_same s c v, fun _ other => State.setChannel_channel_ne s c v other⟩

theorem State.setChannel_frame (s : State) (c : Nat) (v : Channel) : { s.setChannel c v with channels := s.channels } = s := rfl

/-! ### SET_CHANNEL (R144) -/

theorem exec_setChannel {s : State} {b : List Byte} (hb : s.officeBody 0x54 = some b) :
    exec .setChannel s = .next (serveSetChannel b s) :=
  congrArg Host.Outcome.next (officeStep_of_officeBody serveSetChannel hb)

theorem Direction.ofCode_of_lt : ∀ {n : Nat}, 1 < n → Direction.ofCode n = none
  | 0, above | 1, above => absurd above (by decide)
  | _ + 2, _ => rfl

theorem ChannelMode.ofCode_of_lt : ∀ {n : Nat}, 2 < n → ChannelMode.ofCode n = none
  | 0, above | 1, above | 2, above => absurd above (by decide)
  | _ + 3, _ => rfl

theorem setupOfBody_of {b : List Byte} {dir : Direction} {mode : ChannelMode} (direction : Direction.ofCode (fieldAt b 7 1) = some dir)
    (moded : ChannelMode.ofCode (fieldAt b 8 1) = some mode) (flag : fieldAt b 9 1 ≤ 1) :
    setupOfBody b = some { baseShop := fieldAt b 3 2, baseCount := fieldAt b 5 2, dir := dir, mode := mode,
                           auto := decide (fieldAt b 9 1 = 1) } := by
  simp only [setupOfBody, direction, moded, flagOfCode_of_le flag]

theorem setupOfBody_eq_none {b : List Byte} (outside : 1 < fieldAt b 7 1 ∨ 2 < fieldAt b 8 1 ∨ 1 < fieldAt b 9 1) :
    setupOfBody b = none := by
  unfold setupOfBody
  split
  · next dir mode auto direction moded flag =>
    obtain above | above | above := outside
    · exact absurd direction (by rw [Direction.ofCode_of_lt above]; exact Option.some_ne_none _ ∘ Eq.symm)
    · exact absurd moded (by rw [ChannelMode.ofCode_of_lt above]; exact Option.some_ne_none _ ∘ Eq.symm)
    · exact absurd flag (by rw [flagOfCode_of_lt above]; exact Option.some_ne_none _ ∘ Eq.symm)
  · rfl

theorem ChannelSetup.clamp_eq (u : ChannelSetup) :
    u.clamp = { baseShop := min 511 u.baseShop,
                baseCount := min (if u.dir = .ascending then 511 - min 511 u.baseShop else min 511 u.baseShop)
                  (min 511 u.baseCount),
                dir := u.dir, mode := u.mode, auto := u.auto } := by
  cases u with
  | mk baseShop baseCount dir mode auto =>
    cases dir <;> simp only [ChannelSetup.clamp, clampTo, Nat.zero_max, if_true, reduceCtorEq, if_false]

theorem serveSetChannel_stored {s : State} {b : List Byte} {u : ChannelSetup} (signed : s.store.signature = true)
    (within : fieldAt b 2 1 ≤ 3) (decoded : setupOfBody b = some u) :
    serveSetChannel b s =
      State.done { s with store.setups := Table.write ChannelSetup.initial s.store.setups (fieldAt b 2 1) u.clamp }
        (setupBytes u.clamp) := by
  unfold serveSetChannel
  rw [if_neg (by simp only [signed, Bool.true_eq_false, not_false_eq_true]), if_neg (Nat.not_lt.mpr within), decoded]

theorem serveSetChannel_refused {s : State} {b : List Byte} (signed : s.store.signature = true)
    (outside : 3 < fieldAt b 2 1 ∨ 1 < fieldAt b 7 1 ∨ 2 < fieldAt b 8 1 ∨ 1 < fieldAt b 9 1) :
    serveSetChannel b s = s.refuse .badValue := by
  unfold serveSetChannel
  rw [if_neg (by simp only [signed, Bool.true_eq_false, not_false_eq_true])]
  split
  · rfl
  · next within => rw [setupOfBody_eq_none (outside.resolve_left within)]

/-! ### ARM, STEP, MASK, UNMASK (R147 to R150, R161) -/

section
variable {s : State} {b : List Byte} (serve : Nat → State → State)

theorem onChannel_serves (open_ : s.ledger.mode ≠ .recovering) (within : fieldAt b 2 1 ≤ 3) :
    onChannel serve b s = serve (fieldAt b 2 1) s := by
  unfold onChannel
  rw [if_neg open_, if_neg (Nat.not_lt.mpr within)]

theorem onChannel_recovering (recovering : s.ledger.mode = .recovering) : onChannel serve b s = s.refuse .wrongState :=
  if_pos recovering

theorem onChannel_above (open_ : s.ledger.mode ≠ .recovering) (above : 3 < fieldAt b 2 1) :
    onChannel serve b s = s.refuse .badValue := by
  unfold onChannel
  rw [if_neg open_, if_pos above]

theorem onAction_named {action : Nat} (hb : s.officeBody 0x58 = some b) (named : fieldAt b 3 1 = action) :
    onAction action serve s = onChannel serve b s := by
  unfold onAction
  simp only [hb, officeByte2, if_pos named]

/-- The row of either action refuses its own request on a channel above 3 and every unknown action (R149, log 17). -/
theorem onAction_refused {action : Nat} (hb : s.officeBody 0x58 = some b) (open_ : s.ledger.mode ≠ .recovering)
    (bad : (fieldAt b 3 1 = action ∧ 3 < fieldAt b 2 1) ∨ 1 < fieldAt b 3 1) (known : action ≤ 1) :
    onAction action serve s = s.refuse .badValue := by
  obtain ⟨named, above⟩ | unknown := bad
  · rw [onAction_named serve hb named, onChannel_above serve open_ above]
  · have other : fieldAt b 3 1 ≠ action := by omega
    unfold onAction
    simp only [hb, officeByte2, if_neg other, if_pos unknown]
    obtain within | above := Nat.lt_or_ge 3 (fieldAt b 2 1)
    · exact onChannel_above _ open_ within
    · exact onChannel_serves _ open_ above

end

theorem exec_armChannel {s : State} {b : List Byte} (hb : s.officeBody 0x55 = some b) :
    exec .armChannel s = .next (onChannel serveArm b s) :=
  congrArg Host.Outcome.next (officeStep_of_officeBody (onChannel serveArm) hb)

theorem exec_stepChannel {s : State} {b : List Byte} (hb : s.officeBody 0x56 = some b) :
    exec .stepChannel s = .next (onChannel serveStep b s) :=
  congrArg Host.Outcome.next (officeStep_of_officeBody (onChannel serveStep) hb)

theorem exec_maskChannelMask {s : State} {b : List Byte} (hb : s.officeBody 0x58 = some b) (named : fieldAt b 3 1 = 0) :
    exec .maskChannelMask s = .next (onChannel serveMask b s) :=
  congrArg Host.Outcome.next (onAction_named serveMask hb named)

theorem exec_maskChannelUnmask {s : State} {b : List Byte} (hb : s.officeBody 0x58 = some b) (named : fieldAt b 3 1 = 1) :
    exec .maskChannelUnmask s = .next (onChannel serveUnmask b s) :=
  congrArg Host.Outcome.next (onAction_named serveUnmask hb named)

theorem Channel.outstanding_eq_true_iff (v : Channel) : v.outstanding = true ↔ v.st = .waitSlot ∨ v.st = .running := by
  simp only [Channel.outstanding, Bool.or_eq_true, decide_eq_true_eq]

theorem Channel.outstanding_eq (v : Channel) : v.outstanding = decide (v.st = .waitSlot ∨ v.st = .running) := by
  rw [Channel.outstanding, Bool.decide_or]

theorem serveArm_loads {s : State} {c : Nat} (notRunning : (s.channel c).st ≠ .running)
    (notWaiting : (s.channel c).st ≠ .waitSlot) :
    serveArm c s =
      ((s.setChannel c (walking
        { (s.channel c).load (s.setup c) with tc := false, passPending := false, mask := false, maskPending := false })).grantSlots).done [] := by
  have free : ¬(s.channel c).outstanding = true := by
    rw [Channel.outstanding_eq_true_iff]
    exact fun either => either.elim notWaiting notRunning
  simp only [serveArm, if_neg free, Channel.walk_eq]

theorem serveArm_refused {s : State} {c : Nat} (busy : (s.channel c).st = .running ∨ (s.channel c).st = .waitSlot) :
    serveArm c s = s.refuse .wrongState :=
  if_pos ((Channel.outstanding_eq_true_iff _).mpr busy.symm)

theorem Channel.masked_eq {v w : Channel}
    (rule : ((v.st = .idle ∨ v.st = .done) ∧ w = v) ∨ (v.st = .running ∧ w = { v with mask := true, maskPending := true }) ∨
      (v.st ∈ [.waitClose, .waitSlot, .waitStep, .waitPull] ∧ w = { v with st := .idle, mask := true })) : v.masked = w := by
  simp only [List.mem_cons, List.not_mem_nil, or_false] at rule
  obtain ⟨st | st, rfl⟩ | ⟨st, rfl⟩ | ⟨st | st | st | st, rfl⟩ := rule <;> simp only [Channel.masked, st]

theorem serveUnmask_idle {s : State} {c : Nat} (st : (s.channel c).st = .idle) :
    serveUnmask c s = ((s.setChannel c { s.channel c with mask := false }.walk).grantSlots).done [] := by
  simp only [serveUnmask, st]

theorem serveUnmask_running {s : State} {c : Nat} (st : (s.channel c).st = .running) :
    serveUnmask c s =
      (s.setChannel c { s.channel c with
        mask := if (s.channel c).maskPending then false else (s.channel c).mask, maskPending := false }).done [] := by
  unfold serveUnmask
  generalize s.channel c = v at st ⊢
  cases v
  cases st
  rfl

theorem Channel.noMaskPending {v : Channel} (none_ : v.maskPending = false) :
    { v with mask := v.mask, maskPending := false } = v := by
  cases v
  cases none_
  rfl

theorem channelStatusBytes_eq (u : ChannelSetup) (v : Channel) :
    channelStatusBytes u v =
      bytesOf 2 u.baseShop ++ bytesOf 2 u.baseCount ++ bytesOf 1 u.dir.code ++ bytesOf 1 u.mode.code ++
          flagByte u.auto ++ bytesOf 1 v.st.code ++ flagByte v.mask ++ flagByte v.maskPending ++ bytesOf 2 v.cur ++
          bytesOf 2 v.remaining ++ bytesOf 1 v.dir.code ++ bytesOf 1 v.mode.code ++ flagByte v.auto ++ flagByte v.tc ++
          flagByte v.passPending ++ bytesOf 1 v.credit ++ flagByte (decide (v.st = .waitSlot ∨ v.st = .running)) ++
          slotByte v.slot ++ bytesOf 4 v.visits ++ bytesOf 4 v.emitted := by
  rw [← Channel.outstanding_eq]
  rfl

/-- Settles O55: each request reaches its serving function, on the channel it names. -/
theorem theOfficeServesChannels : Obligations.TheOfficeServesChannels := by
  refine ⟨?set, ?arm, ?step, ?mask, ?unmask, ?status, ?recovering, ?setBad, ?bad, ?statusBad⟩
  case set =>
    rintro s b c dir mode u hb signed rfl within direction moded flag made
    rw [exec_setChannel hb, serveSetChannel_stored signed within (setupOfBody_of direction moded flag),
      (ChannelSetup.clamp_eq _).trans made.symm]
    refine ⟨_, rfl, ?_, fun j other => ?_, rfl⟩
    · simp only [State.setup, signed, if_true, Table.read_write_same]
    · simp only [State.setup, signed, if_true, Table.read_write_ne _ _ _ other]
  case arm =>
    rintro s b c v hb open_ rfl within rfl
    rw [exec_armChannel hb, onChannel_serves serveArm open_ within]
    refine ⟨fun notRunning notWaiting => ?_, fun busy => ?_⟩
    · rw [serveArm_loads notRunning notWaiting]
      exact ⟨_, rfl, channelWritten_setChannel .., State.setChannel_frame ..⟩
    · rw [serveArm_refused busy]
  case step =>
    rintro s b c v hb open_ rfl within rfl
    rw [exec_stepChannel hb, onChannel_serves serveStep open_ within]
    refine ⟨fun waits => ?_, fun other => ?_⟩
    · rw [serveStep, if_pos waits]
      exact ⟨_, rfl, channelWritten_setChannel .., State.setChannel_frame ..⟩
    · rw [serveStep, if_neg other]
  case mask =>
    rintro s b c v w hb open_ rfl within named rfl rule
    rw [exec_maskChannelMask hb named, onChannel_serves serveMask open_ within, serveMask, Channel.masked_eq rule]
    exact ⟨_, rfl, channelWritten_setChannel .., State.setChannel_frame ..⟩
  case unmask =>
    rintro s b c v hb open_ rfl within named rfl
    rw [exec_maskChannelUnmask hb named, onChannel_serves serveUnmask open_ within]
    refine ⟨fun st => ?_, fun st pending => ?_, fun st pending => ?_, fun st => ?_, fun st => ?_⟩
    · rw [serveUnmask_idle st, Channel.walk_eq]
      exact ⟨_, rfl, channelWritten_setChannel .., State.setChannel_frame ..⟩
    · rw [serveUnmask_running st, if_pos pending]
      exact ⟨_, rfl, channelWritten_setChannel .., State.setChannel_frame ..⟩
    · rw [serveUnmask_running st, if_neg (by simp only [pending, Bool.false_eq_true, not_false_eq_true]),
        Channel.noMaskPending pending]
      exact ⟨_, rfl, channelWritten_setChannel .., State.setChannel_frame ..⟩
    · simp only [serveUnmask, st]
    · simp only [List.mem_cons, List.not_mem_nil, or_false] at st
      obtain st | st | st | st := st <;> simp only [serveUnmask, st]
  case status =>
    rintro s b c v u hb rfl within rfl rfl
    have served : exec .channelStatus s = .next (serveChannelStatus b s) :=
      congrArg Host.Outcome.next (officeStep_of_officeBody serveChannelStatus hb)
    rw [served, serveChannelStatus, if_neg (Nat.not_lt.mpr within)]
    refine ⟨_, congrArg (fun bytes => Host.Outcome.next (State.done _ bytes)) ?_, channelWritten_setChannel .., State.setChannel_frame ..⟩
    exact channelStatusBytes_eq ..
  case recovering =>
    intro s b recovering
    refine ⟨fun hb => ?_, fun hb => ?_, fun hb named => ?_, fun hb named => ?_⟩
    · rw [exec_armChannel hb, onChannel_recovering _ recovering]
    · rw [exec_stepChannel hb, onChannel_recovering _ recovering]
    · rw [exec_maskChannelMask hb named, onChannel_recovering _ recovering]
    · rw [exec_maskChannelUnmask hb named, onChannel_recovering _ recovering]
  case setBad =>
    intro s b hb
    rw [exec_setChannel hb]
    refine ⟨fun blank => ?_, fun signed outside => ?_⟩
    · rw [serveSetChannel, if_pos blank]
    · rw [serveSetChannel_refused signed outside]
  case bad =>
    intro s b open_
    refine ⟨fun hb above => ?_, fun hb above => ?_, fun hb bad => ?_, fun hb bad => ?_⟩
    · rw [exec_armChannel hb, onChannel_above _ open_ above]
    · rw [exec_stepChannel hb, onChannel_above _ open_ above]
    · exact congrArg Host.Outcome.next (onAction_refused serveMask hb open_ bad (by decide))
    · exact congrArg Host.Outcome.next (onAction_refused serveUnmask hb open_ bad (by decide))
  case statusBad =>
    intro s b hb above
    have served : exec .channelStatus s = .next (serveChannelStatus b s) :=
      congrArg Host.Outcome.next (officeStep_of_officeBody serveChannelStatus hb)
    rw [served, serveChannelStatus, if_pos above]

end Sys2Proof.Machine
end

section
/-! PROOFS. The office's requests on shop and house records (R37, R112, R139, R140, R173, R188, R189). -/

namespace Sys2Proof.Machine

/-! ### A request at its turn (R137, R141, R188) -/

section
variable {s : State} {kind : Nat} {b : List Byte} (serve : List Byte → State → State)

theorem shopStep_served (served : shopRequestServed s kind b) : shopStep kind serve s = serve b (requestServed s) := by
  obtain ⟨hb, turn, signed⟩ := served
  have running := (State.nextWork_spec turn).2
  unfold shopStep
  simp only [hb, if_neg running, if_pos turn, State.noteWork_visitsHigher, requestServed, signed, if_true]

theorem shopStep_blank (hb : s.officeBody kind = some b) (turn : s.nextWork = some .request)
    (blank : s.store.signature = false) : shopStep kind serve s = (requestServed s).refuse .wrongState := by
  have running := (State.nextWork_spec turn).2
  unfold shopStep
  simp only [hb, if_neg running, if_pos turn, State.noteWork_visitsHigher, requestServed, blank, Bool.false_eq_true, if_false]

theorem shopStep_recovering (hb : s.officeBody kind = some b) (recovering : s.ledger.mode = .recovering) :
    shopStep kind serve s = s.refuse .wrongState := by
  unfold shopStep
  simp only [hb, if_pos recovering]

end

theorem exec_snapShop_empty {s : State} (empty : s.office.latch = none) :
    exec .snapShop s = .next (shopStep 0x51 serveSnapShop s) := by
  show execSnapShop s = _
  unfold execSnapShop
  rw [empty, Option.isSome_none, Bool.and_false, if_neg Bool.false_ne_true]

/-- What each of the five commands runs when the latch does not stop it. -/
theorem exec_shopRequest {s : State} {i : Instr} {kind : Nat}
    (row : (i, kind) ∈ [(Instr.setShop, 0x52), (.readShop, 0x50), (.readHouse, 0x44), (.resolve, 0x53)] ∨
      (i = .snapShop ∧ kind = 0x51 ∧ s.office.latch = none)) :
    ∃ serve, exec i s = .next (shopStep kind serve s) := by
  simp only [List.mem_cons, Prod.mk.injEq, List.not_mem_nil, or_false] at row
  obtain (⟨rfl, rfl⟩ | ⟨rfl, rfl⟩ | ⟨rfl, rfl⟩ | ⟨rfl, rfl⟩) | ⟨rfl, rfl, empty⟩ := row
  · exact ⟨serveSetShop, rfl⟩
  · exact ⟨serveReadShop, rfl⟩
  · exact ⟨serveReadHouse, rfl⟩
  · exact ⟨serveResolve, rfl⟩
  · exact ⟨serveSnapShop, exec_snapShop_empty empty⟩

/-! ### Outcomes with an edited record or latch -/

theorem OfficeState.ofCode_of_lt : ∀ {n : Nat}, 3 < n → OfficeState.ofCode n = none
  | 0, above | 1, above | 2, above | 3, above => absurd above (by decide)
  | _ + 4, _ => rfl

theorem ResolveOutcome.ofCode_of_lt : ∀ {n : Nat}, 1 < n → ResolveOutcome.ofCode n = none
  | 0, above | 1, above => absurd above (by decide)
  | _ + 2, _ => rfl

theorem resolveOutcome_known : ∀ {n : Nat}, n ≤ 1 → ∃ o, ResolveOutcome.ofCode n = some o
  | 0, _ => ⟨_, rfl⟩
  | 1, _ => ⟨_, rfl⟩
  | _ + 2, above => absurd above (by omega)

/-- A roll made under one reservation is an outcome. -/
theorem RollMade.outcome {s m : State} {k : Nat} (made : RollMade s m k 1) :
    OutcomeMade s m k (s.rollFor k).shop
      (houseAfter s.store.houseRec (s.store.house.has k) (s.rollFor k).entry.commission (s.rollFor k).entry.net)
      { s.settle with unrolled := s.settle.unrolled - 1 } (rollFull s k) [1, 4, 5] (.roll (s.rollFor k).entry) where
  shop := made.shop
  house := made.house
  entry := made.oneEntry
  settle := made.settle
  fault := made.fault
  raises := made.raises
  plu := made.plu
  channels := made.channels
  nextTag := made.nextTag
  frame := made.frame

/-- The record of the shop written once more. -/
theorem OutcomeMade.setShop {s m : State} {k : Nat} {r : ShopRecord} {h : HouseRecord} {st : Settle} {full : Bool}
    {sources : List Nat} {body : EntryBody} (made : OutcomeMade s m k r h st full sources body) (q : ShopRecord) :
    OutcomeMade s (m.setShop k q) k q h st full sources body where
  shop := ⟨State.setShop_shop_same m k q, fun j other => (State.setShop_shop_ne m k q other).trans (made.shop.2 j other)⟩
  house := made.house
  entry := made.entry
  settle := made.settle
  fault := made.fault
  raises := made.raises
  plu := made.plu
  channels := made.channels
  nextTag := made.nextTag
  frame := made.frame

/-- The roll that a request at its turn makes first. -/
theorem requestServed_roll {s : State} {k : Nat} (behind : s.behind k = true) (room : s.canReserve .general 1 = true) :
    ∃ m, (requestServed s).rollIfBehind k = some m ∧
      OutcomeMade s m k (s.rollFor k).shop
        (houseAfter s.store.houseRec (s.store.house.has k) (s.rollFor k).entry.commission (s.rollFor k).entry.net)
        { (requestServed s).settle with unrolled := s.settle.unrolled - 1 } (rollFull s k) [1, 4, 5]
        (.roll (s.rollFor k).entry) := by
  obtain ⟨s1, granted⟩ := State.reserve_of_canReserve (s := requestServed s) room
  have behind' : (requestServed s).behind k = true := behind
  refine ⟨s1.commitRoll k, ?_, ?_⟩
  · rw [State.rollIfBehind, if_pos behind', granted, Option.map_some]
  · exact (rollMade_of_reserve granted (by decide) k).outcome.rebase rfl

theorem requestServed_current {s : State} {k : Nat} (current : s.behind k = false) :
    (requestServed s).rollIfBehind k = some (requestServed s) :=
  if_neg (by rw [show (requestServed s).behind k = false from current]; exact Bool.false_ne_true)

theorem requestServed_full {s : State} {k : Nat} (behind : s.behind k = true) (noRoom : s.canReserve .general 1 = false) :
    (requestServed s).rollIfBehind k = none := by
  have behind' : (requestServed s).behind k = true := behind
  rw [State.rollIfBehind, if_pos behind', reserve_none_of (s := requestServed s) noRoom, Option.map_none]

/-! ### SET_SHOP, SNAP_SHOP, RESOLVE -/

theorem serveSetShop_rolled {s u : State} {b : List Byte} {k : Nat} {st : OfficeState} (named : k = fieldAt b 2 2) (within : k ≤ 511)
    (state : OfficeState.ofCode (fieldAt b 4 1) = some st) (rolled : s.rollIfBehind k = some u) :
    serveSetShop b s = (u.setShop k { u.shop k with office := st, debtLimit := min 10000000 (fieldAt b 5 4) }).done [] := by
  subst named
  have small : ¬Config.shops ≤ officeShop b := by
    simp only [Config.shops, officeShop]
    omega
  unfold serveSetShop
  simp only [if_neg small, officeShop, setShopState, setShopLimit, state, rolled, clampTo, Nat.zero_max, Config.amountMax]

theorem serveSetShop_full {s : State} {b : List Byte} {k : Nat} {st : OfficeState} (named : k = fieldAt b 2 2) (within : k ≤ 511)
    (state : OfficeState.ofCode (fieldAt b 4 1) = some st) (full : s.rollIfBehind k = none) :
    serveSetShop b s = s.refuse .journalFull := by
  subst named
  have small : ¬Config.shops ≤ officeShop b := by
    simp only [Config.shops, officeShop]
    omega
  unfold serveSetShop
  simp only [if_neg small, officeShop, setShopState, state, full]

theorem serveSetShop_bad {s : State} {b : List Byte} (bad : 511 < fieldAt b 2 2 ∨ 3 < fieldAt b 4 1) :
    serveSetShop b s = s.refuse .badValue := by
  by_cases above : 511 < fieldAt b 2 2
  · exact if_pos above
  · simp only [serveSetShop, setShopState, OfficeState.ofCode_of_lt (bad.resolve_left above), ite_self]

/-- A state with a copy in the latch. -/
def State.latched (s : State) (c : Snapshot) : State := { s with office.latch := some c }

theorem serveSnapShop_rolled {s u : State} {b : List Byte} {k : Nat} (named : k = fieldAt b 2 2) (within : k ≤ 511)
    (rolled : s.rollIfBehind k = some u) :
    serveSnapShop b s =
      (u.latched { shop := k, record := u.shop k, period := u.settle.period, time := u.time }).done [] := by
  subst named
  have small : ¬Config.shops ≤ officeShop b := by
    simp only [Config.shops, officeShop]
    omega
  unfold serveSnapShop
  simp only [if_neg small, officeShop, rolled]
  rfl

theorem serveSnapShop_full {s : State} {b : List Byte} {k : Nat} (named : k = fieldAt b 2 2) (within : k ≤ 511)
    (full : s.rollIfBehind k = none) : serveSnapShop b s = s.refuse .journalFull := by
  subst named
  have small : ¬Config.shops ≤ officeShop b := by
    simp only [Config.shops, officeShop]
    omega
  unfold serveSnapShop
  simp only [if_neg small, officeShop, full]

/-- The state after the record of shop k has become what the outcome makes of it, before its entry. -/
def State.resolveTo (s : State) (k : Nat) : ResolveOutcome → State
  | .settled => s.makeSettled k
  | .returned => s.makeReturned k

section
variable {s : State} {b : List Byte} {k : Nat} {o : ResolveOutcome} (named : k = fieldAt b 2 2) (within : k ≤ 511)
  (outcome : ResolveOutcome.ofCode (fieldAt b 4 1) = some o)
include named within outcome

theorem serveResolve_notInDoubt (other : (s.shop k).closing.state ≠ .inDoubt) : serveResolve b s = s.refuse .wrongState := by
  subst named
  have small : ¬Config.shops ≤ officeShop b := by
    simp only [Config.shops, officeShop]
    omega
  unfold serveResolve
  simp only [if_neg small, officeShop, resolveOutcomeByte, outcome, ne_eq, other, not_false_eq_true, if_true]

theorem serveResolve_inDoubt (doubt : (s.shop k).closing.state = .inDoubt) :
    (s.reserve .general 1 = none → serveResolve b s = s.refuse .journalFull) ∧
    (∀ s1, s.reserve .general 1 = some s1 → serveResolve b s =
      ((s1.resolveTo k o).append s.settle.period
        (.resolve k (s.shop k).closing.period ((s.shop k).closing.tag.getD 0) (s.shop k).closing.amount o)).done []) := by
  subst named
  have small : ¬Config.shops ≤ officeShop b := by
    simp only [Config.shops, officeShop]
    omega
  refine ⟨fun full => ?_, fun s1 granted => ?_⟩
  · unfold serveResolve
    simp only [if_neg small, officeShop, resolveOutcomeByte, outcome, doubt, ne_eq, not_true_eq_false, if_false, full]
  · unfold serveResolve
    simp only [if_neg small, officeShop, resolveOutcomeByte, outcome, doubt, ne_eq, not_true_eq_false, if_false, granted]
    cases o with
    | settled => rfl
    | returned => rfl

end

theorem serveResolve_bad {s : State} {b : List Byte} (bad : 511 < fieldAt b 2 2 ∨ 1 < fieldAt b 4 1) :
    serveResolve b s = s.refuse .badValue := by
  by_cases above : 511 < fieldAt b 2 2
  · exact if_pos above
  · simp only [serveResolve, resolveOutcomeByte, ResolveOutcome.ofCode_of_lt (bad.resolve_left above), ite_self]

/-- RESOLVE as SETTLED under its reservation. -/
theorem resolveTo_settled {s s1 : State} {st1 : Settle} (granted : State.reserve { s with settle := st1 } .general 1 = some s1)
    (period : st1.period = s.settle.period) (k : Nat) (body : EntryBody) :
    OutcomeMade s ((s1.resolveTo k .settled).append s.settle.period body) k
      { s.shop k with closing := { (s.shop k).closing with state := .settled } }
      (settledHouse s.store.houseRec (s.shop k).closing.amount) { st1 with openPayouts := st1.openPayouts - 1 }
      (decide (9223372036854775807 < s.store.houseRec.settled + (s.shop k).closing.amount)) [1, 4, 5] body := by
  obtain ⟨store, settle, -, -⟩ := State.reserve_leaves granted
  have record : s1.shop k = s.shop k := by simp only [State.shop, store]
  have made := s1.makeSettled_records k
  rw [record, store, settle] at made
  rw [← period]
  exact (outcome_of_records granted made body).rebase period

/-- RESOLVE as RETURNED under its reservation. -/
theorem resolveTo_returned {s s1 : State} {st1 : Settle} (granted : State.reserve { s with settle := st1 } .general 1 = some s1)
    (period : st1.period = s.settle.period) (k : Nat) (body : EntryBody) :
    OutcomeMade s ((s1.resolveTo k .returned).append s.settle.period body) k (returnedShop (s.shop k)) s.store.houseRec
      { st1 with openPayouts := st1.openPayouts - 1 }
      (returnedShop.carryFull ((s.shop k).carry + (s.shop k).closing.amount)) [1, 4, 5] body := by
  obtain ⟨store, settle, -, -⟩ := State.reserve_leaves granted
  have record : s1.shop k = s.shop k := by simp only [State.shop, store]
  have made := s1.makeReturned_records k
  rw [record, store, settle] at made
  rw [← period]
  exact (outcome_of_records granted made body).rebase period

/-- Settles O54: each request at its turn reaches its serving function in `requestServed s`, and its roll or outcome is what one
reservation makes. -/
theorem theOfficeServesShops : Obligations.TheOfficeServesShops := by
  refine ⟨?set, ?setBad, ?read, ?readBad, ?snap, ?snapBad, ?latchHeld, ?house, ?resolve, ?resolveBad, ?blank, ?recovering⟩
  case set =>
    intro s b k st served named within state
    have run : exec .setShop s = .next (serveSetShop b (requestServed s)) :=
      congrArg Host.Outcome.next (shopStep_served serveSetShop served)
    rw [run]
    refine ⟨fun current => ?_, fun behind room => ?_, fun behind noRoom => ?_⟩
    · rw [serveSetShop_rolled named within state (requestServed_current current)]
      rfl
    · obtain ⟨m, rolled, made⟩ := requestServed_roll behind room
      rw [serveSetShop_rolled named within state rolled, made.shop.1]
      have written := made.setShop { (s.rollFor k).shop with office := st, debtLimit := min 10000000 (fieldAt b 5 4) }
      generalize m.setShop k _ = u at written
      exact ⟨u, rfl, written.shop, written.house, written.entry, written.settle, written.fault, written.raises, written.channels,
        written.plu, written.nextTag, written.frame⟩
    · rw [serveSetShop_full named within state (requestServed_full behind noRoom)]
  case setBad =>
    intro s b served bad
    exact congrArg Host.Outcome.next ((shopStep_served serveSetShop served).trans (serveSetShop_bad bad))
  case read =>
    intro s b served within
    refine congrArg Host.Outcome.next ((shopStep_served serveReadShop served).trans ?_)
    exact if_neg (Nat.not_le.mpr (Nat.lt_succ_of_le within))
  case readBad =>
    intro s b served above
    refine congrArg Host.Outcome.next ((shopStep_served serveReadShop served).trans ?_)
    exact if_pos above
  case snap =>
    intro s b k served named within empty
    rw [exec_snapShop_empty empty, shopStep_served serveSnapShop served]
    refine ⟨fun current => ?_, fun behind room => ?_, fun behind noRoom => ?_⟩
    · rw [serveSnapShop_rolled named within (requestServed_current current)]
      rfl
    · obtain ⟨m, rolled, made⟩ := requestServed_roll behind room
      have time : m.time = s.time := (congrArg State.time ((settleFrame_iff s m).mp made.frame) :)
      have period : m.settle.period = s.settle.period := by rw [made.settle]; rfl
      rw [serveSnapShop_rolled named within rolled, made.shop.1, time, period]
      refine ⟨_, rfl, rfl, made.shop, made.house, made.entry, made.settle, made.fault, made.raises, made.channels, made.plu,
        made.nextTag, ?_⟩
      exact (congrArg (fun x : State => { x with office.latch := s.office.latch }) ((settleFrame_iff s m).mp made.frame) :)
    · rw [serveSnapShop_full named within (requestServed_full behind noRoom)]
  case snapBad =>
    intro s b served empty above
    rw [exec_snapShop_empty empty, shopStep_served serveSnapShop served]
    exact congrArg Host.Outcome.next (if_pos above)
  case latchHeld =>
    intro s b hb held
    have both : ((s.officeBody 0x51).isSome && s.office.latch.isSome) = true := by
      rw [hb, Option.isSome_some, Bool.true_and, Option.isSome_iff_ne_none]
      exact held
    exact if_pos both
  case house =>
    intro s b served
    exact congrArg Host.Outcome.next (shopStep_served serveReadHouse served)
  case resolve =>
    rintro s b k r served named within rfl
    have run : exec .resolve s = .next (serveResolve b (requestServed s)) :=
      congrArg Host.Outcome.next (shopStep_served serveResolve served)
    rw [run]
    refine ⟨fun doubt room isSettled => ?_, fun doubt room isReturned => ?_, fun doubt noRoom known => ?_, fun other known => ?_⟩
    · obtain ⟨s1, granted⟩ := State.reserve_of_canReserve (s := requestServed s) room
      have outcome : ResolveOutcome.ofCode (fieldAt b 4 1) = some .settled := by rw [isSettled]; rfl
      rw [(serveResolve_inDoubt (s := requestServed s) named within outcome doubt).2 s1 granted]
      have made := resolveTo_settled granted rfl k (.resolve k (s.shop k).closing.period ((s.shop k).closing.tag.getD 0)
        (s.shop k).closing.amount .settled)
      refine ⟨_, rfl, ?_⟩
      exact ⟨made.shop, made.house, made.entry, made.settle, made.fault, made.raises, made.channels,
        made.plu, made.nextTag, made.frame⟩
    · obtain ⟨s1, granted⟩ := State.reserve_of_canReserve (s := requestServed s) room
      have outcome : ResolveOutcome.ofCode (fieldAt b 4 1) = some .returned := by rw [isReturned]; rfl
      rw [(serveResolve_inDoubt (s := requestServed s) named within outcome doubt).2 s1 granted]
      have made := resolveTo_returned granted rfl k (.resolve k (s.shop k).closing.period ((s.shop k).closing.tag.getD 0)
        (s.shop k).closing.amount .returned)
      refine ⟨_, rfl, ?_⟩
      exact ⟨made.shop, made.house, made.entry, made.settle, made.fault, made.raises, made.channels,
        made.plu, made.nextTag, made.frame⟩
    · obtain ⟨o, outcome⟩ : ∃ o, ResolveOutcome.ofCode (fieldAt b 4 1) = some o := resolveOutcome_known known
      rw [(serveResolve_inDoubt (s := requestServed s) named within outcome doubt).1 (reserve_none_of (s := requestServed s) noRoom)]
    · obtain ⟨o, outcome⟩ : ∃ o, ResolveOutcome.ofCode (fieldAt b 4 1) = some o := resolveOutcome_known known
      rw [serveResolve_notInDoubt (s := requestServed s) named within outcome other]
  case resolveBad =>
    intro s b served bad
    exact congrArg Host.Outcome.next ((shopStep_served serveResolve served).trans (serveResolve_bad bad))
  case blank =>
    intro s i kind b hb turn blank row
    obtain ⟨serve, run⟩ := exec_shopRequest row
    rw [run, shopStep_blank serve hb turn blank]
  case recovering =>
    intro s i kind b hb recovering row
    obtain ⟨serve, run⟩ := exec_shopRequest row
    rw [run, shopStep_recovering serve hb recovering]

end Sys2Proof.Machine
end

section
/-! PROOFS. FORMAT, OPEN_LEDGER and CLOSE_PERIOD at the Card Ledger (R21, R44, R45, R48, R130, R131). -/

namespace Sys2Proof.Machine

/-- The office card request the arbiter picks is served with lane 0 standing highest (R48). -/
theorem cardStep_of_cardWork {s : State} {kind : Nat} {b : List Byte} (serve : List Byte → State → State)
    (work : s.cardWork kind = some b) : cardStep kind serve s = serve b { s with ledger.top := 0 } := by
  simp only [cardStep, work]
  rfl

/-! ### FORMAT (R44) -/

theorem Table.read_filter {α : Type} (d : α) (p : Nat → Bool) (k : Nat) : ∀ t : Table α,
    Table.read d (t.filter fun e => p e.1) k = if p k then Table.read d t k else d
  | [] => (ite_self _).symm
  | (j, v) :: t => by
    have ih := Table.read_filter d p k t
    by_cases kept : p j = true
    · rw [List.filter_cons_of_pos (p := fun e : Nat × α => p e.1) kept]
      by_cases same : k = j
      · subst same
        simp only [Table.read, if_true, kept]
      · simp only [Table.read, if_neg same, ih]
    · rw [List.filter_cons_of_neg (p := fun e : Nat × α => p e.1) kept, ih]
      by_cases same : k = j
      · subst same
        simp only [Bool.not_eq_true] at kept
        simp only [kept, Bool.false_eq_true, if_false]
      · simp only [Table.read, if_neg same]

/-- The state FORMAT_COMPLETE leaves, before its answer (R44). -/
def State.formatted (s : State) : State :=
  { s with
    store := s.store.format s.cap,
    ledger := { s.ledger with period := 0, faults := [], faultOverflow := false, formatting := false },
    settle.period := 0, settle.unrolled := 0, settle.openPayouts := 0,
    journal.nextStream := 1, journal.highHeld := false, journal.fullHeld := false }

theorem State.formatted_card (s : State) (k : Nat) : s.formatted.card k = if s.cap ≤ k then s.card k else CardRecord.blank := by
  have read := Table.read_filter CardRecord.blank (fun j => decide (s.cap ≤ j)) k s.store.cards
  simp only [decide_eq_true_eq] at read
  exact read

theorem exec_formatComplete {s : State} (running : s.ledger.formatting = true) (unwarned : s.pfw = false) :
    exec .formatComplete s = .next (s.formatted.done []) := by
  show execFormatComplete s = _
  unfold execFormatComplete
  rw [if_pos (by rw [running, unwarned]; rfl)]
  rfl

/-! ### One entry behind edits under its reservation -/

theorem oneEntry_of_reserve {s s1 u : State} {cls : ResClass} (granted : s.reserve cls 1 = some s1) (kept : JournalKept s1 u)
    (time : u.time = s1.time) (p : Nat) (body : EntryBody) : oneEntry s (u.append p body) p body := by
  obtain ⟨entry, marks⟩ := u.append_spec p body
  generalize u.append p body = m at *
  refine ⟨?_, marksFollow_grant granted (marksFollow_of_kept kept marks)⟩
  obtain ⟨ring, next, oldest, chip, -, -, -⟩ := kept
  obtain ⟨-, s1Eq⟩ := State.reserve_eq granted
  generalize fullRaised s 1 = full at s1Eq
  subst s1Eq
  cases full <;>
    simpa only [entryJoins, pointersPass, ring, next, oldest, chip, time, State.raiseIf_false, State.raiseIf_true, State.raise_store,
      State.raise_journal, State.raise_time, Nat.add_sub_cancel] using entry

/-! ### OPEN_LEDGER (R45) -/

theorem exec_openLedger {s : State} {b : List Byte} (work : s.cardWork 0x42 = some b) :
    exec .openLedger s = .next (serveOpenLedger b { s with ledger.top := 0 }) :=
  congrArg Host.Outcome.next (cardStep_of_cardWork serveOpenLedger work)

/-- The store and the registers with period 1 open, before the entry (R45). -/
def State.opened (s : State) : State :=
  { s with store.openFlag := true, store.periodWord := 1, ledger.period := 1, ledger.mode := .opened, settle.period := 1 }

/-- A state with all that the opening writes as in another. -/
def State.openingOf (s t : State) : State :=
  { t with store.openFlag := s.store.openFlag, store.periodWord := s.store.periodWord, ledger := s.ledger, settle := s.settle,
           store.ring := s.store.ring, store.nextToWrite := s.store.nextToWrite, journal := s.journal,
           attn.pending := s.attn.pending }

theorem serveOpenLedger_eq {s : State} {b : List Byte} (config : s.ledger.mode = .config) (signed : s.store.signature = true)
    (unopened : s.store.periodWord = 0) :
    (s.reserve .general 1 = none → serveOpenLedger b s = s.refuse .journalFull) ∧
    (∀ s1, s.reserve .general 1 = some s1 → serveOpenLedger b s = (s1.opened.append 1 (.period 0 1)).done []) := by
  have passes : ¬(s.ledger.mode ≠ .config ∨ s.store.signature = false ∨ s.store.periodWord ≠ 0) := by
    rw [config, signed, unopened]
    decide
  refine ⟨fun full => ?_, fun s1 granted => ?_⟩
  · simp only [serveOpenLedger, if_neg passes, full]
  · simp only [serveOpenLedger, if_neg passes, granted]
    rfl

/-! ### CLOSE_PERIOD (R130, R131) -/

/-- The CLOSE entry of a period pushed, and outstanding (R131). -/
def State.closing (s : State) (period : Nat) : State :=
  { s with settle.accruals := s.settle.accruals ++ [.close period], ledger.closeOutstanding := true }

theorem exec_closePeriod {s : State} {b : List Byte} (work : s.cardWork 0x41 = some b) :
    exec .closePeriod s = .next (serveClosePeriod b { s with ledger.top := 0 }) :=
  congrArg Host.Outcome.next (cardStep_of_cardWork serveClosePeriod work)

section
variable {s : State} {b : List Byte}

theorem serveClosePeriod_noPlace (full : 16 ≤ s.settle.accruals.length) : serveClosePeriod b s = s.refuse .journalFull := by
  have noPlace : (!s.accrualFree) = true := by
    simp only [State.accrualFree, Bool.not_eq_true', decide_eq_false_iff_not, not_lt]
    exact full
  exact if_pos noPlace

variable (place : s.settle.accruals.length < 16)
include place

theorem serveClosePeriod_place : serveClosePeriod b s =
    if s.ledger.mode ≠ .opened then s.refuse .wrongState
    else if s.ledger.period = 65535 then s.refuse .periodLimit
    else if 0 < s.settle.unrolled then s.refuse .rollBusy
    else ((s.reserve .general 1).map fun s1 => s1.closing s.ledger.period).getD (s.refuse .journalFull) := by
  have free : ¬(!s.accrualFree) = true := by
    simp only [State.accrualFree, Bool.not_eq_true', decide_eq_false_iff_not, not_not]
    exact place
  unfold serveClosePeriod
  rw [if_neg free]
  cases s.reserve .general 1 with
  | none => rfl
  | some s1 => rfl

end

/-- A grant raises JOURNAL_FULL at most (R181). -/
theorem State.reserve_raises {s s1 : State} {cls : ResClass} {n : Nat} (granted : s.reserve cls n = some s1) :
    onlyRaises s s1 [4] := by
  obtain ⟨-, made⟩ := State.reserve_eq granted
  generalize counted : ({ s with journal.reserved := s.journal.reserved + n,
                                 journal.fullHeld := s.journal.fullHeld || fullRaised s n } : State) = u at made
  have same : u.attn.pending = s.attn.pending := by rw [← counted]
  rw [made]
  exact onlyRaises_trans (onlyRaises_of_eq _ same) (onlyRaises_raiseIf u _ .journalFull [4] (by decide))

/-- The CLOSE entry joins the accrual queue under its reservation (R131). -/
theorem exists_closing {s s1 : State} (granted : State.reserve { s with ledger.top := 0 } .general 1 = some s1) :
    ∃ t, Host.Outcome.next (State.closing s1 s.ledger.period) = (.next t : Out) ∧
      t.settle.accruals = s.settle.accruals ++ [.close s.ledger.period] ∧
      t.ledger = { s.ledger with top := 0, closeOutstanding := true } ∧ t.journal.reserved = s.journal.reserved + 1 ∧
      marksFollow s t 1 0 ∧ onlyRaises s t [4] ∧
      { t with ledger := s.ledger, settle.accruals := s.settle.accruals, journal.reserved := s.journal.reserved,
               journal.fullHeld := s.journal.fullHeld, attn.pending := s.attn.pending } = s := by
  have marks : marksFollow s (s1.closing s.ledger.period) 1 0 :=
    marksFollow_grant (s := { s with ledger.top := 0 }) granted (marksFollow_refl s1)
  have raises : onlyRaises s s1 [4] := State.reserve_raises (s := { s with ledger.top := 0 }) granted
  obtain ⟨-, made⟩ := State.reserve_eq granted
  generalize fullRaised _ 1 = full at made
  refine ⟨_, rfl, ?_, ?_, ?_, marks, raises, ?_⟩
  all_goals
    subst made
    cases full <;> rfl

/-- Settles O51: FORMAT's two halves by evaluation, OPEN_LEDGER and CLOSE_PERIOD by their reservation and entry. -/
theorem theLedgerIsFormattedOpenedAndClosed : Obligations.TheLedgerIsFormattedOpenedAndClosed := by
  refine ⟨?format, ?formatted, ?opening, ?noPlace, ?closing⟩
  case format =>
    intro s b work
    have run : exec .format s = .next (serveFormat b { s with ledger.top := 0 }) :=
      congrArg Host.Outcome.next (cardStep_of_cardWork serveFormat work)
    rw [run]
    refine ⟨fun config => ?_, fun other => ?_⟩
    · exact congrArg Host.Outcome.next (if_neg fun no => no config)
    · exact congrArg Host.Outcome.next (if_pos other)
  case formatted =>
    intro s running unwarned
    refine ⟨s.formatted, exec_formatComplete running unwarned, rfl, rfl, rfl, fun k below => ?_, fun k above => ?_,
      fun k => rfl, fun k => rfl, rfl, fun k => rfl, rfl, fun k => rfl, rfl, fun k => rfl, rfl, rfl, rfl, rfl, rfl, rfl, rfl, rfl,
      rfl, rfl⟩
    · rw [State.formatted_card, if_neg (Nat.not_le.mpr below)]
      rfl
    · rw [State.formatted_card, if_pos above]
  case opening =>
    intro s b work
    rw [exec_openLedger work]
    refine ⟨fun config signed unopened room => ?_, fun no => ?_, fun config signed unopened noRoom => ?_⟩
    · generalize top : ({ s with ledger.top := 0 } : State) = s0
      obtain ⟨s1, granted⟩ := State.reserve_of_canReserve (s := s0) (by rw [← top]; exact room)
      rw [(serveOpenLedger_eq (by rw [← top]; exact config) (by rw [← top]; exact signed) (by rw [← top]; exact unopened)).2 s1 granted]
      obtain ⟨store, settle, only, frame⟩ := State.reserve_leaves granted
      have entry := oneEntry_of_reserve (u := s1.opened) granted ⟨rfl, rfl, rfl, rfl, rfl, rfl, rfl⟩ rfl 1 (.period 0 1)
      have keeps := s1.opened.append_keeps 1 (.period 0 1)
      have raises := s1.opened.append_raises 1 (.period 0 1)
      generalize s1.opened.append 1 (.period 0 1) = m at *
      subst top
      have ledger1 : s1.ledger = { s.ledger with top := 0 } := (congrArg State.ledger frame :)
      refine ⟨m, rfl, (congrArg (fun x => x.store.openFlag) keeps :), (congrArg (fun x => x.store.periodWord) keeps :), ?_, ?_,
        entry, ?_, ?_⟩
      · refine (congrArg State.ledger keeps :).trans ?_
        rw [State.opened, ledger1]
      · refine (congrArg State.settle keeps :).trans ?_
        rw [State.opened, settle]
      · exact onlyRaises_trans only raises
      · exact (congrArg (State.openingOf s) keeps :).trans (congrArg (State.openingOf s) frame :)
    · exact congrArg Host.Outcome.next (if_pos no)
    · exact congrArg Host.Outcome.next
        ((serveOpenLedger_eq (s := { s with ledger.top := 0 }) config signed unopened).1
          (reserve_none_of (s := { s with ledger.top := 0 }) noRoom))
  case noPlace =>
    intro s b work full
    rw [exec_closePeriod work, serveClosePeriod_noPlace (s := { s with ledger.top := 0 }) full]
  case closing =>
    intro s b work place
    rw [exec_closePeriod work, serveClosePeriod_place (s := { s with ledger.top := 0 }) place]
    refine ⟨fun opened notLast none_ room => ?_, fun other => ?_, fun opened notLast none_ noRoom => ?_, fun opened last => ?_,
      fun opened notLast busy => ?_⟩
    · obtain ⟨s1, granted⟩ := State.reserve_of_canReserve (s := { s with ledger.top := 0 }) room
      rw [if_neg (fun no => no opened), if_neg notLast, if_neg (by simp only [none_]; decide), granted]
      exact exists_closing granted
    · rw [if_pos other]
    · rw [if_neg (fun no => no opened), if_neg notLast, if_neg (by simp only [none_]; decide),
        reserve_none_of (s := { s with ledger.top := 0 }) noRoom]
      rfl
    · rw [if_neg (fun no => no opened), if_pos last]
    · rw [if_neg (fun no => no opened), if_neg notLast, if_pos busy]

end Sys2Proof.Machine
end

section
/-! PROOFS. The office's card requests: their commits, their refusals and the two reads (R43, R49, R60 to R67). -/

namespace Sys2Proof.Machine

/-! ### Admission as a list of checks (R61) -/

/-- The checks every office request on a sound record meets first: OPEN, program lookup, record (R61). -/
def officeFront (s : State) (serial : Nat) : List (Bool × OfficeCode) :=
  [(decide (s.ledger.mode = .opened), .wrongState), ((s.lookup serial).isSome, .badValue),
    (readable s serial (s.lookup serial), .wrongState)]

/-- The record of a serial in OPEN under its program cannot be read (R52). -/
def recordUnreadable (s : State) (serial : Nat) : Prop :=
  s.ledger.mode = .opened ∧ ∃ prog, s.lookup serial = some prog ∧ readable s serial (some prog) = false

theorem State.admitOffice_unreadable {s : State} {serial : Nat} (unreadable : recordUnreadable s serial) :
    s.admitOffice serial = .stop (s.noteFault serial) .wrongState := by
  obtain ⟨opened, prog, known, no⟩ := unreadable
  simp only [State.admitOffice, opened, ne_eq, not_true_eq_false, if_false, known, readRecord_unreadable no]

theorem State.admitOffice_refused {s : State} {serial : Nat} {code : OfficeCode}
    (fails : firstFailing (officeFront s serial) = some code) (readable_ : ¬recordUnreadable s serial) :
    s.admitOffice serial = .stop s code := by
  unfold State.admitOffice
  by_cases opened : s.ledger.mode = .opened
  · rw [if_neg fun no => no opened]
    cases known : s.lookup serial with
    | none =>
      simp only [officeFront, opened, known, firstFailing, decide_true, if_true, Option.isSome_none, Bool.false_eq_true,
        if_false] at fails
      simp only [Option.some.inj fails]
    | some prog =>
      have reads : readable s serial (some prog) = true := by
        rw [← Bool.not_eq_false]
        exact fun no => readable_ ⟨opened, prog, known, no⟩
      simp only [officeFront, opened, known, firstFailing, decide_true, if_true, Option.isSome_some, reads, reduceCtorEq] at fails
  · rw [if_pos opened]
    simp only [officeFront, opened, firstFailing, decide_false, Bool.false_eq_true, if_false] at fails
    simp only [Option.some.inj fails]

theorem State.admitOffice_admitted {s : State} {serial : Nat} (passes : firstFailing (officeFront s serial) = none) :
    ∃ prog, s.admitOffice serial = .pass prog (s.card serial) := by
  by_cases opened : s.ledger.mode = .opened
  · cases known : s.lookup serial with
    | none => simp [officeFront, opened, known, firstFailing] at passes
    | some prog =>
      cases reads : readable s serial (some prog) with
      | false => simp [officeFront, opened, known, reads, firstFailing] at passes
      | true =>
        refine ⟨prog, ?_⟩
        simp only [State.admitOffice, opened, ne_eq, not_true_eq_false, if_false, known, readRecord_readable reads]
  · simp [officeFront, opened, firstFailing] at passes

theorem State.admitOffice_sound {s : State} {serial prog : Nat} {card : CardRecord} (sound : soundCard s serial prog card) :
    s.admitOffice serial = .pass prog card := by
  obtain ⟨opened, known, unlisted, rfl, sound⟩ := sound
  simp only [State.admitOffice, opened, ne_eq, not_true_eq_false, if_false, known, State.readRecord_of unlisted sound]

/-- A request whose serving begins with `admitOffice` is refused by the front, or its own checks decide. -/
theorem firstFailing_front {s : State} {serial : Nat} {rest : List (Bool × OfficeCode)} {code : OfficeCode}
    (fails : firstFailing (officeFront s serial ++ rest) = some code) (readable_ : ¬recordUnreadable s serial) :
    s.admitOffice serial = .stop s code ∨
      (∃ prog, s.admitOffice serial = .pass prog (s.card serial)) ∧ firstFailing rest = some code := by
  rw [firstFailing_append] at fails
  cases front : firstFailing (officeFront s serial) with
  | some d =>
    rw [front, Option.some_or] at fails
    exact .inl (State.admitOffice_refused (front.trans fails) readable_)
  | none =>
    rw [front, Option.none_or] at fails
    exact .inr ⟨State.admitOffice_admitted front, fails⟩

/-! ### One commit (R49) -/

/-- A request served by one commit of a card completes with that commit. -/
theorem officeCommit_of {i : Instr} {kind serial : Nat} {s : State} {b : List Byte} {serve : List Byte → State → State}
    {c : CardRecord} {totals : Totals} {body : EntryBody} {effect : Option Effect}
    (run : exec i s = .next (cardStep kind serve s)) (work : s.cardWork kind = some b)
    (served : serve b { s with ledger.top := 0 } =
      State.commitOffice { s with ledger.top := 0 } serial c totals body effect)
    (room : s.canReserve .general 1 = true) :
    officeCommit i s serial { c with checkOk := true } totals
      (effect.map fun e => Accrual.money e s.ledger.period s.store.nextToWrite).toList body := by
  obtain ⟨s1, granted⟩ := State.reserve_of_canReserve (s := { s with ledger.top := 0 }) room
  rw [cardStep_of_cardWork serve work, served, State.commitOffice, granted] at run
  have store : s1.store = s.store := (State.reserve_leaves granted).1
  have holds : holdsKept s s1 := by
    have frame := (State.reserve_leaves granted).2.2.2
    exact ⟨(congrArg State.holds frame :), (congrArg State.expiryQ frame :), (congrArg State.waiting frame :)⟩
  have committed := committed_post (mid := (s1.writeCard serial c).setTotals totals) granted rfl body effect
  have cards : ((s1.writeCard serial c).setTotals totals).store.cards =
      Table.write CardRecord.blank s.store.cards serial { c with checkOk := true } :=
    congrArg (fun t : Store => Table.write CardRecord.blank t.cards serial { c with checkOk := true }) store
  have window : ((s1.writeCard serial c).setTotals totals).store.window = s.store.window :=
    (congrArg Store.window store :)
  have totalsAre : ((s1.writeCard serial c).setTotals totals).store.totals = totals := rfl
  have held : holdsKept s ((s1.writeCard serial c).setTotals totals) := holds
  dsimp only at run
  generalize (s1.writeCard serial c).setTotals totals = mid at *
  generalize mid.post body effect = m at *
  have written : m.store.cards = Table.write CardRecord.blank s.store.cards serial { c with checkOk := true } :=
    committed.cards.trans cards
  obtain ⟨h1, h2, h3⟩ := held
  refine ⟨m, run, ⟨?_, fun k other => ?_⟩, committed.totals.trans totalsAre, committed.window.trans window,
    ⟨committed.holds.trans h1, committed.expiryQ.trans h2, committed.waiting.trans h3⟩, committed.lanes,
    congrArg Ledger.top committed.ledger, committed.accruals, committed.entry, committed.raises, ?_⟩
  · rw [State.card, written, Table.read_write_same]
  · rw [State.card, written, Table.read_write_ne _ _ _ other, State.card]
  · exact (congrArg (fun x : State => { x with lanes := s.lanes, ledger.top := s.ledger.top }) committed.frame :)

section
variable {s : State} {b : List Byte} {prog : Nat} {card : CardRecord}

theorem serveProvision_sound (sound : soundCard s (fieldAt b 2 3) prog card) (code : fieldAt b 5 2 ≤ 9999)
    (blank : card.state = .blank) :
    serveProvision b s = s.commitOffice (fieldAt b 2 3) (provisionedCard card prog (fieldAt b 5 2)) s.store.totals
      (.provision (fieldAt b 2 3) (nextCardSeq card.seq) prog) none := by
  simp only [serveProvision, officeSerial, provisionCode, State.admitOffice_sound sound, if_neg (Nat.not_lt.mpr code), blank, ne_eq,
    not_true_eq_false, if_false]
  rfl

theorem serveSuspend_sound (sound : soundCard s (fieldAt b 2 3) prog card)
    (running : card.state = .active ∨ (card.state = .suspended ∧ card.suspend ≠ some .office)) :
    serveSuspend b s = s.commitOffice (fieldAt b 2 3) (suspendedCard card) s.store.totals
      (cardStateEntry (fieldAt b 2 3) (suspendedCard card) .suspend) none := by
  have notYet : ¬(card.state = .suspended ∧ card.suspend = some .office) := by
    rintro ⟨suspended, office⟩
    obtain active | ⟨-, other⟩ := running
    · rw [suspended] at active
      exact absurd active (by decide)
    · exact other office
  simp only [serveSuspend, officeSerial, State.admitOffice_sound sound, if_neg notYet, if_pos (running.imp_right And.left)]

theorem serveSuspend_already (sound : soundCard s (fieldAt b 2 3) prog card) (suspended : card.state = .suspended)
    (office : card.suspend = some .office) : serveSuspend b s = s.done [] := by
  simp only [serveSuspend, officeSerial, State.admitOffice_sound sound, if_pos (And.intro suspended office)]

theorem serveResume_sound (sound : soundCard s (fieldAt b 2 3) prog card)
    (stands : card.state = .suspended ∨ (card.state = .stock ∧ card.failures = 3)) :
    serveResume b s = s.commitOffice (fieldAt b 2 3) (resumedCard card) s.store.totals
      (cardStateEntry (fieldAt b 2 3) (resumedCard card) .resume) none := by
  simp only [serveResume, officeSerial, State.admitOffice_sound sound, if_pos stands]

theorem State.accrualFree_eq_true_iff (s : State) : s.accrualFree = true ↔ s.settle.accruals.length < 16 :=
  decide_eq_true_iff

theorem serveCloseCard_sound (sound : soundCard s (fieldAt b 2 3) prog card) (place : s.settle.accruals.length < 16)
    (notBlank : card.state ≠ .blank) (notClosed : card.state ≠ .closed) (unheld : card.holdCount = 0) :
    serveCloseCard b s = s.commitOffice (fieldAt b 2 3) (closedCard card)
      (if card.balance = 0 then s.store.totals else s.store.totals.close card.balance)
      (.closeCard (fieldAt b 2 3) (nextCardSeq card.seq) card.balance)
      (if card.balance = 0 then none else some (.unclaimed card.balance)) := by
  have free := (State.accrualFree_eq_true_iff s).mpr place
  have open_ : ¬(card.state = .blank ∨ card.state = .closed) := not_or.mpr ⟨notBlank, notClosed⟩
  simp only [serveCloseCard, officeSerial, free, Bool.not_true, Bool.false_eq_true, if_false, State.admitOffice_sound sound,
    if_neg open_, unheld, Nat.lt_irrefl]
  rfl

theorem serveAdjust_sound {d : AdjustDirection} (sound : soundCard s (fieldAt b 2 3) prog card)
    (direction : AdjustDirection.ofCode (fieldAt b 5 1) = some d) (pos : 0 < fieldAt b 6 4) (le : fieldAt b 6 4 ≤ 10000000)
    (running : card.state = .active ∨ card.state = .suspended)
    (fits : d = .credit → card.balance + fieldAt b 6 4 ≤ 2147483647) (covered : d = .debit → fieldAt b 6 4 ≤ card.balance - card.held) :
    serveAdjust b s = s.commitOffice (fieldAt b 2 3) (adjustedCard card d (fieldAt b 6 4))
      (s.store.totals.adjust (adjustChange d (fieldAt b 6 4)))
      (.adjust (fieldAt b 2 3) (nextCardSeq card.seq) d (fieldAt b 6 4)) none := by
  have inRange : ¬(fieldAt b 6 4 = 0 ∨ Config.amountMax < fieldAt b 6 4) := by
    simp only [Config.amountMax]
    omega
  have stands : ¬(card.state ≠ .active ∧ card.state ≠ .suspended) := fun no => running.elim no.1 no.2
  have credits : ¬(d = .credit ∧ Config.balanceMax < card.balance + fieldAt b 6 4) := fun no =>
    absurd no.2 (Nat.not_lt.mpr (fits no.1))
  have debits : ¬(d = .debit ∧ card.available < fieldAt b 6 4) := fun no => absurd no.2 (Nat.not_lt.mpr (covered no.1))
  simp only [serveAdjust, officeSerial, adjustAmount, adjustDirectionByte, State.admitOffice_sound sound, direction, if_neg inRange,
    if_neg stands, if_neg credits, if_neg debits]
  rfl

theorem Totals.adjust_credit {t : Totals} {amount : Nat} (pos : 0 < amount) :
    t.adjust (adjustChange .credit amount) =
      { t with adjustedCredit := totalAfter t.adjustedCredit amount, float := totalAfter t.float amount } := by
  have up : (0 : Int) < amount := by omega
  simp only [Totals.adjust, adjustChange, if_true, if_pos up, Totals.moveFloat]

theorem Totals.adjust_debit {t : Totals} {amount : Nat} (pos : 0 < amount) :
    t.adjust (adjustChange .debit amount) =
      { t with adjustedDebit := totalAfter t.adjustedDebit amount, float := totalAfter t.float (-(amount : Int)) } := by
  have notUp : ¬(0 : Int) < -(amount : Int) := by omega
  have down : -(amount : Int) < 0 := by omega
  simp only [Totals.adjust, adjustChange, reduceCtorEq, if_false, if_neg notUp, if_pos down, Totals.moveFloat, neg_neg]

end

/-! ### The refusals (R43, R48, R49, R61) -/

section
variable {s : State} {b : List Byte} {code : OfficeCode}

/-- A record that cannot be read makes every request for a sound record fault. -/
theorem not_unreadable_of {kind : Nat} (listed : kind ∈ [0x49, 0x4A, 0x4B, 0x4C, 0x4D])
    (place : kind = 0x4B → s.settle.accruals.length < 16) (noFault : ¬recordFaults s kind b) :
    ¬recordUnreadable s (fieldAt b 2 3) :=
  fun unreadable => noFault ⟨listed, place, unreadable⟩

theorem serveReadTotals_refused (fails : firstFailing (officeChecks s 0x40 b) = some code) :
    serveReadTotals b s = s.refuse code := by
  cases reads : s.cardReadable with
  | true =>
    simp only [State.cardReadable] at reads
    simp only [officeChecks, reads, firstFailing, if_true, reduceCtorEq] at fails
  | false =>
    have same := reads
    simp only [State.cardReadable] at same
    simp only [officeChecks, same, firstFailing, Bool.false_eq_true, if_false] at fails
    simp only [serveReadTotals, reads, Bool.not_false, if_true, Option.some.inj fails]

theorem serveReadCard_refused (fails : firstFailing (officeChecks s 0x48 b) = some code) :
    serveReadCard b s = s.refuse code := by
  cases reads : s.cardReadable with
  | true =>
    have same := reads
    simp only [State.cardReadable] at same
    cases known : s.lookup (fieldAt b 2 3) with
    | some prog => simp only [officeChecks, same, known, Option.isSome_some, firstFailing, if_true, reduceCtorEq] at fails
    | none =>
      simp only [officeChecks, same, known, Option.isSome_none, firstFailing, if_true, Bool.false_eq_true, if_false] at fails
      simp only [serveReadCard, reads, Bool.not_true, Bool.false_eq_true, if_false, officeSerial, known, Option.some.inj fails]
  | false =>
    have same := reads
    simp only [State.cardReadable] at same
    simp only [officeChecks, same, firstFailing, Bool.false_eq_true, if_false] at fails
    simp only [serveReadCard, reads, Bool.not_false, if_true, Option.some.inj fails]

theorem serveRewriteCard_refused (fails : firstFailing (officeChecks s 0x4E b) = some code) :
    serveRewriteCard b s = s.refuse code := by
  by_cases opened : s.ledger.mode = .opened
  · cases known : s.lookup (fieldAt b 2 3) with
    | some prog => simp [officeChecks, opened, known, firstFailing] at fails
    | none =>
      simp only [officeChecks, opened, known, Option.isSome_none, firstFailing, decide_true, if_true, Bool.false_eq_true,
        if_false] at fails
      simp only [serveRewriteCard, opened, ne_eq, not_true_eq_false, if_false, officeSerial, known, Option.some.inj fails]
  · simp only [officeChecks, opened, firstFailing, decide_false, Bool.false_eq_true, if_false] at fails
    simp only [serveRewriteCard, ne_eq, opened, not_false_eq_true, if_true, Option.some.inj fails]

theorem commitOffice_refused {serial : Nat} {c : CardRecord} {totals : Totals} {body : EntryBody} {effect : Option Effect}
    (fails : firstFailing [(s.canReserve .general 1, OfficeCode.journalFull)] = some code) :
    s.commitOffice serial c totals body effect = s.refuse code := by
  cases room : s.canReserve .general 1 with
  | true => simp only [room, firstFailing, if_true, reduceCtorEq] at fails
  | false =>
    simp only [room, firstFailing, Bool.false_eq_true, if_false] at fails
    simp only [State.commitOffice, reserve_none_of room, Option.some.inj fails]

theorem serveProvision_refused (fails : firstFailing (officeChecks s 0x4C b) = some code) (noFault : ¬recordFaults s 0x4C b) :
    serveProvision b s = s.refuse code := by
  obtain stop | ⟨⟨prog, pass⟩, fails⟩ := firstFailing_front fails (not_unreadable_of (by decide) (fun no => absurd no (by decide)) noFault)
  · simp only [serveProvision, officeSerial, stop]
  · simp only [serveProvision, officeSerial, provisionCode, pass]
    by_cases small : fieldAt b 5 2 ≤ 9999
    · rw [if_neg (Nat.not_lt.mpr small)]
      by_cases blank : (s.card (fieldAt b 2 3)).state = .blank
      · rw [if_neg fun no => no blank]
        simp only [firstFailing, small, blank, decide_true, if_true] at fails
        exact commitOffice_refused fails
      · rw [if_pos blank]
        simp only [firstFailing, small, blank, decide_true, decide_false, if_true, Bool.false_eq_true, if_false] at fails
        simp only [Option.some.inj fails]
    · rw [if_pos (Nat.not_le.mp small)]
      simp only [firstFailing, small, decide_false, Bool.false_eq_true, if_false] at fails
      simp only [Option.some.inj fails]

theorem serveSuspend_refused (fails : firstFailing (officeChecks s 0x49 b) = some code) (noFault : ¬recordFaults s 0x49 b) :
    serveSuspend b s = s.refuse code := by
  obtain stop | ⟨⟨prog, pass⟩, fails⟩ := firstFailing_front fails (not_unreadable_of (by decide) (fun no => absurd no (by decide)) noFault)
  · simp only [serveSuspend, officeSerial, stop]
  · simp only [serveSuspend, officeSerial, pass]
    generalize s.card (fieldAt b 2 3) = card at fails ⊢
    by_cases running : card.state = .active ∨ card.state = .suspended
    · by_cases already : card.state = .suspended ∧ card.suspend = some .office
      · simp only [firstFailing, already, or_true, decide_true, if_true, and_self, Bool.true_or, reduceCtorEq] at fails
      · rw [if_neg already, if_pos running]
        simp only [firstFailing, running, decide_true, if_true, already, decide_false, Bool.false_or] at fails
        exact commitOffice_refused fails
    · have notYet : ¬(card.state = .suspended ∧ card.suspend = some .office) := fun both => running (.inr both.1)
      rw [if_neg notYet, if_neg running]
      simp only [firstFailing, running, decide_false, Bool.false_eq_true, if_false] at fails
      simp only [Option.some.inj fails]

theorem serveResume_refused (fails : firstFailing (officeChecks s 0x4A b) = some code) (noFault : ¬recordFaults s 0x4A b) :
    serveResume b s = s.refuse code := by
  obtain stop | ⟨⟨prog, pass⟩, fails⟩ := firstFailing_front fails (not_unreadable_of (by decide) (fun no => absurd no (by decide)) noFault)
  · simp only [serveResume, officeSerial, stop]
  · simp only [serveResume, officeSerial, pass]
    generalize s.card (fieldAt b 2 3) = card at fails ⊢
    by_cases stands : card.state = .suspended ∨ (card.state = .stock ∧ card.failures = 3)
    · rw [if_pos stands]
      simp only [firstFailing, stands, decide_true, if_true] at fails
      exact commitOffice_refused fails
    · rw [if_neg stands]
      simp only [firstFailing, stands, decide_false, Bool.false_eq_true, if_false] at fails
      simp only [Option.some.inj fails]

theorem serveCloseCard_refused (fails : firstFailing (officeChecks s 0x4B b) = some code) (noFault : ¬recordFaults s 0x4B b) :
    serveCloseCard b s = s.refuse code := by
  by_cases place : s.settle.accruals.length < 16
  · have free := (State.accrualFree_eq_true_iff s).mpr place
    replace fails : firstFailing (officeFront s (fieldAt b 2 3) ++
        [(decide ((s.card (fieldAt b 2 3)).state ≠ .blank ∧ (s.card (fieldAt b 2 3)).state ≠ .closed), .wrongState),
          (decide ((s.card (fieldAt b 2 3)).holdCount = 0), .holdsOpen), (s.canReserve .general 1, .journalFull)]) = some code := by
      rw [← fails, officeChecks, firstFailing, if_pos (decide_eq_true place)]
      rfl
    obtain stop | ⟨⟨prog, pass⟩, fails⟩ := firstFailing_front fails (not_unreadable_of (by decide) (fun _ => place) noFault)
    · simp only [serveCloseCard, officeSerial, free, Bool.not_true, Bool.false_eq_true, if_false, stop]
    · simp only [serveCloseCard, officeSerial, free, Bool.not_true, Bool.false_eq_true, if_false, pass]
      generalize s.card (fieldAt b 2 3) = card at fails ⊢
      by_cases closed : card.state = .blank ∨ card.state = .closed
      · have stands : ¬(card.state ≠ .blank ∧ card.state ≠ .closed) := fun both => closed.elim both.1 both.2
        rw [if_pos closed]
        simp only [firstFailing, stands, decide_false, Bool.false_eq_true, if_false] at fails
        simp only [Option.some.inj fails]
      · have stands : card.state ≠ .blank ∧ card.state ≠ .closed := not_or.mp closed
        rw [if_neg closed]
        by_cases unheld : card.holdCount = 0
        · rw [if_neg (by omega)]
          simp only [firstFailing, stands, unheld, ne_eq, not_false_eq_true, and_self, decide_true, if_true] at fails
          exact commitOffice_refused fails
        · rw [if_pos (Nat.pos_of_ne_zero unheld)]
          simp only [firstFailing, stands, unheld, ne_eq, not_false_eq_true, and_self, decide_true, decide_false, if_true,
            Bool.false_eq_true, if_false] at fails
          simp only [Option.some.inj fails]
  · have full : s.accrualFree = false := by
      rw [← Bool.not_eq_true, State.accrualFree_eq_true_iff]
      exact place
    simp only [officeChecks, firstFailing, place, decide_false, Bool.false_eq_true, if_false] at fails
    simp only [serveCloseCard, full, Bool.not_false, if_true, Option.some.inj fails]

theorem AdjustDirection.ofCode_of_lt : ∀ {n : Nat}, 1 < n → AdjustDirection.ofCode n = none
  | 0, above | 1, above => absurd above (by decide)
  | _ + 2, _ => rfl

theorem AdjustDirection.ofCode_of_le {n : Nat} (h : n ≤ 1) :
    ∃ d, AdjustDirection.ofCode n = some d ∧ (d = .credit ↔ n = 0) ∧ (d = .debit ↔ n = 1) := by
  obtain rfl | rfl : n = 0 ∨ n = 1 := by omega
  · exact ⟨.credit, rfl, by decide, by decide⟩
  · exact ⟨.debit, rfl, by decide, by decide⟩

theorem serveAdjust_refused (fails : firstFailing (officeChecks s 0x4D b) = some code) (noFault : ¬recordFaults s 0x4D b) :
    serveAdjust b s = s.refuse code := by
  obtain stop | ⟨⟨prog, pass⟩, fails⟩ := firstFailing_front fails (not_unreadable_of (by decide) (fun no => absurd no (by decide)) noFault)
  · simp only [serveAdjust, officeSerial, stop]
  · simp only [serveAdjust, officeSerial, adjustAmount, adjustDirectionByte, pass]
    generalize s.card (fieldAt b 2 3) = card at fails ⊢
    by_cases known : fieldAt b 5 1 ≤ 1
    · obtain ⟨d, direction, isCredit, isDebit⟩ := AdjustDirection.ofCode_of_le known
      simp only [direction, isCredit, isDebit, Config.balanceMax, Config.amountMax, CardRecord.available]
      by_cases inRange : 0 < fieldAt b 6 4 ∧ fieldAt b 6 4 ≤ 10000000
      · rw [if_neg (by omega)]
        by_cases running : card.state = .active ∨ card.state = .suspended
        · rw [if_neg fun no => running.elim no.1 no.2]
          by_cases fits : fieldAt b 5 1 = 1 ∨ card.balance + fieldAt b 6 4 ≤ 2147483647
          · rw [if_neg (by omega)]
            by_cases covered : fieldAt b 5 1 = 0 ∨ fieldAt b 6 4 ≤ card.balance - card.held
            · rw [if_neg (by omega)]
              simp only [firstFailing, amountInRange, known, inRange, running, fits, covered, and_self, decide_true, if_true] at fails
              exact commitOffice_refused fails
            · rw [if_pos (by omega)]
              simp only [firstFailing, amountInRange, known, inRange, running, fits, covered, and_self, decide_true, decide_false,
                if_true, Bool.false_eq_true, if_false] at fails
              simp only [Option.some.inj fails]
          · rw [if_pos (by omega)]
            simp only [firstFailing, amountInRange, known, inRange, running, fits, and_self, decide_true, decide_false, if_true,
              Bool.false_eq_true, if_false] at fails
            simp only [Option.some.inj fails]
        · rw [if_pos (not_or.mp running)]
          simp only [firstFailing, amountInRange, known, inRange, running, and_self, decide_true, decide_false, if_true,
            Bool.false_eq_true, if_false] at fails
          simp only [Option.some.inj fails]
      · rw [if_pos (by omega)]
        simp only [firstFailing, amountInRange, known, inRange, decide_true, decide_false, if_true, Bool.false_eq_true,
          if_false] at fails
        simp only [Option.some.inj fails]
    · rw [AdjustDirection.ofCode_of_lt (Nat.not_le.mp known)]
      simp only [firstFailing, known, decide_false, Bool.false_eq_true, if_false] at fails
      simp only [Option.some.inj fails]

end

/-- What the command of an office card request runs, and how its checks end it. -/
structure OfficeCardRow (i : Instr) (kind : Nat) (serve : List Byte → State → State) : Prop where
  run : ∀ s, exec i s = .next (cardStep kind serve s)
  refused : ∀ s b code, ¬recordFaults s kind b → firstFailing (officeChecks s kind b) = some code →
    serve b s = s.refuse code
  faulted : ∀ s b, recordFaults s kind b → serve b s = (s.noteFault (fieldAt b 2 3)).refuse .wrongState

theorem not_recordFaults {kind : Nat} (other : kind ∉ [0x49, 0x4A, 0x4B, 0x4C, 0x4D]) (s : State) (b : List Byte) :
    ¬recordFaults s kind b := fun faults => other faults.1

theorem officeCardRow_of {i : Instr} {kind : Nat} (row : (i, kind) ∈ officeCardCommands) : ∃ serve, OfficeCardRow i kind serve := by
  simp only [officeCardCommands, List.mem_cons, Prod.mk.injEq, List.not_mem_nil, or_false] at row
  obtain ⟨rfl, rfl⟩ | ⟨rfl, rfl⟩ | ⟨rfl, rfl⟩ | ⟨rfl, rfl⟩ | ⟨rfl, rfl⟩ | ⟨rfl, rfl⟩ | ⟨rfl, rfl⟩ | ⟨rfl, rfl⟩ := row
  · exact ⟨serveReadTotals, fun _ => rfl, fun _ _ _ _ => serveReadTotals_refused,
      fun s b faults => absurd faults (not_recordFaults (by decide) s b)⟩
  · exact ⟨serveReadCard, fun _ => rfl, fun _ _ _ _ => serveReadCard_refused,
      fun s b faults => absurd faults (not_recordFaults (by decide) s b)⟩
  · refine ⟨serveSuspend, fun _ => rfl, fun _ _ _ noFault fails => serveSuspend_refused fails noFault, fun s b faults => ?_⟩
    simp only [serveSuspend, officeSerial, State.admitOffice_unreadable faults.2.2]
  · refine ⟨serveResume, fun _ => rfl, fun _ _ _ noFault fails => serveResume_refused fails noFault, fun s b faults => ?_⟩
    simp only [serveResume, officeSerial, State.admitOffice_unreadable faults.2.2]
  · refine ⟨serveCloseCard, fun _ => rfl, fun _ _ _ noFault fails => serveCloseCard_refused fails noFault, fun s b faults => ?_⟩
    simp only [serveCloseCard, officeSerial, (State.accrualFree_eq_true_iff s).mpr (faults.2.1 rfl), Bool.not_true,
      Bool.false_eq_true, if_false, State.admitOffice_unreadable faults.2.2]
  · refine ⟨serveProvision, fun _ => rfl, fun _ _ _ noFault fails => serveProvision_refused fails noFault, fun s b faults => ?_⟩
    simp only [serveProvision, officeSerial, State.admitOffice_unreadable faults.2.2]
  · refine ⟨serveAdjust, fun _ => rfl, fun _ _ _ noFault fails => serveAdjust_refused fails noFault, fun s b faults => ?_⟩
    simp only [serveAdjust, officeSerial, State.admitOffice_unreadable faults.2.2]
  · exact ⟨serveRewriteCard, fun _ => rfl, fun _ _ _ _ => serveRewriteCard_refused,
      fun s b faults => absurd faults (not_recordFaults (by decide) s b)⟩

end Sys2Proof.Machine
end

section
/-! PROOFS. The office's card requests (R61 to R67) and REWRITE_CARD (R68). -/

namespace Sys2Proof.Machine

/-! ### READ_CARD (R62) -/

theorem not_faulty_eq (r : CardRecord) (prog : Nat) :
    (!faulty r (some prog)) = (r.checkOk && decide (r.state = .blank ∨ r.program = some prog)) := by
  unfold faulty
  by_cases blank : r.state = .blank
  · simp [blank]
  · by_cases same : r.program = some prog
    · simp [same]
    · simp [blank, same]

theorem serveReadCard_readable {s : State} {b : List Byte} {prog : Nat} (reads : s.cardReadable = true)
    (known : s.lookup (fieldAt b 2 3) = some prog) :
    (faulty (s.card (fieldAt b 2 3)) (some prog) = false → serveReadCard b s =
      s.done (cardView (fieldAt b 2 3) (s.card (fieldAt b 2 3)) true (decide (fieldAt b 2 3 ∈ s.ledger.faults)))) ∧
    (faulty (s.card (fieldAt b 2 3)) (some prog) = true → serveReadCard b s =
      (s.noteFault (fieldAt b 2 3)).done
        (cardView (fieldAt b 2 3) (s.card (fieldAt b 2 3)) false
          (decide (fieldAt b 2 3 ∈ (s.noteFault (fieldAt b 2 3)).ledger.faults)))) := by
  refine ⟨fun sound => ?_, fun fault => ?_⟩
  · simp only [serveReadCard, reads, Bool.not_true, Bool.false_eq_true, if_false, officeSerial, known, sound, Bool.not_false]
  · simp only [serveReadCard, reads, Bool.not_true, Bool.false_eq_true, if_false, officeSerial, known, fault, if_true]

/-- After a noted fault the serial is on the list exactly when the list had a place. -/
theorem mem_faults_noteFault {s : State} {serial : Nat} (fresh : serial ∉ s.ledger.faults) :
    decide (serial ∈ (s.noteFault serial).ledger.faults) = decide (s.ledger.faults.length < 16) := by
  obtain ⟨joins, overflows⟩ := noteFault_ledger fresh
  by_cases room : s.ledger.faults.length < 16
  · simp [joins room, room]
  · simp [overflows (Nat.not_lt.mp room), room, fresh]

theorem exec_readCard {s : State} {b : List Byte} (work : s.cardWork 0x48 = some b) :
    exec .readCard s = .next (serveReadCard b { s with ledger.top := 0 }) :=
  congrArg Host.Outcome.next (cardStep_of_cardWork serveReadCard work)

theorem State.cardReadable_eq_true_iff (s : State) :
    s.cardReadable = true ↔ s.ledger.mode = .opened ∨ (s.ledger.mode = .config ∧ s.store.signature = true) := by
  simp only [State.cardReadable, Bool.or_eq_true, Bool.and_eq_true, decide_eq_true_eq]

/-! ### A noted fault and a refusal -/

/-- A fault noted by a request that has been taken: the fault list, RECORD_FAULT and the rotation change. -/
theorem faultNoted_taken (s : State) (serial : Nat) :
    let m := State.noteFault { s with ledger.top := 0 } serial
    faultNoted s m serial ∧ onlyRaises s m (if serial ∈ s.ledger.faults then [] else [0]) ∧
      { m with ledger := { m.ledger with top := s.ledger.top, faults := s.ledger.faults, faultOverflow := s.ledger.faultOverflow },
               attn.pending := s.attn.pending } = s ∧ m.ledger.top = 0 := by
  have rest := noteFault_rest { s with ledger.top := 0 } serial
  exact ⟨faultNoted_noteFault { s with ledger.top := 0 } serial, onlyRaises_noteFault { s with ledger.top := 0 } serial,
    (congrArg (fun x : State => { x with ledger.top := s.ledger.top }) rest :), noteFault_top { s with ledger.top := 0 } serial⟩

/-- Settles O52: each commit by `officeCommit_of`, the reads by evaluation, the refusals by `OfficeCardRow`. -/
theorem theOfficeServesCards : Obligations.TheOfficeServesCards := by
  refine ⟨?provision, ?suspend, ?resume, ?close, ?adjust, ?totals, ?readCard, ?refused, ?faulted⟩
  case provision =>
    intro s b prog card work sound code blank room
    have served := serveProvision_sound (s := { s with ledger.top := 0 }) sound code blank
    exact officeCommit_of rfl work served room
  case suspend =>
    intro s b prog card work sound
    refine ⟨fun suspended office => ?_, fun running room => ?_⟩
    · have served := serveSuspend_already (s := { s with ledger.top := 0 }) sound suspended office
      exact congrArg Host.Outcome.next ((cardStep_of_cardWork serveSuspend work).trans served)
    · have served := serveSuspend_sound (s := { s with ledger.top := 0 }) sound running
      exact officeCommit_of rfl work served room
  case resume =>
    intro s b prog card work sound room
    refine ⟨fun suspended => ?_, fun stock failures => ?_⟩
    · have served := serveResume_sound (s := { s with ledger.top := 0 }) sound (.inl suspended)
      have resumed : resumedCard card = { card with state := .active, suspend := none, failures := 0, seq := nextCardSeq card.seq } := by
        simp only [resumedCard, suspended, if_true]
      rw [resumed] at served
      exact officeCommit_of rfl work served room
    · have served := serveResume_sound (s := { s with ledger.top := 0 }) sound (.inr ⟨stock, failures⟩)
      have resumed : resumedCard card = { card with failures := 0, seq := nextCardSeq card.seq } := by
        simp only [resumedCard, stock, reduceCtorEq, if_false]
      have entry : cardStateEntry (fieldAt b 2 3) { card with failures := 0, seq := nextCardSeq card.seq } .resume =
          .cardState (fieldAt b 2 3) (nextCardSeq card.seq) .resume .stock card.suspend 0 none := by
        rw [← stock]
        rfl
      rw [resumed, entry] at served
      exact officeCommit_of rfl work served room
  case close =>
    intro s b prog card work sound place notBlank notClosed unheld room
    have served := serveCloseCard_sound (s := { s with ledger.top := 0 }) sound place notBlank notClosed unheld
    by_cases empty : card.balance = 0
    · simp only [if_pos empty] at served ⊢
      exact officeCommit_of rfl work served room
    · simp only [if_neg empty] at served ⊢
      exact officeCommit_of rfl work served room
  case adjust =>
    rintro s b prog amount card work sound rfl pos le running room
    refine ⟨fun isCredit fits => ?_, fun isDebit covered => ?_⟩
    · have direction : AdjustDirection.ofCode (fieldAt b 5 1) = some .credit := by rw [isCredit]; rfl
      have served := serveAdjust_sound (s := { s with ledger.top := 0 }) sound direction pos le running (fun _ => fits)
        (fun no => absurd no (by decide))
      rw [Totals.adjust_credit pos] at served
      exact officeCommit_of rfl work served room
    · have direction : AdjustDirection.ofCode (fieldAt b 5 1) = some .debit := by rw [isDebit]; rfl
      have served := serveAdjust_sound (s := { s with ledger.top := 0 }) sound direction pos le running
        (fun no => absurd no (by decide)) (fun _ => covered)
      rw [Totals.adjust_debit pos] at served
      exact officeCommit_of rfl work served room
  case totals =>
    intro s b work readable_
    have reads : State.cardReadable { s with ledger.top := 0 } = true :=
      (State.cardReadable_eq_true_iff { s with ledger.top := 0 }).mpr readable_
    have served : serveReadTotals b { s with ledger.top := 0 } =
        State.done { s with ledger.top := 0 } (totalsBytes s.store.totals ++ bytesOf 2 s.ledger.period) := by
      simp only [serveReadTotals, reads, Bool.not_true, Bool.false_eq_true, if_false]
    exact congrArg Host.Outcome.next ((cardStep_of_cardWork serveReadTotals work).trans served)
  case readCard =>
    intro s b prog work readable_ known
    have reads : State.cardReadable { s with ledger.top := 0 } = true :=
      (State.cardReadable_eq_true_iff { s with ledger.top := 0 }).mpr readable_
    obtain ⟨sound, fault⟩ := serveReadCard_readable (s := { s with ledger.top := 0 }) (b := b) reads known
    rw [exec_readCard work, ← not_faulty_eq]
    refine ⟨fun unnoted => ?_, fun faulty_ fresh => ?_⟩
    · cases faulty_ : faulty (s.card (fieldAt b 2 3)) (some prog) with
      | false => exact congrArg Host.Outcome.next (sound faulty_)
      | true =>
        have listed : fieldAt b 2 3 ∈ s.ledger.faults := unnoted.resolve_left (by rw [faulty_]; decide)
        rw [fault faulty_, noteFault_of_listed (s := { s with ledger.top := 0 }) listed]
        rfl
    · have shown := mem_faults_noteFault (s := { s with ledger.top := 0 }) fresh
      obtain ⟨joins, overflows⟩ := noteFault_ledger (s := { s with ledger.top := 0 }) fresh
      obtain ⟨⟨-, -, pending⟩, raises, -, -⟩ := faultNoted_taken s (fieldAt b 2 3)
      have rest := noteFault_rest { s with ledger.top := 0 } (fieldAt b 2 3)
      rw [fault faulty_, shown]
      rw [if_neg fresh] at raises
      generalize State.noteFault _ _ = m at *
      exact ⟨m, rfl, joins, overflows, pending fresh, raises, (congrArg (fun x : State => { x with ledger := s.ledger }) rest :)⟩
  case refused =>
    intro s i kind b code row work noFault fails
    obtain ⟨serve, row⟩ := officeCardRow_of row
    rw [row.run, cardStep_of_cardWork serve work, row.refused { s with ledger.top := 0 } b code noFault fails]
  case faulted =>
    intro s i kind b row work faults
    obtain ⟨serve, row⟩ := officeCardRow_of row
    rw [row.run, cardStep_of_cardWork serve work, row.faulted { s with ledger.top := 0 } b faults]
    obtain ⟨noted, raises, rest, top⟩ := faultNoted_taken s (fieldAt b 2 3)
    generalize State.noteFault _ _ = m at *
    exact ⟨m, rfl, noted, raises, rest, top⟩

end Sys2Proof.Machine
end

section
/-! PROOFS. REWRITE_CARD (R42, R68). -/

namespace Sys2Proof.Machine

/-! ### The supplied record -/

theorem rewriteOfBody_fields {b : List Byte} {r : CardRecord} (decoded : rewriteOfBody b = some r) :
    r.held = 0 ∧ r.holdCount = 0 ∧ r.checkOk = true := by
  unfold rewriteOfBody at decoded
  split at decoded
  · obtain rfl := Option.some.inj decoded
    exact ⟨rfl, rfl, rfl⟩
  · exact absurd decoded (Option.some_ne_none r).symm

theorem codeInRange_iff (code : Option Nat) : code.getD 0xFFFF ≤ 9999 ↔ ∃ c ∈ code, c ≤ 9999 := by
  cases code with
  | none => simp
  | some c => simp

theorem rewriteBad_eq_false_iff (r : CardRecord) (prog : Nat) : rewriteBad r prog = false ↔ suppliedSound r prog := by
  unfold suppliedSound
  by_cases blank : r.state = .blank
  · simp only [rewriteBad, blank, if_true, Bool.or_eq_false_iff, decide_eq_false_iff_not, Option.isSome_eq_false_iff,
      Option.isNone_iff_eq_none, not_lt, ne_eq, not_true_eq_false, false_implies, true_and, forall_const, true_or,
      reduceCtorEq, iff_false, Bool.not_eq_true, not_not]
    constructor
    · rintro ⟨⟨⟨⟨⟨⟨⟨h1, h2⟩, h3⟩, h4⟩, h5⟩, h6⟩, h7⟩, h8⟩
      exact ⟨⟨h1, h2, h3, h4, h5⟩, h6, by omega, h7, h8⟩
    · rintro ⟨⟨h1, h2, h3, h4, h5⟩, h6, -, h7, h8⟩
      exact ⟨⟨⟨⟨⟨⟨⟨h1, h2⟩, h3⟩, h4⟩, h5⟩, h6⟩, h7⟩, h8⟩
  · have suspended : (decide (r.state = .suspended) != r.suspend.isSome) = false ↔ (r.suspend.isSome = true ↔ r.state = .suspended) := by
      by_cases st : r.state = .suspended <;> cases r.suspend.isSome <;> simp [st]
    simp only [rewriteBad, if_false, Bool.or_eq_false_iff, suspended, Bool.and_eq_false_imp, decide_eq_true_eq,
      decide_eq_false_iff_not, codeInRange_iff, ne_eq, not_not, not_lt, blank, not_false_eq_true, forall_const, false_implies,
      true_and, false_or, Config.balanceMax]
    constructor
    · rintro ⟨⟨⟨⟨⟨h1, h2⟩, h3⟩, h4⟩, h5⟩, h6⟩
      exact ⟨⟨h1, h4⟩, h2, h3, h5, h6⟩
    · rintro ⟨⟨h1, h4⟩, h2, h3, h5, h6⟩
      exact ⟨⟨⟨⟨⟨h1, h2⟩, h3⟩, h4⟩, h5⟩, h6⟩

/-! ### The request (R68) -/

theorem exec_rewriteCard {s : State} {b : List Byte} (work : s.cardWork 0x4E = some b) :
    exec .rewriteCard s = .next (serveRewriteCard b { s with ledger.top := 0 }) :=
  congrArg Host.Outcome.next (cardStep_of_cardWork serveRewriteCard work)

theorem readable_eq_false {s : State} {serial prog : Nat}
    (fault : serial ∈ s.ledger.faults ∨ faulty (s.card serial) (some prog) = true) : readable s serial (some prog) = false := by
  obtain listed | fault := fault
  · simp [readable, listed]
  · simp [readable, fault]

/-- The record written, the difference booked and the serial taken off the fault list, under the reservation. -/
def State.rewritten (s : State) (serial : Nat) (c : CardRecord) (totals : Totals) (diff : Int) : State :=
  let t := ((s.writeCard serial c).setTotals totals).post
    (.cardState serial c.seq .rewrite c.state c.suspend c.failures (some (c, diff))) none
  { t with ledger.faults := t.ledger.faults.filter (fun x => decide (x ≠ serial)) }

section
variable {s : State} {b : List Byte} {prog : Nat} (opened : s.ledger.mode = .opened) (known : s.lookup (fieldAt b 2 3) = some prog)
include opened known

theorem serveRewriteCard_readable (reads : readable s (fieldAt b 2 3) (some prog) = true) :
    serveRewriteCard b s = s.refuse .wrongState := by
  simp only [serveRewriteCard, opened, ne_eq, not_true_eq_false, if_false, officeSerial, known, readRecord_readable reads]

variable (fault : readable s (fieldAt b 2 3) (some prog) = false)
include fault

theorem serveRewriteCard_held (held : s.hasOpenHold (fieldAt b 2 3) = true) :
    serveRewriteCard b s = (s.noteFault (fieldAt b 2 3)).refuse .holdsOpen := by
  have still : (s.noteFault (fieldAt b 2 3)).hasOpenHold (fieldAt b 2 3) = true := by
    rw [State.hasOpenHold, State.noteFault_holds]
    exact held
  simp only [serveRewriteCard, opened, ne_eq, not_true_eq_false, if_false, officeSerial, known, readRecord_unreadable fault,
    still, if_true]

variable (unheld : s.hasOpenHold (fieldAt b 2 3) = false)
include unheld

theorem serveRewriteCard_bad (bad : ∀ r, rewriteOfBody b = some r → ¬suppliedSound r prog) :
    serveRewriteCard b s = (s.noteFault (fieldAt b 2 3)).refuse .badValue := by
  have still : (s.noteFault (fieldAt b 2 3)).hasOpenHold (fieldAt b 2 3) = false := by
    rw [State.hasOpenHold, State.noteFault_holds]
    exact unheld
  simp only [serveRewriteCard, opened, ne_eq, not_true_eq_false, if_false, officeSerial, known, readRecord_unreadable fault,
    still, Bool.false_eq_true]
  cases decoded : rewriteOfBody b with
  | none => rfl
  | some r =>
    have refused : rewriteBad r prog = true := by
      rw [← Bool.not_eq_false, rewriteBad_eq_false_iff]
      exact bad r decoded
    simp only [refused, if_true]

theorem serveRewriteCard_closed {r : CardRecord} (decoded : rewriteOfBody b = some r) (sound : suppliedSound r prog)
    (leaves : leavesClosed (s.card (fieldAt b 2 3)) r) :
    serveRewriteCard b s = (s.noteFault (fieldAt b 2 3)).refuse .wrongState := by
  have still : (s.noteFault (fieldAt b 2 3)).hasOpenHold (fieldAt b 2 3) = false := by
    rw [State.hasOpenHold, State.noteFault_holds]
    exact unheld
  have leaves' : (s.card (fieldAt b 2 3)).state = .closed ∧ ¬r.state = .closed := leaves
  simp only [serveRewriteCard, opened, ne_eq, not_true_eq_false, if_false, officeSerial, known, readRecord_unreadable fault,
    still, Bool.false_eq_true, decoded, (rewriteBad_eq_false_iff r prog).mpr sound, if_pos leaves']

theorem serveRewriteCard_sound {r : CardRecord} (decoded : rewriteOfBody b = some r) (sound : suppliedSound r prog)
    (stays : ¬leavesClosed (s.card (fieldAt b 2 3)) r) :
    (s.canReserve .general 1 = false → serveRewriteCard b s = (s.noteFault (fieldAt b 2 3)).refuse .journalFull) ∧
    (∀ s1, s.reserve .general 1 = some s1 → serveRewriteCard b s =
      ((s1.noteFault (fieldAt b 2 3)).rewritten (fieldAt b 2 3) { r with seq := nextCardSeq r.seq }
        (s.store.totals.adjust ((r.balance : Int) - ((s.card (fieldAt b 2 3)).balance : Int)))
        ((r.balance : Int) - ((s.card (fieldAt b 2 3)).balance : Int))).done []) := by
  have still : (s.noteFault (fieldAt b 2 3)).hasOpenHold (fieldAt b 2 3) = false := by
    rw [State.hasOpenHold, State.noteFault_holds]
    exact unheld
  have stays' : ¬((s.card (fieldAt b 2 3)).state = .closed ∧ ¬r.state = .closed) := stays
  have front : ∀ out, (match (s.noteFault (fieldAt b 2 3)).reserve .general 1 with
      | none => (s.noteFault (fieldAt b 2 3)).refuse .journalFull
      | some s2 => (s2.rewritten (fieldAt b 2 3) { r with seq := nextCardSeq r.seq }
          (s.store.totals.adjust ((r.balance : Int) - ((s.card (fieldAt b 2 3)).balance : Int)))
          ((r.balance : Int) - ((s.card (fieldAt b 2 3)).balance : Int))).done []) = out → serveRewriteCard b s = out := by
    rintro out rfl
    simp only [serveRewriteCard, opened, ne_eq, not_true_eq_false, if_false, officeSerial, known, readRecord_unreadable fault,
      still, Bool.false_eq_true, decoded, (rewriteBad_eq_false_iff r prog).mpr sound, if_neg stays']
    cases (s.noteFault (fieldAt b 2 3)).reserve .general 1 with
    | none => rfl
    | some s2 => rfl
  refine ⟨fun noRoom => ?_, fun s1 granted => ?_⟩
  · have noRoom' : (s.noteFault (fieldAt b 2 3)).canReserve .general 1 = false := by
      rw [← noRoom]
      simp only [State.canReserve, State.numberingSpent, State.noteFault_pfw, State.noteFault_store, State.noteFault_unack,
        State.noteFault_journal, State.noteFault_nextWrite]
    refine front _ ?_
    rw [reserve_none_of noRoom']
  · refine front _ ?_
    rw [reserve_noteFault granted]

end

/-- A commit without an accrual that leaves window and holds writes the cards, the totals and the journal. -/
theorem Committed.cardOnly {s mid t : State} {body : EntryBody} (committed : Committed s mid t body none) (held : holdsKept s mid)
    (window : mid.store.window = s.store.window) :
    { t with store.cards := s.store.cards, store.totals := s.store.totals, store.ring := s.store.ring,
             store.nextToWrite := s.store.nextToWrite, journal := s.journal, attn.pending := s.attn.pending } = s := by
  obtain ⟨h1, h2, h3⟩ := held
  have whole : { t with holds := s.holds, expiryQ := s.expiryQ, waiting := s.waiting, store.cards := s.store.cards,
                        store.totals := s.store.totals, store.window := s.store.window, store.ring := s.store.ring,
                        store.nextToWrite := s.store.nextToWrite, settle.accruals := s.settle.accruals, journal := s.journal,
                        attn.pending := s.attn.pending } = s := committed.frame
  have accruals : t.settle.accruals = s.settle.accruals := committed.accruals.trans (List.append_nil _)
  rw [← h1, ← h2, ← h3, ← window, ← accruals, ← committed.holds, ← committed.expiryQ, ← committed.waiting,
    ← committed.window] at whole
  exact whole

/-- Totals after an adjustment by a signed difference (R60, R68). -/
theorem Totals.adjust_eq (t : Totals) (diff : Int) :
    t.adjust diff =
      if 0 < diff then { t with adjustedCredit := totalAfter t.adjustedCredit diff, float := totalAfter t.float diff }
      else if diff < 0 then { t with adjustedDebit := totalAfter t.adjustedDebit (-diff), float := totalAfter t.float diff }
      else t := rfl

theorem filter_faults_noted (faults : List Nat) (serial : Nat) :
    (if serial ∉ faults ∧ faults.length < 16 then faults ++ [serial] else faults).filter (fun x => decide (x ≠ serial)) =
      faults.filter fun x => decide (x ≠ serial) := by
  split
  · simp [List.filter_append]
  · rfl

theorem noteFault_onlyLists (s : State) (serial : Nat) :
    (s.noteFault serial).ledger =
      { s.ledger with faults := (s.noteFault serial).ledger.faults, faultOverflow := (s.noteFault serial).ledger.faultOverflow } := by
  have rest := noteFault_rest s serial
  generalize s.noteFault serial = m at *
  rw [← rest]

/-- A state with all that a rewrite writes as in another. -/
def State.rewriteOf (s t : State) : State :=
  { t with ledger := s.ledger, store.cards := s.store.cards, store.totals := s.store.totals, store.ring := s.store.ring,
           store.nextToWrite := s.store.nextToWrite, journal := s.journal, attn.pending := s.attn.pending }

/-- What a rewrite under its reservation makes of the state it was taken in (R68). -/
theorem rewritten_made {s s1 : State} (granted : s.reserve .general 1 = some s1) (serial : Nat) (c : CardRecord) (totals : Totals)
    (diff : Int) :
    let m := (s1.noteFault serial).rewritten serial c totals diff
    cardWritten s m serial { c with checkOk := true } ∧ m.store.totals = totals ∧
      oneEntry s m s.ledger.period (.cardState serial c.seq .rewrite c.state c.suspend c.failures (some (c, diff))) ∧
      m.ledger = { s.ledger with
        faults := s.ledger.faults.filter (fun x => decide (x ≠ serial)),
        faultOverflow := s.ledger.faultOverflow || (decide (serial ∉ s.ledger.faults) && decide (16 ≤ s.ledger.faults.length)) } ∧
      onlyRaises s m [0, 4, 5] ∧
      { m with ledger := s.ledger, store.cards := s.store.cards, store.totals := s.store.totals, store.ring := s.store.ring,
               store.nextToWrite := s.store.nextToWrite, journal := s.journal, attn.pending := s.attn.pending } = s := by
  have noted := reserve_noteFault granted serial
  have frame1 := (State.reserve_leaves noted).2.2.2
  have store1 : (s1.noteFault serial).store = s.store :=
    (State.reserve_leaves noted).1.trans (State.noteFault_store s serial)
  have held : holdsKept (s.noteFault serial) (((s1.noteFault serial).writeCard serial c).setTotals totals) :=
    ⟨(congrArg State.holds frame1 :), (congrArg State.expiryQ frame1 :), (congrArg State.waiting frame1 :)⟩
  have window : (((s1.noteFault serial).writeCard serial c).setTotals totals).store.window = (s.noteFault serial).store.window := by
    rw [State.noteFault_store, ← store1]
    rfl
  have cards : (((s1.noteFault serial).writeCard serial c).setTotals totals).store.cards =
      Table.write CardRecord.blank s.store.cards serial { c with checkOk := true } := by
    rw [← store1]
    rfl
  have totalsAre : (((s1.noteFault serial).writeCard serial c).setTotals totals).store.totals = totals := rfl
  have committed := committed_post (mid := ((s1.noteFault serial).writeCard serial c).setTotals totals) noted rfl
    (.cardState serial c.seq .rewrite c.state c.suspend c.failures (some (c, diff))) none
  unfold State.rewritten
  generalize ((s1.noteFault serial).writeCard serial c).setTotals totals = mid at *
  generalize mid.post (.cardState serial c.seq .rewrite c.state c.suspend c.failures (some (c, diff))) none = t at *
  have only := committed.cardOnly held window
  have written : t.store.cards = Table.write CardRecord.blank s.store.cards serial { c with checkOk := true } :=
    committed.cards.trans cards
  obtain ⟨faults, overflow, -⟩ := faultNoted_noteFault s serial
  have ledger : t.ledger =
      { s.ledger with
        faults := if serial ∉ s.ledger.faults ∧ s.ledger.faults.length < 16 then s.ledger.faults ++ [serial] else s.ledger.faults,
        faultOverflow := s.ledger.faultOverflow ||
          (decide (serial ∉ s.ledger.faults) && decide (16 ≤ s.ledger.faults.length)) } := by
    rw [committed.ledger, noteFault_onlyLists, faults, overflow]
  have entry := committed.entry
  rw [noteFault_period] at entry
  refine ⟨⟨?_, fun k other => ?_⟩, committed.totals.trans totalsAre, oneEntry_noteFault entry, ?_, ?_, ?_⟩
  · show Table.read CardRecord.blank t.store.cards serial = _
    rw [written, Table.read_write_same]
  · show Table.read CardRecord.blank t.store.cards k = _
    rw [written, Table.read_write_ne _ _ _ other]
    rfl
  · show { t.ledger with faults := t.ledger.faults.filter (fun x => decide (x ≠ serial)) } = _
    rw [ledger, filter_faults_noted]
  · refine onlyRaises_trans (onlyRaises_mono (onlyRaises_noteFault s serial) ?_) (onlyRaises_mono committed.raises (by simp))
    split <;> simp
  · rw [State.noteFault_store, State.noteFault_journal] at only
    exact (congrArg (State.rewriteOf s) only :).trans (congrArg (State.rewriteOf s) (noteFault_rest s serial) :)

/-- Settles O53: the read notes the fault; the refusals stop there, and the rewrite is one commit behind it. -/
theorem rewriteRepairsAFaultedRecord : Obligations.RewriteRepairsAFaultedRecord := by
  rintro s b serial prog work rfl opened known
  rw [exec_rewriteCard work]
  refine ⟨?sound, ?refused, fun fresh sound => ?_⟩
  case sound =>
    rintro r c diff fault unheld decoded supplied stays room isC rfl
    obtain ⟨s1, granted⟩ := State.reserve_of_canReserve (s := { s with ledger.top := 0 }) room
    have unreadable : readable { s with ledger.top := 0 } (fieldAt b 2 3) (some prog) = false := readable_eq_false fault
    obtain ⟨held, count, ok⟩ := rewriteOfBody_fields decoded
    have same : ({ r with seq := nextCardSeq r.seq } : CardRecord) = c := by
      simp only [isC, held, count, ok, nextCardSeq]
    have served : serveRewriteCard b { s with ledger.top := 0 } =
        ((s1.noteFault (fieldAt b 2 3)).rewritten (fieldAt b 2 3) c
          (s.store.totals.adjust ((r.balance : Int) - ((s.card (fieldAt b 2 3)).balance : Int)))
          ((r.balance : Int) - ((s.card (fieldAt b 2 3)).balance : Int))).done [] := by
      rw [← same]
      exact (serveRewriteCard_sound (s := { s with ledger.top := 0 }) opened known unreadable unheld decoded supplied stays).2 s1 granted
    rw [served]
    have checked : { c with checkOk := true } = c := by
      rw [isC]
    obtain ⟨written, totals, entry, ledger, raises, rest⟩ := rewritten_made granted (fieldAt b 2 3) c
      (s.store.totals.adjust ((r.balance : Int) - ((s.card (fieldAt b 2 3)).balance : Int)))
      ((r.balance : Int) - ((s.card (fieldAt b 2 3)).balance : Int))
    rw [checked] at written
    generalize State.rewritten _ _ _ _ _ = m at *
    refine ⟨m, rfl, written, totals, entry, ledger, raises, ?_⟩
    exact (congrArg (fun x : State => { x with ledger := s.ledger }) rest :)
  case refused =>
    intro code fault cases_
    have unreadable : readable { s with ledger.top := 0 } (fieldAt b 2 3) (some prog) = false := readable_eq_false fault
    have served : serveRewriteCard b { s with ledger.top := 0 } =
        (State.noteFault { s with ledger.top := 0 } (fieldAt b 2 3)).refuse code := by
      obtain ⟨held, rfl⟩ | ⟨unheld, ⟨bad, rfl⟩ | ⟨r, decoded, supplied, ⟨leaves, rfl⟩ | ⟨stays, noRoom, rfl⟩⟩⟩ := cases_
      · exact serveRewriteCard_held (s := { s with ledger.top := 0 }) opened known unreadable held
      · exact serveRewriteCard_bad (s := { s with ledger.top := 0 }) opened known unreadable unheld bad
      · exact serveRewriteCard_closed (s := { s with ledger.top := 0 }) opened known unreadable unheld decoded supplied leaves
      · exact (serveRewriteCard_sound (s := { s with ledger.top := 0 }) opened known unreadable unheld decoded supplied stays).1 noRoom
    rw [served]
    obtain ⟨noted, raises, rest, top⟩ := faultNoted_taken s (fieldAt b 2 3)
    generalize State.noteFault _ _ = m at *
    exact ⟨m, rfl, noted, raises, rest, top⟩
  · have reads : readable { s with ledger.top := 0 } (fieldAt b 2 3) (some prog) = true := by
      show readable s _ _ = true
      simp [readable, fresh, sound]
    exact congrArg Host.Outcome.next (serveRewriteCard_readable (s := { s with ledger.top := 0 }) opened known reads)

end Sys2Proof.Machine
end

section
/-! PROOFS. What the commands of the Settlement Unit, the journal and the channels leave of the cards, and what the commands on cards
leave of the ledger as a whole. -/

namespace Sys2Proof.Machine

/-! ### The part of the state that says how cards and holds stand -/

/-- The state without everything but the cards, the holds and what bounds them. -/
def State.cardPart (s : State) : State :=
  { State.reset with
    cap := s.cap, holds := s.holds, expiryQ := s.expiryQ, waiting := s.waiting,
    ledger := { State.reset.ledger with
                mode := s.ledger.mode, faults := s.ledger.faults, formatting := s.ledger.formatting,
                closeOutstanding := s.ledger.closeOutstanding },
    recovery := { Recovery.initial with cardCursor := s.recovery.cardCursor },
    store := { Store.blank with
               signature := s.store.signature, openFlag := s.store.openFlag, periodWord := s.store.periodWord,
               cards := s.store.cards, programs := s.store.programs, totals := s.store.totals } }

/-- The state without everything but what stands above the cards: ledger state, signature, open flag, period and programs. -/
def State.frontPart (s : State) : State :=
  { s.cardPart with
    holds := [], expiryQ := [], waiting := [], ledger.faults := [], store.cards := [], store.totals := Totals.zero }

theorem State.frontPart_of_cardPart {s t : State} (h : t.cardPart = s.cardPart) : t.frontPart = s.frontPart := by
  unfold State.frontPart
  rw [h]

theorem State.periodWord_of_frontPart {s t : State} (h : t.frontPart = s.frontPart) : t.store.periodWord = s.store.periodWord :=
  (congrArg (fun u : State => u.store.periodWord) h :)

theorem State.cardPart_of_core {s t : State} (h : t.core = s.core) : t.cardPart = s.cardPart :=
  show t.core.cardPart = s.core.cardPart by rw [h]

theorem cardPart_ofCore (s : State) : OfCore (fun t => t.cardPart = s.cardPart) := fun _ => Iff.rfl

theorem frontPart_ofCore (s : State) : OfCore (fun t => t.frontPart = s.frontPart) := fun _ => Iff.rfl

/-! ### The operations that leave the cards alone -/

section
variable (s : State)

@[simp] theorem State.raiseIf_cardPart (b : Bool) (src : Source) : (s.raiseIf b src).cardPart = s.cardPart := by
  rw [State.raiseIf_frame]; rfl

@[simp] theorem State.append_cardPart (p : Nat) (b : EntryBody) : (s.append p b).cardPart = s.cardPart := by
  unfold State.append
  exact State.raiseIf_cardPart ..

@[simp] theorem State.done_cardPart (data : List Byte) : (s.done data).cardPart = s.cardPart :=
  State.cardPart_of_core (State.done_core s data)

@[simp] theorem State.refuse_cardPart (code : OfficeCode) : (s.refuse code).cardPart = s.cardPart :=
  State.cardPart_of_core (State.refuse_core s code)

@[simp] theorem State.noteWork_cardPart : s.noteWork.cardPart = s.cardPart := by
  rw [State.noteWork_frame]; rfl

@[simp] theorem State.grantSlots_cardPart : s.grantSlots.cardPart = s.cardPart := by
  rw [State.grantSlots_frame]; rfl

@[simp] theorem State.advanceNotice_cardPart : s.advanceNotice.cardPart = s.cardPart := by
  obtain ⟨a, b, c, e⟩ := s.advanceNotice_frame
  rw [e]; rfl

@[simp] theorem State.applyEffect_cardPart (e : Effect) (source : Nat) : (s.applyEffect e source).cardPart = s.cardPart := by
  cases e <;> exact State.raiseIf_cardPart ..

@[simp] theorem State.makeCounts_cardPart : s.makeCounts.cardPart = s.cardPart := by
  unfold State.makeCounts
  split
  · rfl
  · exact State.raiseIf_cardPart ..

@[simp] theorem State.makeSettled_cardPart (k : Nat) : (s.makeSettled k).cardPart = s.cardPart := State.raiseIf_cardPart ..

@[simp] theorem State.makeReturned_cardPart (k : Nat) : (s.makeReturned k).cardPart = s.cardPart := State.raiseIf_cardPart ..

@[simp] theorem State.rearm_cardPart : s.rearm.cardPart = s.cardPart := by
  unfold State.rearm
  exact (State.raiseIf_cardPart ..).trans (State.raiseIf_cardPart ..)

@[simp] theorem State.commitRoll_cardPart (k : Nat) : (s.commitRoll k).cardPart = s.cardPart := by
  unfold State.commitRoll
  exact (State.raiseIf_cardPart ..).trans (State.append_cardPart ..)

theorem State.reserve_cardPart {s t : State} {cls : ResClass} {n : Nat} (hr : s.reserve cls n = some t) :
    t.cardPart = s.cardPart := by
  obtain ⟨-, rfl⟩ := State.reserve_eq hr
  exact State.raiseIf_cardPart ..

theorem State.rollIfBehind_cardPart {s t : State} {k : Nat} (hr : s.rollIfBehind k = some t) : t.cardPart = s.cardPart := by
  unfold State.rollIfBehind at hr
  split at hr
  · obtain ⟨s1, hs1, rfl⟩ := Option.map_eq_some_iff.mp hr
    exact (State.commitRoll_cardPart ..).trans (State.reserve_cardPart hs1)
  · cases hr; rfl

theorem State.rollForEffect_cardPart {s t : State} {e : Effect} (hr : s.rollForEffect e = some t) :
    t.cardPart = s.cardPart := by
  unfold State.rollForEffect at hr
  split at hr
  · exact State.rollIfBehind_cardPart hr
  · cases hr; rfl

theorem State.makeCountsIfRecovering_cardPart : s.makeCountsIfRecovering.cardPart = s.cardPart := by
  unfold State.makeCountsIfRecovering
  split
  · exact State.makeCounts_cardPart s
  · rfl

theorem State.rollInHand_cardPart : s.rollInHand.cardPart = s.cardPart := by
  rcases s.rollInHand_cases with e | ⟨k, n, s1, -, -, hr, e⟩
  · rw [e]
  · rw [e, State.commitRoll_cardPart, State.reserve_cardPart hr, State.makeCountsIfRecovering_cardPart]

theorem State.makeVisit_cardPart (v : Visit) : (s.makeVisit v).1.cardPart = s.cardPart := by
  unfold State.makeVisit
  dsimp only
  have h1 : (if s.behind v.shop = true then s.commitRoll v.shop else s.giveBack 1).cardPart = s.cardPart := by
    split
    · exact State.commitRoll_cardPart ..
    · rfl
  generalize (if s.behind v.shop = true then s.commitRoll v.shop else s.giveBack 1) = s1 at h1
  split
  · exact (State.append_cardPart ..).trans h1
  · exact h1

theorem State.commitDone_cardPart (tag shop : Nat) (late : Bool) : (s.commitDone tag shop late).cardPart = s.cardPart :=
  (State.append_cardPart ..).trans (State.makeSettled_cardPart s shop)

theorem State.commitBack_cardPart (tag shop reason : Nat) (late : Bool) :
    (s.commitBack tag shop reason late).cardPart = s.cardPart :=
  ((State.append_cardPart ..).trans (State.makeReturned_cardPart s shop) : _)

theorem State.releaseSlot_cardPart (k : Nat) : (s.releaseSlot k).cardPart = s.cardPart := State.grantSlots_cardPart _

end

/-! ### The commands of the Settlement Unit -/

/-- The next state, where there is one, has the cards of this one. -/
def keepsCards (s : State) (o : Out) : Prop := nextAll (fun t => t.cardPart = s.cardPart) o

section
variable (s : State)

theorem execAccrualApply_cardPart : keepsCards s (execAccrualApply s) := by
  unfold execAccrualApply
  split
  · split
    · split
      · next s1 hr =>
        exact (State.applyEffect_cardPart s1 _ _).trans ((State.rollForEffect_cardPart hr).trans (State.noteWork_cardPart s))
      · rfl
    · rfl
  · rfl

theorem execRollSweep_cardPart : keepsCards s (execRollSweep s) := by
  unfold execRollSweep
  split
  · split
    · next hr => exact (State.commitRoll_cardPart ..).trans (State.reserve_cardPart hr)
    · rfl
  · rfl

theorem execSlotGrant_cardPart : keepsCards s (execSlotGrant s) := by
  unfold execSlotGrant
  split
  · next s1 hg =>
    obtain ⟨a, b, c, rfl⟩ := State.grantOnce_frame hg
    rfl
  · rfl

theorem State.takeVisit_cardPart : s.takeVisit.cardPart = s.cardPart := by
  unfold State.takeVisit
  rw [State.noteWork_frame]; rfl

theorem execChannelVisit_cardPart : keepsCards s (execChannelVisit s) := by
  unfold execChannelVisit
  split
  · split
    · next v rest _ =>
      have h0 := State.takeVisit_cardPart s
      show (s.takeVisit.serveVisit v).cardPart = _
      unfold State.serveVisit
      split
      · exact (State.grantSlots_cardPart _).trans h0
      · next s1 hr =>
        have hv := ((State.makeVisit_cardPart s1 v).trans (State.reserve_cardPart hr)).trans h0
        exact (State.grantSlots_cardPart _).trans ((State.raiseIf_cardPart ..).trans hv)
    · rfl
  · rfl

theorem execBankFrameTaken_cardPart : keepsCards s (execBankFrameTaken s) := by
  unfold execBankFrameTaken
  split
  · split
    · split <;> rfl
    · rfl
  · rfl

theorem execPull_cardPart : keepsCards s (execPull s) := by
  unfold execPull
  split
  · split
    · dsimp only
      split
      · rfl
      · exact State.grantSlots_cardPart _
    · rfl
  · rfl

theorem State.dropAnswer_cardPart : s.noteWork.dropAnswer.cardPart = s.cardPart := by
  rw [State.noteWork_frame]; rfl

theorem execDoneAnswer_cardPart : keepsCards s (execDoneAnswer s) := by
  unfold execDoneAnswer
  split
  · split
    · have h0 := State.dropAnswer_cardPart s
      dsimp only
      split
      · exact h0
      · next hr => exact (State.releaseSlot_cardPart ..).trans ((State.commitDone_cardPart ..).trans ((State.reserve_cardPart hr).trans h0))
      · next hr => exact ((State.commitDone_cardPart ..).trans ((State.reserve_cardPart hr).trans h0) : _)
      · rfl
    · rfl
  · rfl

theorem execBackAnswer_cardPart : keepsCards s (execBackAnswer s) := by
  unfold execBackAnswer
  split
  · split
    · have h0 := State.dropAnswer_cardPart s
      dsimp only
      split
      · exact h0
      · next hr => exact (State.releaseSlot_cardPart ..).trans ((State.commitBack_cardPart ..).trans ((State.reserve_cardPart hr).trans h0))
      · next hr => exact ((State.commitBack_cardPart ..).trans ((State.reserve_cardPart hr).trans h0) : _)
      · rfl
    · rfl
  · rfl

theorem execPayDeadlineReached_cardPart (slot : Nat) : keepsCards s (execPayDeadlineReached slot s) := by
  unfold execPayDeadlineReached
  split
  · split <;> rfl
  · rfl

theorem execDeadlineExpiry_cardPart : keepsCards s (execDeadlineExpiry s) := by
  unfold execDeadlineExpiry
  split
  · split
    · next k tag rest _ =>
      have h0 := State.dropAnswer_cardPart s
      dsimp only
      split
      · next p _ =>
        split
        · split
          · next s2 hr =>
            exact (State.releaseSlot_cardPart _ k).trans
              ((State.append_cardPart (s2.makeInDoubt p.shop) _ _).trans ((State.reserve_cardPart hr).trans h0))
          · rfl
        · exact h0
      · exact h0
    · rfl
  · rfl

theorem execPaySend_cardPart : keepsCards s (execPaySend s) := by
  unfold execPaySend
  split
  · split
    · rfl
    · split <;> rfl
  · rfl

theorem execStreamMark_cardPart : keepsCards s (execStreamMark s) := by
  unfold execStreamMark
  split
  · dsimp only
    split <;> rfl
  · rfl

theorem execRecoveryDoubt_cardPart : keepsCards s (execRecoveryDoubt s) := by
  unfold execRecoveryDoubt
  split
  · split
    · rfl
    · split
      · rfl
      · next s1 hr =>
        have hr1 := State.reserve_cardPart hr
        exact (State.makeCounts_cardPart _).trans ((State.append_cardPart (s1.setShop _ _) _ _).trans hr1)
  · rfl

theorem execAccrualReplay_cardPart : keepsCards s (execAccrualReplay s) := by
  unfold execAccrualReplay
  have hc := State.makeCounts_cardPart s
  split
  · dsimp only
    split
    · exact hc
    · split
      · exact hc
      · split
        · exact hc
        · next s1 hr =>
          exact (State.applyEffect_cardPart s1 _ _).trans ((State.rollForEffect_cardPart hr).trans hc)
  · rfl

/-! ### Office requests on shops, channels, the journal and the smaller tables -/

theorem shopStep_cardPart {kind : Nat} {serve : List Byte → State → State} (hd : ∀ b u, (serve b u).cardPart = u.cardPart) :
    (shopStep kind serve s).cardPart = s.cardPart :=
  shopStep_of (P := fun t => t.cardPart = s.cardPart) rfl (State.refuse_cardPart ..) (State.refuse_cardPart ..)
    fun b _ _ _ => hd b _

theorem officeStep_cardPart {kind : Nat} {serve : List Byte → State → State} (hd : ∀ b u, (serve b u).cardPart = u.cardPart) :
    (officeStep kind serve s).cardPart = s.cardPart :=
  officeStep_of (P := fun t => t.cardPart = s.cardPart) rfl fun b _ => hd b s

theorem writeStep_cardPart {code : Nat} {serve : List Byte → State → State} (hd : ∀ b u, (serve b u).cardPart = u.cardPart) :
    (writeStep code serve s).cardPart = s.cardPart :=
  (cardPart_ofCore s).answerable.writeStep rfl fun b _ _ _ _ => hd b s

theorem onChannel_cardPart {serve : Nat → State → State} (b : List Byte) (hd : ∀ c u, (serve c u).cardPart = u.cardPart) :
    (onChannel serve b s).cardPart = s.cardPart :=
  (cardPart_ofCore s).answerable.onChannel rfl fun _ _ => hd _ s

theorem onAction_cardPart {action : Nat} {serve : Nat → State → State} (hd : ∀ c u, (serve c u).cardPart = u.cardPart) :
    (onAction action serve s).cardPart = s.cardPart :=
  (cardPart_ofCore s).answerable.onAction rfl fun _ _ _ _ => hd _ s

theorem serveSetShop_cardPart (b : List Byte) : (serveSetShop b s).cardPart = s.cardPart := by
  unfold serveSetShop
  dsimp only
  split
  · exact State.refuse_cardPart ..
  · split
    · exact State.refuse_cardPart ..
    · split
      · exact State.refuse_cardPart ..
      · next s1 hr =>
        have hr1 := State.rollIfBehind_cardPart hr
        exact (State.done_cardPart ..).trans hr1

theorem serveReadShop_cardPart (b : List Byte) : (serveReadShop b s).cardPart = s.cardPart := by
  unfold serveReadShop
  dsimp only
  split
  · exact State.refuse_cardPart ..
  · exact State.done_cardPart ..

theorem serveSnapShop_cardPart (b : List Byte) : (serveSnapShop b s).cardPart = s.cardPart := by
  unfold serveSnapShop
  dsimp only
  split
  · exact State.refuse_cardPart ..
  · split
    · exact State.refuse_cardPart ..
    · next s1 hr =>
      have hr1 := State.rollIfBehind_cardPart hr
      exact (State.done_cardPart ..).trans hr1

theorem serveResolve_cardPart (b : List Byte) : (serveResolve b s).cardPart = s.cardPart := by
  unfold serveResolve
  dsimp only
  split
  · exact State.refuse_cardPart ..
  · split
    · exact State.refuse_cardPart ..
    · split
      · exact State.refuse_cardPart ..
      · split
        · exact State.refuse_cardPart ..
        · next s1 hr =>
          refine (State.done_cardPart ..).trans ((State.append_cardPart ..).trans ?_)
          split
          · exact (State.makeSettled_cardPart ..).trans (State.reserve_cardPart hr)
          · exact (State.makeReturned_cardPart ..).trans (State.reserve_cardPart hr)

theorem serveSetChannel_cardPart (b : List Byte) : (serveSetChannel b s).cardPart = s.cardPart := by
  unfold serveSetChannel
  split_ifs
  · exact State.refuse_cardPart ..
  · exact State.refuse_cardPart ..
  · split
    · exact State.refuse_cardPart ..
    · exact State.done_cardPart ..

theorem serveArm_cardPart (c : Nat) (s : State) : (serveArm c s).cardPart = s.cardPart := by
  unfold serveArm
  dsimp only
  split
  · exact State.refuse_cardPart ..
  · exact (State.done_cardPart ..).trans (State.grantSlots_cardPart _)

theorem serveStep_cardPart (c : Nat) (s : State) : (serveStep c s).cardPart = s.cardPart := by
  unfold serveStep
  dsimp only
  split
  · exact (State.done_cardPart ..).trans (State.grantSlots_cardPart _)
  · exact State.refuse_cardPart ..

theorem serveMask_cardPart (c : Nat) (s : State) : (serveMask c s).cardPart = s.cardPart := State.done_cardPart ..

theorem serveUnmask_cardPart (c : Nat) (s : State) : (serveUnmask c s).cardPart = s.cardPart := by
  unfold serveUnmask
  dsimp only
  split
  · exact (State.done_cardPart ..).trans (State.grantSlots_cardPart _)
  · exact State.done_cardPart ..
  · exact State.refuse_cardPart ..
  all_goals exact State.done_cardPart ..

theorem serveChannelStatus_cardPart (b : List Byte) : (serveChannelStatus b s).cardPart = s.cardPart := by
  unfold serveChannelStatus
  dsimp only
  split
  · exact State.refuse_cardPart ..
  · exact State.done_cardPart ..

theorem serveJournalAck_cardPart (b : List Byte) : (serveJournalAck b s).cardPart = s.cardPart := by
  refine (State.done_cardPart ..).trans ?_
  split <;> rfl

theorem serveWriteBinding_cardPart (b : List Byte) : (serveWriteBinding b s).cardPart = s.cardPart := by
  unfold serveWriteBinding
  dsimp only
  split
  · exact State.refuse_cardPart ..
  · split
    · exact State.refuse_cardPart ..
    · exact State.done_cardPart ..

theorem serveWriteSettings_cardPart (b : List Byte) : (serveWriteSettings b s).cardPart = s.cardPart := by
  unfold serveWriteSettings
  split
  · exact State.refuse_cardPart ..
  · exact State.done_cardPart ..

end

/-- The commands of the Settlement Unit, the channels, the journal and the tables that say nothing of cards. -/
inductive SettleCommand : Instr → Prop
  | paySend : SettleCommand .paySend
  | accrualApply : SettleCommand .accrualApply
  | rollSweep : SettleCommand .rollSweep
  | slotGrant : SettleCommand .slotGrant
  | channelVisit : SettleCommand .channelVisit
  | bankFrameTaken : SettleCommand .bankFrameTaken
  | pull : SettleCommand .pull
  | doneAnswer : SettleCommand .doneAnswer
  | backAnswer : SettleCommand .backAnswer
  | payDeadlineReached (slot : Nat) : SettleCommand (.payDeadlineReached slot)
  | deadlineExpiry : SettleCommand .deadlineExpiry
  | streamMark : SettleCommand .streamMark
  | recoveryDoubt : SettleCommand .recoveryDoubt
  | accrualReplay : SettleCommand .accrualReplay
  | writeTableAccept : SettleCommand .writeTableAccept
  | writeTableHouse : SettleCommand .writeTableHouse
  | writeTableBinding : SettleCommand .writeTableBinding
  | writeTableSettings : SettleCommand .writeTableSettings
  | setShop : SettleCommand .setShop
  | readShop : SettleCommand .readShop
  | snapShop : SettleCommand .snapShop
  | readHouse : SettleCommand .readHouse
  | resolve : SettleCommand .resolve
  | setChannel : SettleCommand .setChannel
  | armChannel : SettleCommand .armChannel
  | stepChannel : SettleCommand .stepChannel
  | maskChannelMask : SettleCommand .maskChannelMask
  | maskChannelUnmask : SettleCommand .maskChannelUnmask
  | channelStatus : SettleCommand .channelStatus
  | journalAck : SettleCommand .journalAck

/-- They leave cards and holds, the ledger state and the period as they are. -/
theorem SettleCommand.keepsCards {i : Instr} (hi : SettleCommand i) (s : State) : keepsCards s (exec i s) := by
  cases hi with
  | paySend => exact execPaySend_cardPart s
  | accrualApply => exact execAccrualApply_cardPart s
  | rollSweep => exact execRollSweep_cardPart s
  | slotGrant => exact execSlotGrant_cardPart s
  | channelVisit => exact execChannelVisit_cardPart s
  | bankFrameTaken => exact execBankFrameTaken_cardPart s
  | pull => exact execPull_cardPart s
  | doneAnswer => exact execDoneAnswer_cardPart s
  | backAnswer => exact execBackAnswer_cardPart s
  | payDeadlineReached slot => exact execPayDeadlineReached_cardPart s slot
  | deadlineExpiry => exact execDeadlineExpiry_cardPart s
  | streamMark => exact execStreamMark_cardPart s
  | recoveryDoubt => exact execRecoveryDoubt_cardPart s
  | accrualReplay => exact execAccrualReplay_cardPart s
  | writeTableAccept => exact writeStep_cardPart s fun b u => State.done_cardPart ..
  | writeTableHouse => exact writeStep_cardPart s fun b u => State.done_cardPart ..
  | writeTableBinding => exact writeStep_cardPart s fun b u => serveWriteBinding_cardPart u b
  | writeTableSettings => exact writeStep_cardPart s fun b u => serveWriteSettings_cardPart u b
  | setShop => exact shopStep_cardPart s fun b u => serveSetShop_cardPart u b
  | readShop => exact shopStep_cardPart s fun b u => serveReadShop_cardPart u b
  | snapShop =>
    show Machine.keepsCards s (execSnapShop s)
    unfold execSnapShop
    split
    · exact State.refuse_cardPart ..
    · exact shopStep_cardPart s fun b u => serveSnapShop_cardPart u b
  | readHouse => exact shopStep_cardPart s fun b u => State.done_cardPart ..
  | resolve => exact shopStep_cardPart s fun b u => serveResolve_cardPart u b
  | setChannel => exact officeStep_cardPart s fun b u => serveSetChannel_cardPart u b
  | armChannel => exact officeStep_cardPart s fun b u => onChannel_cardPart u b serveArm_cardPart
  | stepChannel => exact officeStep_cardPart s fun b u => onChannel_cardPart u b serveStep_cardPart
  | maskChannelMask => exact onAction_cardPart s serveMask_cardPart
  | maskChannelUnmask => exact onAction_cardPart s serveUnmask_cardPart
  | channelStatus => exact officeStep_cardPart s fun b u => serveChannelStatus_cardPart u b
  | journalAck => exact officeStep_cardPart s fun b u => serveJournalAck_cardPart u b

end Sys2Proof.Machine
end

section
/-! PROOFS. The commands on cards leave the ledger as a whole; the stored period changes only by opening and closing (R43, R44, R45,
R133). -/

namespace Sys2Proof.Machine

/-! ### A commit on a card -/

@[simp] theorem State.post_cardPart (s : State) (b : EntryBody) (e : Option Effect) : (s.post b e).cardPart = s.cardPart := by
  cases e <;> exact State.append_cardPart ..

theorem State.reserve_frontPart {s t : State} {cls : ResClass} {n : Nat} (hr : s.reserve cls n = some t) :
    t.frontPart = s.frontPart := State.frontPart_of_cardPart (State.reserve_cardPart hr)

/-- A commit on a card leaves what stands above the cards. -/
theorem frontPart_commit {s s1 t : State} {cls : ResClass} {n : Nat} (hr : s.reserve cls n = some s1)
    (ht : t.frontPart = s1.frontPart) (b : EntryBody) (e : Option Effect) : (t.post b e).frontPart = s.frontPart :=
  (State.frontPart_of_cardPart (State.post_cardPart t b e)).trans (ht.trans (State.reserve_frontPart hr))

theorem State.noteFault_frontPart (s : State) (serial : Nat) : (s.noteFault serial).frontPart = s.frontPart := by
  unfold State.noteFault
  split_ifs <;> rfl

section
variable (s : State)

@[simp] theorem State.writeCard_frontPart (serial : Nat) (r : CardRecord) : (s.writeCard serial r).frontPart = s.frontPart := rfl

@[simp] theorem State.setTotals_frontPart (t : Totals) : (s.setTotals t).frontPart = s.frontPart := rfl

@[simp] theorem State.addWindow_frontPart (r : CaptureRecord) : (s.addWindow r).frontPart = s.frontPart := rfl

@[simp] theorem State.openHold_frontPart (slot : Nat) (hold : Hold) : (s.openHold slot hold).frontPart = s.frontPart := rfl

@[simp] theorem State.endHold_frontPart (slot gen : Nat) (cause : EndCause) :
    (s.endHold slot gen cause).frontPart = s.frontPart := rfl

end

section
variable {s t : State}

theorem Declines.frontPart (hd : Declines s t) : t.frontPart = s.frontPart := by
  cases hd with
  | kept => rfl
  | noted serial => exact s.noteFault_frontPart serial
  | failed serial prog _ _ hr => exact frontPart_commit hr (by rfl) _ _

theorem Answers.frontPart (ha : Answers s t) : t.frontPart = s.frontPart := by
  cases ha with
  | kept code data => exact (frontPart_ofCore s).of_eq (State.answerOffice_core ..) rfl
  | noted serial expected code data =>
    exact (frontPart_ofCore s).of_eq (State.answerOffice_core ..) (s.noteFault_frontPart serial)

theorem officeCommits.frontPart {serial : Nat} {r : CardRecord} {totals : Totals} {body : EntryBody} {effect : Option Effect}
    (hc : officeCommits s t serial r totals body effect) : t.frontPart = s.frontPart := by
  obtain ⟨s1, hr, rfl⟩ := hc
  exact (frontPart_ofCore s).done (frontPart_commit (t := (s1.writeCard serial r).setTotals totals) hr (by rfl) _ _) _

end

/-! ### The lane requests, the expiry and the office's card requests -/

section
variable (req : LaneReq) (s : State)

theorem decideActivate_frontPart : (decideActivate req s).1.frontPart = s.frontPart := by
  rcases decideActivate_cases req s with hd | ⟨shop, prog, s1, -, -, -, hr, e⟩
  · exact hd.frontPart
  · rw [e]; exact frontPart_commit hr (by rfl) _ _

theorem decideLoad_frontPart : (decideLoad req s).1.frontPart = s.frontPart := by
  rcases decideLoad_cases req s with hd | ⟨shop, prog, s1, -, -, hr, e⟩
  · exact hd.frontPart
  · rw [e]; exact frontPart_commit hr (by rfl) _ _

theorem decideRedeem_frontPart : (decideRedeem req s).1.frontPart = s.frontPart := by
  rcases decideRedeem_cases req s with hd | ⟨shop, prog, s1, amount, result, -, -, hr, e⟩
  · exact hd.frontPart
  · rw [e]; exact frontPart_commit hr (by rfl) _ _

theorem decideCashout_frontPart : (decideCashout req s).1.frontPart = s.frontPart := by
  rcases decideCashout_cases req s with hd | ⟨shop, prog, s1, -, -, -, -, hr, e⟩
  · exact hd.frontPart
  · rw [e]; exact frontPart_commit hr (by rfl) _ _

theorem decideAuthorize_frontPart : (decideAuthorize req s).1.frontPart = s.frontPart := by
  rcases decideAuthorize_cases req s with hd | ⟨shop, prog, s1, slot, amount, result, -, -, -, -, hr, e⟩
  · exact hd.frontPart
  · rw [e]; exact frontPart_commit hr (by rfl) _ _

theorem decideCapture_frontPart : (decideCapture req s).1.frontPart = s.frontPart := by
  rcases decideCapture_cases req s with hd | ⟨s1, slot, gen, hold, -, -, -, -, -, -, hr, e⟩
  · exact hd.frontPart
  · rw [e]; exact frontPart_commit hr (by simp only [State.addWindow_frontPart, State.setTotals_frontPart, State.writeCard_frontPart, State.endHold_frontPart]) _ _

theorem decideVoid_frontPart : (decideVoid req s).1.frontPart = s.frontPart := by
  rcases decideVoid_cases req s with hd | ⟨s1, slot, gen, hold, -, -, -, hr, e⟩
  · exact hd.frontPart
  · rw [e]; exact frontPart_commit hr (by rfl) _ _

theorem decideRefund_frontPart : (decideRefund req s).1.frontPart = s.frontPart := by
  rcases decideRefund_cases req s with hd | ⟨shop, s1, rec, -, -, -, -, -, -, -, hr, e⟩
  · exact hd.frontPart
  · rw [e]; exact frontPart_commit (t := { (s1.writeCard _ _).setTotals _ with store.window := _ }) hr (by rfl) _ _

theorem State.expire_frontPart (it : ExpiryItem) : (s.expire it).frontPart = s.frontPart := by
  rcases s.expire_cases it with ⟨-, e⟩ | ⟨slot, gen, hold, -, ⟨-, e⟩ | ⟨s1, hr, ⟨-, e⟩ | ⟨-, -, e⟩ | ⟨-, -, e⟩⟩⟩ <;> rw [e]
  · rfl
  · exact frontPart_commit hr (by rfl) _ _
  · exact frontPart_commit (t := (s1.noteFault hold.card).endHold slot gen .expired) hr
      ((rfl : _ = (s1.noteFault hold.card).frontPart).trans (s1.noteFault_frontPart hold.card)) _ _
  · exact frontPart_commit hr (by rfl) _ _

end

section
variable (b : List Byte) (s : State)

theorem serveProvision_frontPart : (serveProvision b s).frontPart = s.frontPart := by
  rcases serveProvision_cases b s with ha | ⟨_, -, -, -, hc⟩
  · exact ha.frontPart
  · exact hc.frontPart

theorem serveSuspend_frontPart : (serveSuspend b s).frontPart = s.frontPart := by
  rcases serveSuspend_cases b s with ha | ⟨_, -, -, hc⟩
  · exact ha.frontPart
  · exact hc.frontPart

theorem serveResume_frontPart : (serveResume b s).frontPart = s.frontPart := by
  rcases serveResume_cases b s with ha | ⟨_, -, -, hc⟩
  · exact ha.frontPart
  · exact hc.frontPart

theorem serveCloseCard_frontPart : (serveCloseCard b s).frontPart = s.frontPart := by
  rcases serveCloseCard_cases b s with ha | ⟨_, -, -, -, -, -, hc⟩
  · exact ha.frontPart
  · exact hc.frontPart

theorem serveAdjust_frontPart : (serveAdjust b s).frontPart = s.frontPart := by
  rcases serveAdjust_cases b s with ha | ⟨_, _, -, -, -, -, -, -, -, hc⟩
  · exact ha.frontPart
  · exact hc.frontPart

theorem serveRewriteCard_frontPart : (serveRewriteCard b s).frontPart = s.frontPart := by
  rcases serveRewriteCard_cases b s with ha | ⟨prog, r, s1, s2, -, -, hs1, -, -, -, -, hr, e⟩
  · exact ha.frontPart
  · have h1 : s1.frontPart = s.frontPart := by
      rcases hs1 with ⟨-, rfl⟩ | ⟨-, -, rfl⟩
      · rfl
      · exact s.noteFault_frontPart _
    rw [e]
    refine (frontPart_ofCore s).done ?_ _
    have hcommit := frontPart_commit (t := (s2.writeCard (fieldAt b 2 3) { r with seq := nextCardSeq r.seq }).setTotals
      (s.store.totals.adjust ((r.balance : Int) - ((s.card (fieldAt b 2 3)).balance : Int)))) hr (by rfl)
      (.cardState (fieldAt b 2 3) (nextCardSeq r.seq) .rewrite r.state r.suspend r.failures
        (some ({ r with seq := nextCardSeq r.seq }, (r.balance : Int) - ((s.card (fieldAt b 2 3)).balance : Int)))) none
    exact (hcommit.trans h1 : _)

end

/-- The requests on a card and the expiry of a hold. -/
inductive CardCommand : Instr → Prop
  | activate : CardCommand .activate
  | load : CardCommand .load
  | balance : CardCommand .balance
  | redeem : CardCommand .redeem
  | cashout : CardCommand .cashout
  | authorize : CardCommand .authorize
  | capture : CardCommand .capture
  | void : CardCommand .void
  | refund : CardCommand .refund
  | expiry : CardCommand .expiry
  | readCard : CardCommand .readCard
  | provision : CardCommand .provision
  | suspend : CardCommand .suspend
  | resume : CardCommand .resume
  | closeCard : CardCommand .closeCard
  | adjust : CardCommand .adjust
  | rewriteCard : CardCommand .rewriteCard
  | readTotals : CardCommand .readTotals

theorem laneStep_frontPart {kind : Nat} {decision : LaneReq → State → State × Reply}
    (hd : ∀ req u, (decision req u).1.frontPart = u.frontPart) (s : State) : (laneStep kind decision s).frontPart = s.frontPart :=
  (frontPart_ofCore s).laneStep rfl fun _ _ _ _ => hd _ _

theorem cardStep_frontPart {kind : Nat} {serve : List Byte → State → State} (hd : ∀ b u, (serve b u).frontPart = u.frontPart)
    (s : State) : (cardStep kind serve s).frontPart = s.frontPart :=
  cardStep_of (P := fun t => t.frontPart = s.frontPart) rfl fun b _ => hd b s.takeOffice

/-- They leave the ledger state, the signature, the open flag, the period and the programs as they are. -/
theorem CardCommand.keepsFront {i : Instr} (hi : CardCommand i) (s : State) :
    nextAll (fun t => t.frontPart = s.frontPart) (exec i s) := by
  cases hi with
  | activate => exact laneStep_frontPart decideActivate_frontPart s
  | load => exact laneStep_frontPart decideLoad_frontPart s
  | balance => exact laneStep_frontPart (fun req u => (decideBalance_declines req u).frontPart) s
  | redeem => exact laneStep_frontPart decideRedeem_frontPart s
  | cashout => exact laneStep_frontPart decideCashout_frontPart s
  | authorize => exact laneStep_frontPart decideAuthorize_frontPart s
  | capture => exact laneStep_frontPart decideCapture_frontPart s
  | void => exact laneStep_frontPart decideVoid_frontPart s
  | refund => exact laneStep_frontPart decideRefund_frontPart s
  | expiry =>
    show nextAll _ (execExpiry s)
    unfold execExpiry
    split
    · split
      · exact s.expire_frontPart _
      · rfl
    · rfl
  | readCard => exact cardStep_frontPart (fun b u => (serveReadCard_answers b u).frontPart) s
  | provision => exact cardStep_frontPart serveProvision_frontPart s
  | suspend => exact cardStep_frontPart serveSuspend_frontPart s
  | resume => exact cardStep_frontPart serveResume_frontPart s
  | closeCard => exact cardStep_frontPart serveCloseCard_frontPart s
  | adjust => exact cardStep_frontPart serveAdjust_frontPart s
  | rewriteCard => exact cardStep_frontPart serveRewriteCard_frontPart s
  | readTotals => exact cardStep_frontPart (fun b u => (serveReadTotals_answers b u).frontPart) s

/-- The commands left over: resets and the warning, the ledger as a whole, the program table, the card pass and the compare. -/
inductive LedgerCommand : Instr → Prop
  | powerOnReset (c : Capacity) : LedgerCommand (.powerOnReset c)
  | pfwAssert : LedgerCommand .pfwAssert
  | pfwRelease : LedgerCommand .pfwRelease
  | restartPerformed : LedgerCommand .restartPerformed
  | holdDeadlineReached : LedgerCommand .holdDeadlineReached
  | closeEntry : LedgerCommand .closeEntry
  | cardPassRecord : LedgerCommand .cardPassRecord
  | recoveryEnd : LedgerCommand .recoveryEnd
  | writeTableProgram : LedgerCommand .writeTableProgram
  | format : LedgerCommand .format
  | openLedger : LedgerCommand .openLedger
  | closePeriod : LedgerCommand .closePeriod
  | formatComplete : LedgerCommand .formatComplete

/-- Every command is of one of the four kinds. -/
theorem command_kinds : ∀ i : Instr, LinkCommand i ∨ SettleCommand i ∨ CardCommand i ∨ LedgerCommand i
  | .idleGap _ | .truncatedFrame _ | .laneFrameReceived _ _ | .officeFrameReceived _ | .bankFrameReceived _
  | .laneAnswerSent _ | .officeFrameSent | .payFrameSent | .laneBadRequest | .attnChoice | .laneUp | .laneStatus
  | .readStatus | .restart | .readTable | .readSnap | .journalRead | .streamSet | .attnMask | .attnEnd | .attnMode
  | .officeBadRequest | .transmitterBeginsFrame _ =>
    .inl (by constructor)
  | .paySend | .accrualApply | .rollSweep | .slotGrant | .channelVisit | .bankFrameTaken | .pull | .doneAnswer
  | .backAnswer | .payDeadlineReached _ | .deadlineExpiry | .streamMark | .recoveryDoubt | .accrualReplay
  | .writeTableAccept | .writeTableHouse | .writeTableBinding | .writeTableSettings | .setShop | .readShop
  | .snapShop | .readHouse | .resolve | .setChannel | .armChannel | .stepChannel | .maskChannelMask
  | .maskChannelUnmask | .channelStatus | .journalAck =>
    .inr (.inl (by constructor))
  | .activate | .load | .balance | .redeem | .cashout | .authorize | .capture | .void | .refund | .expiry | .readCard
  | .provision | .suspend | .resume | .closeCard | .adjust | .rewriteCard | .readTotals =>
    .inr (.inr (.inl (by constructor)))
  | .powerOnReset _ | .pfwAssert | .pfwRelease | .restartPerformed | .holdDeadlineReached | .closeEntry
  | .cardPassRecord | .recoveryEnd | .writeTableProgram | .format | .openLedger | .closePeriod | .formatComplete =>
    .inr (.inr (.inr (by constructor)))

end Sys2Proof.Machine
end

section
/-! PROOFS. Where the stored period changes (R43, R44, R45, R133), and the invariants right after power-on. -/

namespace Sys2Proof.Machine

/-! ### The commands on the ledger as a whole that keep the stored period -/

theorem State.raiseBoundaries_periodWord (s : State) (k b : Nat) :
    (s.raiseBoundaries k b).store.periodWord = s.store.periodWord := by
  unfold State.raiseBoundaries
  generalize ([1, 2, 3, 4, 5, 6, 7] : List Nat) = l
  induction l generalizing s with
  | nil => rfl
  | cons j l ih =>
    rw [List.foldl_cons, ih]
    split <;> rfl

theorem State.writeProgram_periodWord (s : State) (k : Nat) (p : Program) :
    (s.writeProgram k p).store.periodWord = s.store.periodWord := by
  unfold State.writeProgram
  split
  · exact State.raiseBoundaries_periodWord ..
  · rfl

theorem State.periodWord_of_cardPart {s t : State} (h : t.cardPart = s.cardPart) : t.store.periodWord = s.store.periodWord :=
  State.periodWord_of_frontPart (State.frontPart_of_cardPart h)

theorem State.leaveRecovery_periodWord (s : State) (mode : LedgerState) :
    (s.leaveRecovery mode).store.periodWord = s.store.periodWord :=
  State.periodWord_of_cardPart (s := { s with ledger.mode := mode }) (State.rearm_cardPart _)

/-- The stored period of a state is a given one: not seen by links, Office Unit or rotation. -/
theorem periodWord_ofCore (w : Nat) : OfCore (fun t => t.store.periodWord = w) := fun _ => Iff.rfl

section
variable (s : State)

theorem serveWriteProgram_periodWord (b : List Byte) : (serveWriteProgram b s).store.periodWord = s.store.periodWord := by
  have hP := periodWord_ofCore s.store.periodWord
  unfold serveWriteProgram
  dsimp only
  split
  · exact hP.refuse rfl _
  · split
    · exact hP.refuse rfl _
    · exact hP.done (s.writeProgram_periodWord _ _) _

theorem serveFormat_periodWord (b : List Byte) : (serveFormat b s).store.periodWord = s.store.periodWord := by
  unfold serveFormat
  split
  · exact (periodWord_ofCore s.store.periodWord).refuse rfl _
  · rfl

theorem serveClosePeriod_periodWord (b : List Byte) : (serveClosePeriod b s).store.periodWord = s.store.periodWord := by
  unfold serveClosePeriod
  split_ifs
  any_goals exact (periodWord_ofCore s.store.periodWord).refuse rfl _
  split
  · exact (periodWord_ofCore s.store.periodWord).refuse rfl _
  · next s1 hr => exact (State.periodWord_of_cardPart (State.reserve_cardPart hr) : _)

theorem execCardPassRecord_periodWord : nextAll (fun t => t.store.periodWord = s.store.periodWord) (execCardPassRecord s) := by
  unfold execCardPassRecord
  split
  · show (s.cardPass s.recovery.cardCursor).store.periodWord = _
    unfold State.cardPass
    dsimp only
    split_ifs
    · exact State.periodWord_of_frontPart (s.noteFault_frontPart _)
    all_goals rfl
  · rfl

theorem execRecoveryEnd_periodWord : nextAll (fun t => t.store.periodWord = s.store.periodWord) (execRecoveryEnd s) := by
  unfold execRecoveryEnd
  have hc := State.periodWord_of_cardPart (State.makeCounts_cardPart s)
  split
  · rfl
  · split
    · exact s.leaveRecovery_periodWord _
    · split
      · rfl
      · dsimp only
        split
        · exact (State.leaveRecovery_periodWord ..).trans hc
        · split
          · exact hc
          · next s1 hr =>
            have hr1 := State.periodWord_of_cardPart (State.reserve_cardPart hr)
            exact (State.leaveRecovery_periodWord ..).trans
              ((State.periodWord_of_cardPart (State.append_cardPart ..)).trans (hr1.trans hc))

theorem execPfwAssert_periodWord : nextAll (fun t => t.store.periodWord = s.store.periodWord) (execPfwAssert s) := by
  obtain ⟨m, hm, e⟩ := execPfwAssert_spec s
  have kept : m.store.periodWord = s.store.periodWord := by
    rcases hm with rfl | rfl
    · rfl
    · exact State.periodWord_of_cardPart s.rollInHand_cardPart
  show nextAll _ (exec .pfwAssert s)
  rw [e]
  exact kept

end

/-! ### The three commands that change it -/

/-- OPEN_LEDGER keeps the stored period, or makes period 0 period 1 (R45). -/
theorem serveOpenLedger_periodWord (b : List Byte) (s : State) :
    (serveOpenLedger b s).store.periodWord = s.store.periodWord ∨
      (s.store.periodWord = 0 ∧ (serveOpenLedger b s).store.periodWord = 1) := by
  unfold serveOpenLedger
  split
  · exact .inl ((periodWord_ofCore s.store.periodWord).refuse rfl _)
  · next hfree =>
    simp only [not_or, not_not] at hfree
    split
    · exact .inl ((periodWord_ofCore s.store.periodWord).refuse rfl _)
    · exact .inr ⟨hfree.2.2, (periodWord_ofCore 1).done (State.periodWord_of_cardPart (State.append_cardPart ..)) _⟩

theorem execOpenLedger_periodWord (s : State) :
    nextAll (fun t => t.store.periodWord = s.store.periodWord ∨ (s.store.periodWord = 0 ∧ t.store.periodWord = 1))
      (exec .openLedger s) :=
  cardStep_of (P := fun t => t.store.periodWord = s.store.periodWord ∨ (s.store.periodWord = 0 ∧ t.store.periodWord = 1))
    (.inl rfl) fun b _ => serveOpenLedger_periodWord b s.takeOffice

/-- FORMAT_COMPLETE keeps the stored period or makes it 0 (R44). -/
theorem execFormatComplete_periodWord (s : State) :
    nextAll (fun t => t.store.periodWord = s.store.periodWord ∨ t.store.periodWord = 0) (exec .formatComplete s) := by
  show nextAll _ (execFormatComplete s)
  unfold execFormatComplete
  split
  · exact .inr ((periodWord_ofCore 0).done rfl _)
  · exact .inl rfl

theorem State.refuseClose_periodWord (s : State) (code : OfficeCode) :
    (s.refuseClose code).store.periodWord = s.store.periodWord :=
  State.periodWord_of_cardPart
    (s := { s with settle.accruals := s.settle.accruals.tail, ledger.closeOutstanding := false,
                   journal.reserved := s.journal.reserved - 1 }) (State.refuse_cardPart ..)

/-- A CLOSE entry keeps the stored period unless it is accepted, with no shop unrolled and no payout open (R133). -/
theorem execCloseEntry_periodWord (s : State) :
    nextAll (fun t => t.store.periodWord = s.store.periodWord ∨
      (s.settle.unrolled = 0 ∧ s.settle.openPayouts = 0 ∧
        ∃ requested rest, s.settle.accruals = .close requested :: rest ∧ t.store.periodWord = requested + 1))
      (exec .closeEntry s) := by
  show nextAll _ (execCloseEntry s)
  unfold execCloseEntry
  have refuses : ∀ code, (s.noteWork.refuseClose code).store.periodWord = s.store.periodWord := fun code =>
    (State.refuseClose_periodWord ..).trans (State.periodWord_of_cardPart s.noteWork_cardPart)
  split
  · split
    · next requested rest hacc =>
      dsimp only
      split
      · exact .inl rfl
      · split
        · exact .inl (refuses _)
        · next hu =>
          split
          · exact .inl (refuses _)
          · next ho =>
            have made := (s.noteWork.commitPeriod_made requested).stored
            refine .inr ⟨Nat.eq_zero_of_not_pos hu, Nat.eq_zero_of_not_pos ho, requested, rest, hacc, ?_⟩
            exact (periodWord_ofCore (requested + 1)).done
              ((State.periodWord_of_cardPart (State.advanceNotice_cardPart _)).trans made) _
    · exact .inl rfl
  · exact .inl rfl

/-- Settles O6, by the parts of the state that each kind of command leaves. -/
theorem thePeriodChangesOnlyByOpeningAndClosing : Obligations.ThePeriodChangesOnlyByOpeningAndClosing := by
  unfold Obligations.ThePeriodChangesOnlyByOpeningAndClosing
  intro i s t run changed
  have kept : ∀ {o : Out}, nextAll (fun u => u.store.periodWord = s.store.periodWord) o → o = .next t → False :=
    fun h ho => changed (h.apply ho)
  have hP := periodWord_ofCore s.store.periodWord
  rcases command_kinds i with hi | hi | hi | hi
  · exact absurd run (kept (hP.link hi rfl))
  · exact absurd run (kept ((hi.keepsCards s).mono fun _ h => State.periodWord_of_cardPart h))
  · exact absurd run (kept ((hi.keepsFront s).mono fun _ h => State.periodWord_of_frontPart h))
  cases hi with
  | powerOnReset c => exact absurd run (kept (o := execPowerOnReset c s) rfl)
  | pfwAssert => exact absurd run (kept (execPfwAssert_periodWord s))
  | pfwRelease =>
    refine absurd run (kept (o := execPfwRelease s) ?_)
    unfold execPfwRelease
    split <;> rfl
  | restartPerformed =>
    refine absurd run (kept (o := execRestartPerformed s) ?_)
    unfold execRestartPerformed
    split <;> rfl
  | holdDeadlineReached =>
    refine absurd run (kept (o := execHoldDeadlineReached s) ?_)
    unfold execHoldDeadlineReached
    split
    · split <;> rfl
    · rfl
  | closeEntry =>
    rcases (execCloseEntry_periodWord s).apply run with h | h
    · exact absurd h changed
    · exact .inr (.inr ⟨rfl, h⟩)
  | cardPassRecord => exact absurd run (kept (execCardPassRecord_periodWord s))
  | recoveryEnd => exact absurd run (kept (execRecoveryEnd_periodWord s))
  | writeTableProgram =>
    exact absurd run (kept (o := execWriteTableProgram s)
      (hP.answerable.writeStep rfl fun b _ _ _ _ => serveWriteProgram_periodWord s b))
  | format =>
    exact absurd run (kept (o := execFormat s)
      (cardStep_of (P := fun u => u.store.periodWord = s.store.periodWord) rfl fun b _ => serveFormat_periodWord _ b))
  | openLedger =>
    rcases (execOpenLedger_periodWord s).apply run with h | ⟨h0, h1⟩
    · exact absurd h changed
    · exact .inl ⟨rfl, h0, h1⟩
  | closePeriod =>
    exact absurd run (kept (o := execClosePeriod s)
      (cardStep_of (P := fun u => u.store.periodWord = s.store.periodWord) rfl fun b _ => serveClosePeriod_periodWord _ b))
  | formatComplete =>
    rcases (execFormatComplete_periodWord s).apply run with h | h
    · exact absurd h changed
    · exact .inr (.inl ⟨rfl, h⟩)

end Sys2Proof.Machine
end

section
/-! PROOFS. The invariants right after power-on. -/

namespace Sys2Proof.Machine

theorem reset_journalSound : State.reset.journalSound :=
  ⟨fun h => absurd h Bool.false_ne_true, by decide, by decide, fun _ => rfl⟩

theorem reset_tablesSound : State.reset.tablesSound := ⟨rfl, rfl, rfl, rfl, rfl, rfl, rfl, rfl, rfl, rfl⟩

theorem reset_withinCapacity : State.reset.withinCapacity := by
  refine ⟨fun l => Nat.zero_le _, ?_, ?_, ?_, ?_, ?_, ?_, ?_⟩ <;> exact Nat.zero_le _

theorem reset_modeSound : State.reset.modeSound :=
  ⟨fun h => absurd h Bool.false_ne_true, nofun, nofun, nofun⟩

theorem reset_holdsSound : State.reset.holdsSound :=
  ⟨fun _ => by show 0 < 32; decide, nofun, List.nodup_nil, nofun, nofun, Nat.zero_le _⟩

theorem reset_moneySound : State.reset.moneySound := by
  refine ⟨by decide, fun _ _ => ?_, ?_, fun _ _ => Nat.zero_le _, nofun, nofun⟩
  · show Program.initial.loadLimit ≤ 10000000 ∧ Program.initial.maxHolds ≤ 8
    decide
  · exact (Finset.sum_const_zero (s := Finset.range 65536)).symm

theorem reset_heldSound : State.reset.heldSound := ⟨nofun, nofun⟩

theorem reset_cardsSound : State.reset.cardsSound :=
  ⟨reset_modeSound, reset_holdsSound, reset_moneySound, reset_heldSound⟩

theorem reset_shopsNamed : State.reset.shopsNamed := by
  refine ⟨fun _ _ => Nat.zero_le _, nofun, ?_, ?_, ?_, ?_, ?_⟩
  · exact fun r h => absurd h List.not_mem_nil
  · exact fun e p k h => absurd h List.not_mem_nil
  · exact fun x h => absurd h List.not_mem_nil
  · exact fun t k p h => absurd h List.not_mem_nil
  · exact fun t k p r h => absurd h List.not_mem_nil

theorem initialChannel_passWithin :
    State.visitsSound.passWithin Channel.initial.dir Channel.initial.cur Channel.initial.remaining ∧
      State.visitsSound.passWithin ChannelSetup.initial.dir ChannelSetup.initial.baseShop ChannelSetup.initial.baseCount := by
  refine ⟨⟨Nat.zero_le _, ?_⟩, ⟨Nat.zero_le _, ?_⟩⟩ <;> exact Nat.le_refl 511

theorem reset_visitsSound : State.reset.visitsSound := by
  refine ⟨Nat.zero_le _, List.nodup_nil, ?_, nofun, nofun, fun _ _ => initialChannel_passWithin⟩
  exact fun v h => absurd h List.not_mem_nil

theorem reset_settlementSound : State.reset.settlementSound :=
  ⟨reset_modeSound, reset_shopsNamed, ⟨rfl, nofun⟩, nofun, ⟨nofun, nofun, nofun⟩, reset_visitsSound⟩

/-- Settles O56, invariant by invariant: the tables are empty, the store is blank. -/
theorem invariantsHoldAtReset : Obligations.InvariantsHoldAtReset :=
  ⟨reset_journalSound, reset_tablesSound, reset_withinCapacity, reset_cardsSound, reset_settlementSound⟩

end Sys2Proof.Machine
end

section
/-! PROOFS. The warning falls between writes, and under it nothing is written (R128, R136, R198). -/

namespace Sys2Proof.Machine

/-! ### The work in hand -/

theorem OfficeState.ofCode_isSome_iff : ∀ {n : Nat}, (OfficeState.ofCode n).isSome = true ↔ n ≤ 3
  | 0 | 1 | 2 | 3 => by decide
  | n + 4 => ⟨nofun, fun h => absurd h (by omega)⟩

/-- The request whose turn it is is well-formed (R187). -/
theorem State.request_wellFormed {s : State} {f : Frame} (turn : s.nextWork = some .request) (hf : s.officeRequest = some f) :
    officeWellFormed f = true := by
  have waits := (State.nextWork_ready turn).2.2.2.1 rfl
  simp only [State.requestWaits, hf, Bool.and_eq_true] at waits
  exact waits.1

theorem State.requestShop_eq_some_iff {s : State} (turn : s.nextWork = some .request) (k : Nat) :
    s.requestShop = some k ↔ k ≤ 511 ∧ ∃ b, fieldAt b 2 2 = k ∧
      (s.officeBody 0x51 = some b ∨ (s.officeBody 0x52 = some b ∧ fieldAt b 4 1 ≤ 3)) := by
  simp only [State.officeBody_eq_some_iff]
  constructor
  · intro h
    unfold State.requestShop at h
    split at h
    · next f hf =>
      split at h
      · next hc =>
        cases h
        have wf := State.request_wellFormed turn hf
        refine ⟨Nat.lt_succ_iff.mp hc.1, f.body, rfl, ?_⟩
        rcases hc.2 with hk | ⟨hk, hst⟩
        · exact .inl ⟨f, hf, hk, wf, rfl⟩
        · exact .inr ⟨⟨f, hf, hk, wf, rfl⟩, OfficeState.ofCode_isSome_iff.mp hst⟩
      · cases h
    · cases h
  · rintro ⟨low, b, rfl, kind⟩
    have found : ∃ f, s.officeRequest = some f ∧ f.body = b ∧
        (f.kind.toNat = 0x51 ∨ (f.kind.toNat = 0x52 ∧ (OfficeState.ofCode (setShopState f.body)).isSome)) := by
      rcases kind with ⟨f, hf, hk, -, rfl⟩ | ⟨⟨f, hf, hk, -, rfl⟩, hst⟩
      · exact ⟨f, hf, rfl, .inl hk⟩
      · exact ⟨f, hf, rfl, .inr ⟨hk, OfficeState.ofCode_isSome_iff.mpr hst⟩⟩
    obtain ⟨f, hf, rfl, hc⟩ := found
    unfold State.requestShop
    rw [hf]
    exact if_pos ⟨Nat.lt_succ_of_le low, hc⟩

theorem Effect.rolls_eq_some_iff (e : Effect) (k n : Nat) : e.rolls = some (k, n) ↔ e.shop = some k ∧ n = 1 := by
  simp [Effect.rolls, eq_comm]

theorem replayNext_of_nextReplay {s : State} {e : JournalEntry} (found : s.nextReplay = some e) :
    ∃ eff, replayNext s e eff := by
  obtain ⟨hp, newer, older, ring, first⟩ := List.find?_eq_some_iff_append.mp found
  simp only [Bool.and_eq_true, decide_eq_true_eq] at hp
  obtain ⟨eff, posts⟩ := Option.isSome_iff_exists.mp hp.2
  refine ⟨eff, older.reverse, newer.reverse, ?_, hp.1, posts, fun x mem above => ?_⟩
  · have := congrArg List.reverse ring
    simpa using this
  · simpa [above] using first x (List.mem_reverse.mp mem)

/-- The work in hand is what the statement names. -/
theorem State.workInHand_iff (s : State) (k n : Nat) : s.workInHand = some (k, n) ↔ rollsFirst s k n := by
  have idle : passes s → s.nextWork = none := fun runs => by
    simp [State.nextWork, runs.1]
  unfold State.workInHand
  by_cases hp : passes s ∧ s.emittedShop = none
  · obtain ⟨runs, clear⟩ := hp
    rw [if_pos (by simp [s.passRuns_iff.mpr runs, clear])]
    simp only [rollsFirst, idle runs, reduceCtorEq, false_and, false_or, runs, true_and, Option.bind_eq_some_iff,
      Effect.rolls_eq_some_iff]
    constructor
    · rintro ⟨e, found, eff, posts, shop, rfl⟩
      obtain ⟨eff', next⟩ := replayNext_of_nextReplay found
      obtain ⟨newer, older, ring, above, posts', first⟩ := next
      obtain rfl : eff' = eff := by simpa [posts'] using posts
      exact ⟨rfl, s.emittedShop_eq_none_iff.mp clear, e, eff', ⟨newer, older, ring, above, posts', first⟩, shop⟩
    · rintro ⟨rfl, -, e, eff, next, shop⟩
      have found := State.nextReplay_of next
      obtain ⟨newer, older, ring, above, posts, first⟩ := next
      exact ⟨e, found, eff, posts, shop, rfl⟩
  · rw [if_neg (by simpa [s.passRuns_iff] using hp)]
    have notReplay : ¬(passes s ∧ n = 1 ∧ (∀ j, j ≤ 511 → (s.shop j).closing.state ≠ .emitted) ∧
        ∃ e eff, replayNext s e eff ∧ eff.shop = some k) := fun ⟨runs, _, clear, _⟩ =>
      hp ⟨runs, s.emittedShop_eq_none_iff.mpr clear⟩
    simp only [rollsFirst, notReplay, or_false]
    cases turn : s.nextWork with
    | none => simp
    | some w =>
      cases w with
      | accrual =>
        simp only [Option.some.injEq, reduceCtorEq, true_and, false_and, or_false]
        constructor
        · intro h
          split at h
          · next e period source rest hacc =>
            obtain ⟨shop, rfl⟩ := (e.rolls_eq_some_iff k n).mp h
            exact ⟨rfl, e, period, source, rest, hacc, shop⟩
          · cases h
        · rintro ⟨rfl, e, period, source, rest, hacc, shop⟩
          rw [hacc]
          exact (e.rolls_eq_some_iff k 1).mpr ⟨shop, rfl⟩
      | visit =>
        cases visits : s.settle.visits with
        | nil => simp
        | cons v rest => simp [eq_comm, and_comm]
      | request =>
        simp only [Option.some.injEq, reduceCtorEq, true_and, false_and, false_or]
        rw [Option.map_eq_some_iff]
        constructor
        · rintro ⟨j, found, e⟩
          cases e
          exact ⟨rfl, (State.requestShop_eq_some_iff turn k).mp found⟩
        · rintro ⟨rfl, shop⟩
          exact ⟨k, (State.requestShop_eq_some_iff turn k).mpr shop, rfl⟩
      | answer => simp
      | sweep => simp

/-! ### Under the warning nothing is done -/

section
variable {s : State} (hw : s.pfw = true)
include hw

theorem State.nextWork_warned : s.nextWork = none := by simp [State.nextWork, hw]

theorem State.passRuns_warned : s.passRuns = false := by simp [State.passRuns, hw]

theorem State.officeBody_warned (kind : Nat) : s.officeBody kind = none := by
  refine Option.eq_none_iff_forall_ne_some.mpr fun b h => ?_
  simp [State.pfw_of_officeBody h] at hw

theorem State.pick_warned : s.pick = none := by simp [State.pick, State.cardLedgerFree, hw]

theorem laneStep_warned (kind : Nat) (decision : LaneReq → State → State × Reply) : laneStep kind decision s = s := by
  simp [laneStep, State.laneWork, State.pick_warned hw]

theorem cardStep_warned (kind : Nat) (serve : List Byte → State → State) : cardStep kind serve s = s := by
  simp [cardStep, State.cardWork, State.pick_warned hw]

theorem officeStep_warned (kind : Nat) (serve : List Byte → State → State) : officeStep kind serve s = s := by
  simp [officeStep, State.officeBody_warned hw]

theorem shopStep_warned (kind : Nat) (serve : List Byte → State → State) : shopStep kind serve s = s := by
  simp [shopStep, State.officeBody_warned hw]

theorem writeStep_warned (code : Nat) (serve : List Byte → State → State) : writeStep code serve s = s := by
  simp [writeStep, State.officeBody_warned hw]

theorem onAction_warned (action : Nat) (serve : Nat → State → State) : onAction action serve s = s := by
  simp [onAction, State.officeBody_warned hw]

/-- The commands on cards change nothing. -/
theorem CardCommand.warned {i : Instr} (hi : CardCommand i) : exec i s = .next s := by
  cases hi with
  | activate => exact congrArg Host.Outcome.next (laneStep_warned hw ..)
  | load => exact congrArg Host.Outcome.next (laneStep_warned hw ..)
  | balance => exact congrArg Host.Outcome.next (laneStep_warned hw ..)
  | redeem => exact congrArg Host.Outcome.next (laneStep_warned hw ..)
  | cashout => exact congrArg Host.Outcome.next (laneStep_warned hw ..)
  | authorize => exact congrArg Host.Outcome.next (laneStep_warned hw ..)
  | capture => exact congrArg Host.Outcome.next (laneStep_warned hw ..)
  | void => exact congrArg Host.Outcome.next (laneStep_warned hw ..)
  | refund => exact congrArg Host.Outcome.next (laneStep_warned hw ..)
  | expiry => simp [exec, execExpiry, State.pick_warned hw]
  | readCard => exact congrArg Host.Outcome.next (cardStep_warned hw ..)
  | provision => exact congrArg Host.Outcome.next (cardStep_warned hw ..)
  | suspend => exact congrArg Host.Outcome.next (cardStep_warned hw ..)
  | resume => exact congrArg Host.Outcome.next (cardStep_warned hw ..)
  | closeCard => exact congrArg Host.Outcome.next (cardStep_warned hw ..)
  | adjust => exact congrArg Host.Outcome.next (cardStep_warned hw ..)
  | rewriteCard => exact congrArg Host.Outcome.next (cardStep_warned hw ..)
  | readTotals => exact congrArg Host.Outcome.next (cardStep_warned hw ..)

end

/-- The next state, where there is one, has the store of this one. -/
def keepsStore (s : State) (o : Out) : Prop := nextAll (fun t => t.store = s.store) o

theorem keepsStore_of_eq {s t : State} (h : t = s) : keepsStore s (.next t) := congrArg State.store h

/-- The commands of the Settlement Unit and the channels write nothing to the store: what does is not taken, and the rest touches
registers, queues and the payout window alone. -/
theorem SettleCommand.warned {i : Instr} (hi : SettleCommand i) {s : State} (warned : s.pfw = true) : keepsStore s (exec i s) := by
  have idle := State.nextWork_warned warned
  have stopped := State.passRuns_warned warned
  cases hi with
  | paySend =>
    show keepsStore s (execPaySend s)
    unfold execPaySend
    split
    · rw [if_pos warned]; rfl
    · rfl
  | accrualApply => simp [keepsStore, exec, execAccrualApply, idle, nextAll]
  | rollSweep => simp [keepsStore, exec, execRollSweep, idle, nextAll]
  | slotGrant =>
    show keepsStore s (execSlotGrant s)
    unfold execSlotGrant
    split
    · next s1 hg =>
      obtain ⟨a, b, c, rfl⟩ := State.grantOnce_frame hg
      rfl
    · rfl
  | channelVisit => simp [keepsStore, exec, execChannelVisit, idle, nextAll]
  | bankFrameTaken =>
    show keepsStore s (execBankFrameTaken s)
    unfold execBankFrameTaken
    split
    · split
      · split <;> rfl
      · rfl
    · rfl
  | pull =>
    show keepsStore s (execPull s)
    unfold execPull
    split
    · split
      · dsimp only
        split
        · rfl
        · exact State.grantSlots_store _
      · rfl
    · rfl
  | doneAnswer => simp [keepsStore, exec, execDoneAnswer, idle, nextAll]
  | backAnswer => simp [keepsStore, exec, execBackAnswer, idle, nextAll]
  | payDeadlineReached slot =>
    show keepsStore s (execPayDeadlineReached slot s)
    unfold execPayDeadlineReached
    split
    · split <;> rfl
    · rfl
  | deadlineExpiry => simp [keepsStore, exec, execDeadlineExpiry, idle, nextAll]
  | streamMark =>
    show keepsStore s (execStreamMark s)
    unfold execStreamMark
    split
    · dsimp only
      split <;> rfl
    · rfl
  | recoveryDoubt => simp [keepsStore, exec, execRecoveryDoubt, stopped, nextAll]
  | accrualReplay => simp [keepsStore, exec, execAccrualReplay, stopped, nextAll]
  | writeTableAccept => exact keepsStore_of_eq (writeStep_warned warned ..)
  | writeTableHouse => exact keepsStore_of_eq (writeStep_warned warned ..)
  | writeTableBinding => exact keepsStore_of_eq (writeStep_warned warned ..)
  | writeTableSettings => exact keepsStore_of_eq (writeStep_warned warned ..)
  | setShop => exact keepsStore_of_eq (shopStep_warned warned ..)
  | readShop => exact keepsStore_of_eq (shopStep_warned warned ..)
  | snapShop =>
    show keepsStore s (execSnapShop s)
    unfold execSnapShop
    rw [State.officeBody_warned warned, if_neg (by simp)]
    exact keepsStore_of_eq (shopStep_warned warned ..)
  | readHouse => exact keepsStore_of_eq (shopStep_warned warned ..)
  | resolve => exact keepsStore_of_eq (shopStep_warned warned ..)
  | setChannel => exact keepsStore_of_eq (officeStep_warned warned ..)
  | armChannel => exact keepsStore_of_eq (officeStep_warned warned ..)
  | stepChannel => exact keepsStore_of_eq (officeStep_warned warned ..)
  | maskChannelMask => exact keepsStore_of_eq (onAction_warned warned ..)
  | maskChannelUnmask => exact keepsStore_of_eq (onAction_warned warned ..)
  | channelStatus => exact keepsStore_of_eq (officeStep_warned warned ..)
  | journalAck => exact keepsStore_of_eq (officeStep_warned warned ..)

/-- Resets keep the store, and what would write it is not taken. -/
theorem LedgerCommand.warned {i : Instr} (hi : LedgerCommand i) {s : State} (warned : s.pfw = true) : keepsStore s (exec i s) := by
  have idle := State.nextWork_warned warned
  have stopped := State.passRuns_warned warned
  cases hi with
  | powerOnReset c => exact (rfl : s.store = s.store)
  | pfwAssert =>
    obtain ⟨m, hm, e⟩ := execPfwAssert_spec s
    have nothing : s.rollInHand = s := by
      simp [State.rollInHand, State.workInHand, stopped, idle]
    obtain rfl : m = s := by simpa [nothing] using hm
    rw [e]
    rfl
  | pfwRelease =>
    show keepsStore s (execPfwRelease s)
    unfold execPfwRelease
    split <;> rfl
  | restartPerformed =>
    show keepsStore s (execRestartPerformed s)
    unfold execRestartPerformed
    split <;> rfl
  | holdDeadlineReached =>
    show keepsStore s (execHoldDeadlineReached s)
    unfold execHoldDeadlineReached
    split
    · split <;> rfl
    · rfl
  | closeEntry => simp [keepsStore, exec, execCloseEntry, idle, nextAll]
  | cardPassRecord => simp [keepsStore, exec, execCardPassRecord, stopped, nextAll]
  | recoveryEnd => simp [keepsStore, exec, execRecoveryEnd, warned, nextAll]
  | writeTableProgram => exact keepsStore_of_eq (writeStep_warned warned ..)
  | format => exact keepsStore_of_eq (cardStep_warned warned ..)
  | openLedger => exact keepsStore_of_eq (cardStep_warned warned ..)
  | closePeriod => exact keepsStore_of_eq (cardStep_warned warned ..)
  | formatComplete => simp [keepsStore, exec, execFormatComplete, warned, nextAll]

theorem exec_warned {s : State} (warned : s.pfw = true) (i : Instr) : keepsStore s (exec i s) := by
  rcases command_kinds i with hi | hi | hi | hi
  · exact OfCore.link (P := fun t => t.store = s.store) (fun _ => Iff.rfl) hi rfl
  · exact hi.warned warned
  · rw [hi.warned warned]
    exact keepsStore_of_eq rfl
  · exact hi.warned warned

/-! ### The statement -/

/-- Settles O5: the work in hand is the statement's, its roll is `RollMade`; under the warning no command takes work. -/
theorem theWarningFallsBetweenWrites : Obligations.TheWarningFallsBetweenWrites := by
  unfold Obligations.TheWarningFallsBetweenWrites
  refine ⟨fun s quiet => ?_, fun s k n first behind room counted => ?_, fun s t warned run => ?_⟩
  · obtain ⟨m, hm, e⟩ := execPfwAssert_spec s
    have nothing : s.rollInHand = s := by
      rcases s.rollInHand_cases with e | ⟨k, n, s1, hand, hb, granted, -⟩
      · exact e
      · have full := (quiet k n ((s.workInHand_iff k n).mp hand)).resolve_left (by simp [hb])
        have same : s.makeCountsIfRecovering.canReserve .general n = s.canReserve .general n := by
          unfold State.makeCountsIfRecovering State.makeCounts
          split_ifs
          · rfl
          · rw [State.raiseIf_frame]; rfl
          · rfl
        obtain ⟨granted, -⟩ := State.reserve_eq granted
        rw [same, full] at granted
        cases granted
    obtain rfl : m = s := by simpa [nothing] using hm
    exact e
  · obtain ⟨m, hm, e⟩ := execPfwAssert_spec s
    refine ⟨m, e, ?_⟩
    rcases hm with hm | hm
    · exact .inl hm
    · right
      have hand := (s.workInHand_iff k n).mpr first
      have noCounts : s.makeCountsIfRecovering = s := by
        unfold State.makeCountsIfRecovering
        split
        · next runs =>
          simp [State.makeCounts, counted ((s.passRuns_iff.mp runs).1)]
        · rfl
      obtain ⟨s1, granted⟩ := State.reserve_of_canReserve room
      have rolled : s.rollInHand = s1.commitRoll k := by
        simp only [State.rollInHand, hand, (s.behind_iff k).mpr behind, if_true, noCounts, granted]
      have made := rollMade_of_reserve granted (State.workInHand_pos hand) k
      rw [hm, rolled]
      generalize s1.commitRoll k = m at made
      exact ⟨made.shop, made.house, made.entry, made.marks, made.settle, made.fault, made.raises, made.channels, made.plu,
        made.nextTag, made.frame⟩
  · unfold step at run
    split at run
    · next c rest _ => exact (exec_warned (s := { s with pending := rest }) warned c).apply run
    · cases run; rfl

end Sys2Proof.Machine
end

section
/-! PROOFS. Cards, holds and float stay sound (R41, R60, R71 to R79): what the invariant looks at, and what one change of one card
keeps. -/

namespace Sys2Proof.Machine

/-! ### What the invariant looks at -/

theorem State.cardsSound_of_cardPart {s t : State} (h : s.cardsSound) (hv : t.cardPart = s.cardPart) : t.cardsSound := by
  have look : ∀ u : State, u.cardPart.cardsSound ↔ u.cardsSound := fun _ => Iff.rfl
  rw [← look, hv, look]
  exact h

theorem cardsSound_ofCore : OfCore State.cardsSound := fun _ => Iff.rfl

theorem State.modeSound_of_frontPart {s t : State} (h : s.modeSound) (hv : t.frontPart = s.frontPart) : t.modeSound := by
  have look : ∀ u : State, u.frontPart.modeSound ↔ u.modeSound := fun _ => Iff.rfl
  rw [← look, hv, look]
  exact h

section
variable {s t : State} (hv : t.frontPart = s.frontPart)
include hv

theorem State.mode_of_frontPart : t.ledger.mode = s.ledger.mode := (congrArg (fun u : State => u.ledger.mode) hv :)

theorem State.cap_of_frontPart : t.cap = s.cap := (congrArg (fun u : State => u.cap) hv :)

theorem State.signature_of_frontPart : t.store.signature = s.store.signature :=
  (congrArg (fun u : State => u.store.signature) hv :)

theorem State.program_of_frontPart (k : Nat) : t.program k = s.program k := (congrArg (fun u : State => u.program k) hv :)

theorem State.rangeProgram_of_frontPart (k : Nat) : t.rangeProgram k = s.rangeProgram k :=
  (congrArg (fun u : State => u.rangeProgram k) hv :)

end

/-- A sound record is one that does not fault when it is read by its range (R29, R52). -/
theorem State.cardSound_iff (s : State) (k : Nat) : s.cardSound k ↔ faulty (s.card k) (s.rangeProgram k) = false := by
  unfold State.cardSound faulty
  by_cases blank : (s.card k).state = .blank
  · simp [blank]
  · cases hp : s.rangeProgram k with
    | none => simp [blank]
    | some p => simp [blank]

theorem State.rangeProgram_of_lookup {s : State} {serial prog : Nat} (h : s.lookup serial = some prog) :
    serial < s.cap ∧ prog ≤ 7 ∧ s.rangeProgram serial = some prog := by
  unfold State.lookup at h
  split at h
  · cases h
  · next hlow =>
    split at h
    · next k hk =>
      split at h
      · cases h
        obtain ⟨-, hlt, -⟩ := firstFrom_spec _ _ _ _ hk
        exact ⟨Nat.not_le.mp hlow, by omega, hk⟩
      · cases h
    · cases h

/-! ### One card's held amount -/

/-- The held amount and hold count of a card agree with its open holds (R75, R79). -/
def State.heldAt (s : State) (k : Nat) : Prop :=
  (s.card k).held = s.heldOn k ∧ (s.card k).holdCount = (s.slotsOf k).card ∧ (s.card k).holdCount ≤ 8 ∧
    (s.card k).held ≤ (s.card k).balance ∧
    ((s.card k).state ∈ [.blank, .stock, .closed] → (s.card k).holdCount = 0)

theorem State.heldSound.at {s : State} (h : s.heldSound) (hm : s.ledger.mode = .opened) {k : Nat} (hk : k < s.cap)
    (hs : s.cardSound k) (hf : k ∉ s.ledger.faults) : s.heldAt k := h.1 hm k hk hs hf

/-- A card without holds holds no amount. -/
theorem State.heldAt.zero {s : State} {k : Nat} (h : s.heldAt k) (h0 : (s.card k).holdCount = 0) : (s.card k).held = 0 := by
  obtain ⟨held, count, -⟩ := h
  rw [h0] at count
  rw [held, State.heldOn, Finset.card_eq_zero.mp count.symm, Finset.sum_empty]

/-! ### The float -/

/-- The sum of balances when one of them changes. -/
theorem sum_balance_change {n k : Nat} (hk : k < n) (f g : Nat → Nat) (same : ∀ j, j ≠ k → g j = f j) :
    (Finset.range n).sum g + f k = (Finset.range n).sum f + g k := by
  have hmem : k ∈ Finset.range n := Finset.mem_range.mpr hk
  rw [← Finset.add_sum_erase _ f hmem, ← Finset.add_sum_erase _ g hmem,
    Finset.sum_congr rfl fun j hj => same j (Finset.ne_of_mem_erase hj)]
  have swap : ∀ a b c : Nat, a + c + b = b + c + a := by omega
  exact swap ..

/-- The sum of all balances is far within the range of a total. -/
theorem sum_balance_le {n : Nat} (hn : n ≤ 262144) (f : Nat → Nat) (hf : ∀ j, j < n → f j ≤ 2147483647) :
    (Finset.range n).sum f ≤ 562949953421311 := by
  have h := Finset.sum_le_card_nsmul (Finset.range n) f 2147483647 fun j hj => hf j (Finset.mem_range.mp hj)
  rw [Finset.card_range, smul_eq_mul] at h
  have := Nat.mul_le_mul_right 2147483647 hn
  omega

/-- A total that stays within its range takes the exact sum (R60). -/
theorem totalAfter_eq {t u : Nat} {d : Int} (h : (t : Int) + d = u) (hu : u ≤ 9223372036854775807) : totalAfter t d = u := by
  unfold totalAfter
  rw [h, if_pos ⟨Int.natCast_nonneg u, by simp only [Config.long]; omega⟩, Int.toNat_natCast]

/-- The float follows the change of one balance. -/
def floatFollows (s t : State) (serial : Nat) : Prop :=
  ((t.card serial).balance = (s.card serial).balance ∧ t.store.totals.float = s.store.totals.float) ∨
    t.store.totals.float =
      totalAfter s.store.totals.float (((t.card serial).balance : Int) - ((s.card serial).balance : Int))

/-! ### One change of one card in OPEN -/

/-- At most one card, its holds and the float differ; nothing above the cards does, and no other serial leaves the fault list. -/
structure OneCard (s t : State) (serial : Nat) : Prop where
  front : t.frontPart = s.frontPart
  cards : ∀ k, k ≠ serial → t.card k = s.card k
  listed : ∀ k, k ≠ serial → k ∈ s.ledger.faults → k ∈ t.ledger.faults
  slots : ∀ k, k ≠ serial → t.slotsOf k = s.slotsOf k ∧ t.heldOn k = s.heldOn k

theorem OneCard.cardSound {s t : State} {serial k : Nat} (h : OneCard s t serial) (hk : k ≠ serial) :
    t.cardSound k ↔ s.cardSound k := by
  unfold State.cardSound
  rw [h.cards k hk, State.rangeProgram_of_frontPart h.front]

theorem OneCard.heldAt {s t : State} {serial k : Nat} (h : OneCard s t serial) (hk : k ≠ serial) : t.heldAt k ↔ s.heldAt k := by
  unfold State.heldAt
  rw [h.cards k hk, (h.slots k hk).1, (h.slots k hk).2]

section
variable {s t : State} {serial : Nat} (h : s.cardsSound) (hm : s.ledger.mode = .opened) (one : OneCard s t serial)
include h hm one

/-- The float, the balances and the empty cards stay sound. -/
theorem OneCard.moneySound (low : serial < s.cap) (float : floatFollows s t serial)
    (balance : (t.card serial).balance ≤ 2147483647)
    (empty : t.cardSound serial → (t.card serial).state ∈ [.blank, .stock, .closed] → (t.card serial).balance = 0) :
    t.moneySound := by
  obtain ⟨mode, -, ⟨hcap, limits, sum, balances, -, empties⟩, -⟩ := h
  have cap := State.cap_of_frontPart one.front
  have balances' : ∀ k, k < s.cap → (t.card k).balance ≤ 2147483647 := fun k hk => by
    by_cases is : k = serial
    · rw [is]; exact balance
    · rw [one.cards k is]; exact balances k hk
  refine ⟨by rw [cap]; exact hcap, fun k hk => ?_, ?_, by rw [cap]; exact balances', ?_, ?_⟩
  · rw [State.program_of_frontPart one.front]; exact limits k hk
  · have change := sum_balance_change low (fun k => (s.card k).balance) (fun k => (t.card k).balance) fun j hj =>
      congrArg CardRecord.balance (one.cards j hj)
    have bound := sum_balance_le hcap (fun k => (t.card k).balance) balances'
    rw [cap]
    rcases float with ⟨same, total⟩ | total
    · rw [total, sum]; omega
    · rw [total]
      refine totalAfter_eq ?_ (bound.trans (by decide))
      rw [sum]; omega
  · intro signed zero
    rw [State.signature_of_frontPart one.front] at signed
    rw [State.periodWord_of_frontPart one.front] at zero
    exact absurd zero ((mode.1 signed).mp (mode.2.1 hm).2)
  · intro signed k hk sound state
    rw [State.signature_of_frontPart one.front] at signed
    rw [cap] at hk
    by_cases is : k = serial
    · subst is; exact empty sound state
    · rw [one.cards k is] at state ⊢
      exact empties signed k hk ((one.cardSound is).mp sound) state

theorem OneCard.heldSound (held : t.cardSound serial → serial ∉ t.ledger.faults → t.heldAt serial) : t.heldSound := by
  obtain ⟨-, -, -, ⟨open_, -⟩⟩ := h
  have mode := State.mode_of_frontPart one.front
  refine ⟨fun _ k hk sound off => ?_, fun recovering => ?_⟩
  · rw [State.cap_of_frontPart one.front] at hk
    by_cases is : k = serial
    · subst is; exact held sound off
    · exact (one.heldAt is).mpr (open_ hm k hk ((one.cardSound is).mp sound) fun mem => off (one.listed k is mem))
  · rw [mode, hm] at recovering
    cases recovering

/-- A change of one card in OPEN keeps the cards sound when its own balance, float, state and holds agree. -/
theorem OneCard.cardsSound (holds : t.holdsSound) (low : serial < s.cap) (float : floatFollows s t serial)
    (balance : (t.card serial).balance ≤ 2147483647)
    (empty : t.cardSound serial → (t.card serial).state ∈ [.blank, .stock, .closed] → (t.card serial).balance = 0)
    (held : t.cardSound serial → serial ∉ t.ledger.faults → t.heldAt serial) : t.cardsSound :=
  ⟨State.modeSound_of_frontPart h.1 one.front, holds, one.moneySound h hm low float balance empty, one.heldSound h hm held⟩

end

/-! ### The holds -/

/-- The holds of a state and the queues that name them. -/
theorem State.holdsSound_of_eq {s t : State} (h : s.holdsSound) (holds : t.holds = s.holds) (queue : t.expiryQ = s.expiryQ)
    (waiting : t.waiting = s.waiting) (cap : t.cap = s.cap) (mode : t.ledger.mode = s.ledger.mode) : t.holdsSound := by
  unfold State.holdsSound State.holdSlot at h ⊢
  rw [holds, queue, waiting, cap, mode]
  exact h

theorem State.slotsOf_of_holds {s t : State} (holds : t.holds = s.holds) (k : Nat) :
    t.slotsOf k = s.slotsOf k ∧ t.heldOn k = s.heldOn k := by
  unfold State.heldOn State.slotsOf State.holdSlot
  rw [holds]
  exact ⟨rfl, rfl⟩

end Sys2Proof.Machine
end

section
/-! PROOFS. The hold table, the expiry queue and the waiting requests: what opening, ending and posting a hold keeps (R71 to R77). -/

namespace Sys2Proof.Machine

/-! ### One slot of the hold table opens -/

/-- The two states differ in one slot of the hold table: free in the first, open in the second. -/
structure HoldOpened (s t : State) (slot : Nat) (hold : Hold) : Prop where
  low : slot < 2048
  free : (s.holdSlot slot).hold = none
  filled : (t.holdSlot slot).hold = some hold
  others : ∀ j, j ≠ slot → t.holdSlot j = s.holdSlot j

namespace HoldOpened

variable {s t : State} {slot : Nat} {hold : Hold} (h : HoldOpened s t slot hold)
include h

/-- The holds of another card are as before. -/
theorem other {k : Nat} (hk : k ≠ hold.card) : t.slotsOf k = s.slotsOf k ∧ t.heldOn k = s.heldOn k := by
  have slots : t.slotsOf k = s.slotsOf k := by
    refine Finset.filter_congr fun j _ => ?_
    by_cases is : j = slot
    · rw [is, h.free, h.filled]
      simp [hk.symm]
    · rw [h.others j is]
  refine ⟨slots, ?_⟩
  unfold State.heldOn
  rw [slots]
  refine Finset.sum_congr rfl fun j hj => ?_
  have ne : j ≠ slot := by
    rintro rfl
    have := (Finset.mem_filter.mp hj).2
    rw [h.free] at this
    cases this
  rw [h.others j ne]

theorem slots_insert : t.slotsOf hold.card = insert slot (s.slotsOf hold.card) ∧ slot ∉ s.slotsOf hold.card := by
  have notIn : slot ∉ s.slotsOf hold.card := fun mem => by
    have := (Finset.mem_filter.mp mem).2
    rw [h.free] at this
    cases this
  refine ⟨Finset.ext fun j => ?_, notIn⟩
  simp only [State.slotsOf, Finset.mem_filter, Finset.mem_range, Finset.mem_insert]
  by_cases is : j = slot
  · rw [is, h.filled]
    simp [h.low]
  · rw [h.others j is]
    simp [is]

/-- Its card has one hold more, of its amount. -/
theorem own : (t.slotsOf hold.card).card = (s.slotsOf hold.card).card + 1 ∧
    t.heldOn hold.card = s.heldOn hold.card + hold.amount := by
  obtain ⟨slots, notIn⟩ := h.slots_insert
  refine ⟨by rw [slots, Finset.card_insert_of_notMem notIn], ?_⟩
  unfold State.heldOn
  rw [slots, Finset.sum_insert notIn, h.filled, Nat.add_comm]
  refine congrArg (· + hold.amount) (Finset.sum_congr rfl fun j hj => ?_)
  rw [h.others j fun is => notIn (is ▸ hj)]

end HoldOpened

/-! ### The expiry queue -/

theorem insertExpiry_perm (it : ExpiryItem) (q : List ExpiryItem) : (insertExpiry it q).Perm (it :: q) := by
  induction q with
  | nil => exact List.Perm.refl _
  | cons x q ih =>
    unfold insertExpiry
    split
    · exact List.Perm.refl _
    · exact (ih.cons x).trans (List.Perm.swap it x q)

/-- A list of expiry items names the open holds of a state: each once, under its generation and deadline, and nothing else (R76,
R77). -/
structure NamesHolds (s : State) (items : List ExpiryItem) : Prop where
  once : (items.map ExpiryItem.slot).Nodup
  open_ : ∀ it ∈ items, ∃ h, (s.holdSlot it.slot).hold = some h ∧ (s.holdSlot it.slot).gen = it.gen ∧ h.deadline = it.deadline
  all : ∀ j h, (s.holdSlot j).hold = some h → ∃ it ∈ items, it.slot = j

theorem NamesHolds.perm {s : State} {items items' : List ExpiryItem} (h : NamesHolds s items) (hp : items'.Perm items) :
    NamesHolds s items' :=
  ⟨(hp.map _).nodup_iff.mpr h.once, fun it mem => h.open_ it (hp.mem_iff.mp mem), fun j hold open_ => by
    obtain ⟨it, mem, slot⟩ := h.all j hold open_
    exact ⟨it, hp.mem_iff.mpr mem, slot⟩⟩

/-- At most 2,048 items are named, for each has a slot of its own. -/
theorem NamesHolds.length_le {s : State} {items : List ExpiryItem} (h : NamesHolds s items)
    (low : ∀ j hold, (s.holdSlot j).hold = some hold → j < 2048) : items.length ≤ 2048 := by
  have sub : items.map ExpiryItem.slot ⊆ List.range 2048 := fun j mem => by
    obtain ⟨it, hit, rfl⟩ := List.mem_map.mp mem
    obtain ⟨hold, open_, -⟩ := h.open_ it hit
    exact List.mem_range.mpr (low _ hold open_)
  have := (List.subperm_of_subset h.once sub).length_le
  simpa using this

/-- The slots themselves: generations, and what an open one may hold (R71, R72). -/
def State.slotsSound (s : State) : Prop :=
  (∀ j, (s.holdSlot j).gen < 32) ∧
    ∀ j h, (s.holdSlot j).hold = some h → j < 2048 ∧ h.card < s.cap ∧ 0 < h.amount ∧ s.ledger.mode = .opened

theorem State.holdsSound_iff (s : State) : s.holdsSound ↔ s.slotsSound ∧ NamesHolds s (s.expiryQ ++ s.waiting) := by
  constructor
  · rintro ⟨gens, holds, once, open_, all, -⟩
    exact ⟨⟨gens, holds⟩, once, open_, all⟩
  · rintro ⟨⟨gens, holds⟩, names⟩
    exact ⟨gens, holds, names.once, names.open_, names.all, names.length_le fun j hold open_ => (holds j hold open_).1⟩

/-! ### Opening and ending a hold -/

theorem State.openHold_holdSlot (s : State) (slot : Nat) (hold : Hold) :
    (s.openHold slot hold).holdSlot slot = { gen := (s.holdSlot slot).gen, hold := some hold, memory := none } ∧
      ∀ j, j ≠ slot → (s.openHold slot hold).holdSlot j = s.holdSlot j :=
  ⟨State.setHoldSlot_holdSlot_same .., fun _ hj => State.setHoldSlot_holdSlot_ne s slot _ hj⟩

theorem State.endHold_holdSlot (s : State) (slot gen : Nat) (cause : EndCause) :
    (s.endHold slot gen cause).holdSlot slot = { gen := (gen + 1) % 32, hold := none, memory := some (gen, cause) } ∧
      ∀ j, j ≠ slot → (s.endHold slot gen cause).holdSlot j = s.holdSlot j :=
  ⟨State.setHoldSlot_holdSlot_same .., fun _ hj => State.setHoldSlot_holdSlot_ne s slot _ hj⟩

theorem State.openHold_opened (s : State) {slot : Nat} (hold : Hold) (low : slot < 2048) (free : (s.holdSlot slot).hold = none) :
    HoldOpened s (s.openHold slot hold) slot hold :=
  ⟨low, free, congrArg HoldSlot.hold (s.openHold_holdSlot slot hold).1, (s.openHold_holdSlot slot hold).2⟩

theorem State.endHold_opened (s : State) {slot : Nat} {hold : Hold} (gen : Nat) (cause : EndCause) (low : slot < 2048)
    (filled : (s.holdSlot slot).hold = some hold) : HoldOpened (s.endHold slot gen cause) s slot hold :=
  ⟨low, congrArg HoldSlot.hold (s.endHold_holdSlot slot gen cause).1, filled,
    fun j hj => ((s.endHold_holdSlot slot gen cause).2 j hj).symm⟩

/-- A hold opens in a free slot and joins the expiry queue. -/
theorem State.holdsSound_openHold {s : State} (h : s.holdsSound) {slot : Nat} {hold : Hold} (low : slot < 2048)
    (free : (s.holdSlot slot).hold = none) (card : hold.card < s.cap) (amount : 0 < hold.amount)
    (mode : s.ledger.mode = .opened) : (s.openHold slot hold).holdsSound := by
  rw [State.holdsSound_iff] at h ⊢
  obtain ⟨⟨gens, holds⟩, names⟩ := h
  obtain ⟨here, there⟩ := s.openHold_holdSlot slot hold
  have elsewhere : ∀ it ∈ s.expiryQ ++ s.waiting, it.slot ≠ slot := fun it mem is => by
    obtain ⟨h, open_, -⟩ := names.open_ it mem
    rw [is, free] at open_
    cases open_
  refine ⟨⟨fun j => ?_, fun j h open_ => ?_⟩, NamesHolds.perm ?_ ((insertExpiry_perm _ _).append_right _)⟩
  · by_cases is : j = slot
    · rw [is, here]; exact gens slot
    · rw [there j is]; exact gens j
  · by_cases is : j = slot
    · subst is
      rw [here] at open_
      cases open_
      exact ⟨low, card, amount, mode⟩
    · rw [there j is] at open_
      exact holds j h open_
  · refine ⟨List.nodup_cons.mpr ⟨fun mem => ?_, names.once⟩, fun it mem => ?_, fun j h open_ => ?_⟩
    · obtain ⟨it, hit, is⟩ := List.mem_map.mp mem
      exact elsewhere it hit is
    · rcases List.mem_cons.mp mem with rfl | mem
      · exact ⟨hold, by rw [here], by rw [here], rfl⟩
      · rw [there it.slot (elsewhere it mem)]
        exact names.open_ it mem
    · by_cases is : j = slot
      · exact ⟨_, List.mem_cons_self, is.symm⟩
      · rw [there j is] at open_
        obtain ⟨it, mem, at_⟩ := names.all j h open_
        exact ⟨it, List.mem_cons_of_mem _ mem, at_⟩

/-- A hold ends and leaves the queue that names it. -/
theorem State.holdsSound_endHold {s : State} (h : s.holdsSound) (slot gen : Nat) (cause : EndCause) :
    (s.endHold slot gen cause).holdsSound := by
  rw [State.holdsSound_iff] at h ⊢
  obtain ⟨⟨gens, holds⟩, names⟩ := h
  obtain ⟨here, there⟩ := s.endHold_holdSlot slot gen cause
  have left : (s.endHold slot gen cause).expiryQ ++ (s.endHold slot gen cause).waiting =
      (s.expiryQ ++ s.waiting).filter fun it => decide (it.slot ≠ slot) := List.filter_append .. |>.symm
  rw [left]
  refine ⟨⟨fun j => ?_, fun j h open_ => ?_⟩, ?_, fun it mem => ?_, fun j h open_ => ?_⟩
  · by_cases is : j = slot
    · rw [is, here]; exact Nat.mod_lt _ (by decide)
    · rw [there j is]; exact gens j
  · by_cases is : j = slot
    · rw [is, here] at open_
      cases open_
    · rw [there j is] at open_
      exact holds j h open_
  · exact names.once.sublist (List.filter_sublist.map _)
  · obtain ⟨mem, ne⟩ := List.mem_filter.mp mem
    rw [there it.slot (of_decide_eq_true ne)]
    exact names.open_ it mem
  · by_cases is : j = slot
    · rw [is, here] at open_
      cases open_
    · rw [there j is] at open_
      obtain ⟨it, mem, at_⟩ := names.all j h open_
      exact ⟨it, List.mem_filter.mpr ⟨mem, decide_eq_true (at_ ▸ is)⟩, at_⟩

theorem State.freeHoldSlot_spec {s : State} {slot : Nat} (h : s.freeHoldSlot = some slot) :
    slot < 2048 ∧ (s.holdSlot slot).hold = none := by
  obtain ⟨-, low, free, -⟩ := firstFrom_spec _ _ _ _ h
  exact ⟨by simpa using low, by simpa using free⟩

/-- No open hold of a serial, as REWRITE_CARD looks for one (R68, R75). -/
theorem State.slotsOf_of_hasOpenHold {s : State} {serial : Nat} (h : s.hasOpenHold serial = false) : s.slotsOf serial = ∅ := by
  have none_ : ∀ t : Table HoldSlot, (t.any fun e => decide (e.2.hold.map Hold.card = some serial)) = false →
      ∀ j, ¬(Table.read HoldSlot.initial t j).hold.map Hold.card = some serial := by
    intro t
    induction t with
    | nil => exact fun _ _ => nofun
    | cons e t ih =>
      obtain ⟨k, v⟩ := e
      intro any j
      simp only [List.any_cons, Bool.or_eq_false_iff, decide_eq_false_iff_not] at any
      unfold Table.read
      split
      · exact any.1
      · exact ih any.2 j
  exact Finset.filter_eq_empty_iff.mpr fun j _ => none_ s.holds h j

end Sys2Proof.Machine
end

section
/-! PROOFS. The requests on a card and the expiry of a hold keep the cards sound. -/

namespace Sys2Proof.Machine

/-! ### A commit seen through the cards -/

@[simp] theorem State.addWindow_cardPart (s : State) (r : CaptureRecord) : (s.addWindow r).cardPart = s.cardPart := rfl

@[simp] theorem State.writeCard_card_same (s : State) (k : Nat) (r : CardRecord) :
    (s.writeCard k r).card k = { r with checkOk := true } := State.setCard_card_same ..

theorem State.writeCard_card_ne (s : State) {j k : Nat} (r : CardRecord) (h : j ≠ k) : (s.writeCard k r).card j = s.card j :=
  State.setCard_card_ne _ _ _ h

/-- A card written with the totals after it. -/
def State.putCard (s : State) (serial : Nat) (r : CardRecord) (totals : Totals) : State :=
  (s.writeCard serial r).setTotals totals

theorem State.putCard_cardPart {s s1 : State} (h : s1.cardPart = s.cardPart) (serial : Nat) (r : CardRecord) (totals : Totals) :
    (s1.putCard serial r totals).cardPart = (s.putCard serial r totals).cardPart := by
  have look : ∀ u : State, (u.cardPart.putCard serial r totals).cardPart = (u.putCard serial r totals).cardPart := fun _ => rfl
  rw [← look, h, look]

/-- A card written with the totals as they were. -/
theorem State.writeCard_cardPart {s s1 : State} (h : s1.cardPart = s.cardPart) (serial : Nat) (r : CardRecord) :
    (s1.writeCard serial r).cardPart = (s.putCard serial r s.store.totals).cardPart := by
  have look : ∀ u : State, (u.cardPart.putCard serial r u.cardPart.store.totals).cardPart = (u.writeCard serial r).cardPart :=
    fun _ => rfl
  rw [← look, h]
  rfl

theorem State.endHold_cardPart {s s1 : State} (h : s1.cardPart = s.cardPart) (slot gen : Nat) (cause : EndCause) :
    (s1.endHold slot gen cause).cardPart = (s.endHold slot gen cause).cardPart := by
  have look : ∀ u : State, (u.cardPart.endHold slot gen cause).cardPart = (u.endHold slot gen cause).cardPart := fun _ => rfl
  rw [← look, h, look]

theorem State.openHold_cardPart {s s1 : State} (h : s1.cardPart = s.cardPart) (slot : Nat) (hold : Hold) :
    (s1.openHold slot hold).cardPart = (s.openHold slot hold).cardPart := by
  have look : ∀ u : State, (u.cardPart.openHold slot hold).cardPart = (u.openHold slot hold).cardPart := fun _ => rfl
  rw [← look, h, look]

/-- One card written, its holds left alone. -/
theorem State.putCard_one (s : State) (serial : Nat) (r : CardRecord) (totals : Totals) :
    OneCard s (s.putCard serial r totals) serial where
  front := rfl
  cards _ hk := State.writeCard_card_ne s r hk
  listed _ _ h := h
  slots k _ := State.slotsOf_of_holds rfl k

/-! ### What is known of a sound card -/

theorem readSound_of_soundCard {s : State} {serial prog : Nat} {card : CardRecord} (sound : soundCard s serial prog card) :
    serial < s.cap ∧ readSound s serial := by
  obtain ⟨hm, hl, off, rfl, ok⟩ := sound
  obtain ⟨low, -, hr⟩ := State.rangeProgram_of_lookup hl
  exact ⟨low, hm, off, by rw [hr]; exact ok⟩

section
variable {s : State} (h : s.cardsSound)
include h

/-- A record read as sound by its range, off the fault list. -/
theorem State.cardsSound.at_read {serial : Nat} (low : serial < s.cap) (sound : readSound s serial) :
    s.heldAt serial ∧ (s.card serial).balance ≤ 2147483647 ∧
      ((s.card serial).state ∈ [.blank, .stock, .closed] → (s.card serial).balance = 0) := by
  obtain ⟨hm, off, ok⟩ := sound
  obtain ⟨mode, -, ⟨-, -, -, balances, -, empties⟩, held⟩ := h
  have is := (s.cardSound_iff serial).mpr ok
  exact ⟨held.at hm low is off, balances serial low, empties (mode.2.1 hm).1 serial low is⟩

/-- A sound card rewritten with the same holds. -/
theorem State.cardsSound.put {t : State} {serial : Nat} {r : CardRecord} {totals : Totals} (low : serial < s.cap)
    (sound : readSound s serial) (ht : t.cardPart = (s.putCard serial r totals).cardPart)
    (float : (r.balance = (s.card serial).balance ∧ totals.float = s.store.totals.float) ∨
      totals.float = totalAfter s.store.totals.float ((r.balance : Int) - ((s.card serial).balance : Int)))
    (balance : r.balance ≤ 2147483647) (held : r.held = (s.card serial).held) (count : r.holdCount = (s.card serial).holdCount)
    (cover : r.held ≤ r.balance)
    (empty : r.state ∈ [.blank, .stock, .closed] → r.balance = 0 ∧ r.holdCount = 0) : t.cardsSound := by
  refine State.cardsSound_of_cardPart ?_ ht
  obtain ⟨⟨isHeld, isCount, few, -⟩, -⟩ := h.at_read low sound
  have card : (s.putCard serial r totals).card serial = { r with checkOk := true } := State.writeCard_card_same ..
  obtain ⟨slots, amount⟩ := State.slotsOf_of_holds (s := s) (t := s.putCard serial r totals) rfl serial
  refine (s.putCard_one serial r totals).cardsSound h sound.1 (State.holdsSound_of_eq h.2.1 rfl rfl rfl rfl rfl) low ?_ ?_ ?_ ?_
  · unfold floatFollows
    rw [card]
    exact float
  · rw [card]; exact balance
  · rw [card]; exact fun _ state => (empty state).1
  · intro _ _
    unfold State.heldAt
    rw [card, slots, amount]
    exact ⟨held.trans isHeld, count.trans isCount, count.trans_le few, cover, fun state => (empty state).2⟩

/-- A fault is noted: nothing more is listed than the rule leaves out. -/
theorem State.cardsSound.noteFault (serial : Nat) : (s.noteFault serial).cardsSound := by
  have front := s.noteFault_frontPart serial
  have listed : ∀ k, k ∈ s.ledger.faults → k ∈ (s.noteFault serial).ledger.faults := fun k mem => by
    unfold State.noteFault
    split_ifs
    · exact mem
    · exact List.mem_append_left _ mem
    · exact mem
  obtain ⟨mode, holds, money, held⟩ := h
  have cards : ∀ k, (s.noteFault serial).card k = s.card k := s.noteFault_card serial
  have sounds : ∀ k, (s.noteFault serial).cardSound k ↔ s.cardSound k := fun k => by
    unfold State.cardSound
    rw [cards, State.rangeProgram_of_frontPart front]
  refine ⟨State.modeSound_of_frontPart mode front, State.holdsSound_of_eq holds (by simp) (by simp) (by simp)
    (State.cap_of_frontPart front) (State.mode_of_frontPart front), ?_, ?_, ?_⟩
  · unfold State.moneySound at money ⊢
    simp only [sounds]
    simpa only [State.noteFault_store, State.noteFault_card, State.noteFault_cap, State.noteFault_program] using money
  · intro hm k hk sound off
    rw [State.mode_of_frontPart front] at hm
    rw [State.cap_of_frontPart front] at hk
    have := held.1 hm k hk ((sounds k).mp sound) fun mem => off (listed k mem)
    obtain ⟨slots, amount⟩ := State.slotsOf_of_holds (s := s) (t := s.noteFault serial) (by simp) k
    rw [cards, slots, amount]
    exact this
  · intro hm signed k before hk sound off
    rw [State.mode_of_frontPart front] at hm
    rw [State.noteFault_store] at signed
    rw [State.noteFault_recovery] at before
    rw [State.cap_of_frontPart front] at hk
    rw [cards]
    exact held.2 hm signed k before hk ((sounds k).mp sound) fun mem => off (listed k mem)

end

/-! ### Declines and answers -/

theorem commit_cardPart {s s1 : State} {cls : ResClass} {n : Nat} (hr : s.reserve cls n = some s1) (serial : Nat) (r : CardRecord)
    (totals : Totals) (body : EntryBody) (effect : Option Effect) :
    (((s1.writeCard serial r).setTotals totals).post body effect).cardPart = (s.putCard serial r totals).cardPart :=
  (State.post_cardPart ..).trans (State.putCard_cardPart (State.reserve_cardPart hr) serial r totals)

theorem failedCard_state (r : CardRecord) : (failedCard r).state = .suspended ∨ (failedCard r).state = r.state := by
  unfold failedCard
  dsimp only
  split
  · exact .inl rfl
  · exact .inr rfl

section
variable {s t : State} (h : s.cardsSound)
include h

theorem State.cardsSound.declines (hd : Declines s t) : t.cardsSound := by
  cases hd with
  | kept => exact h
  | noted serial => exact h.noteFault serial
  | @failed s1 serial prog sound _ hr =>
    obtain ⟨low, read⟩ := readSound_of_soundCard sound
    obtain ⟨⟨-, -, -, cover, empties⟩, balance, empty⟩ := h.at_read low read
    refine h.put low read (r := failedCard (s.card serial)) (totals := s.store.totals) ?_ (.inl ⟨rfl, rfl⟩) balance rfl rfl cover
      fun state => ?_
    · exact (State.post_cardPart ..).trans (State.writeCard_cardPart (State.reserve_cardPart hr) serial _)
    · rcases failedCard_state (s.card serial) with is | is
      · rw [is] at state
        simp at state
      · rw [is] at state
        exact ⟨empty state, empties state⟩

theorem State.cardsSound.answers (ha : Answers s t) : t.cardsSound := by
  cases ha with
  | kept code data => exact cardsSound_ofCore.of_eq (State.answerOffice_core ..) h
  | noted serial expected code data =>
    exact cardsSound_ofCore.of_eq (State.answerOffice_core ..) (h.noteFault serial)

/-- An office commit on a sound card. -/
theorem State.cardsSound.officeCommits {serial prog : Nat} {r : CardRecord} {totals : Totals} {body : EntryBody}
    {effect : Option Effect} (hc : officeCommits s t serial r totals body effect)
    (sound : soundCard s serial prog (s.card serial))
    (float : (r.balance = (s.card serial).balance ∧ totals.float = s.store.totals.float) ∨
      totals.float = totalAfter s.store.totals.float ((r.balance : Int) - ((s.card serial).balance : Int)))
    (balance : r.balance ≤ 2147483647) (held : r.held = (s.card serial).held) (count : r.holdCount = (s.card serial).holdCount)
    (cover : r.held ≤ r.balance)
    (empty : r.state ∈ [.blank, .stock, .closed] → r.balance = 0 ∧ r.holdCount = 0) : t.cardsSound := by
  obtain ⟨s1, hr, rfl⟩ := hc
  obtain ⟨low, read⟩ := readSound_of_soundCard sound
  exact cardsSound_ofCore.done (h.put low read (commit_cardPart hr ..) float balance held count cover empty) _

end

end Sys2Proof.Machine
end

section
/-! PROOFS. Each request on a card keeps the cards sound. -/

namespace Sys2Proof.Machine

theorem Admitted.read {s : State} {rule : CardRule} {req : LaneReq} {shop prog : Nat} (adm : Admitted s rule req shop prog) :
    fieldAt req.body 3 3 < s.cap ∧ prog ≤ 7 ∧ readSound s (fieldAt req.body 3 3) := by
  obtain ⟨low, read⟩ := readSound_of_soundCard adm.sound
  obtain ⟨-, hl, -⟩ := adm.sound
  exact ⟨low, (State.rangeProgram_of_lookup hl).2.1, read⟩

/-- The states that may hold nothing are not ACTIVE. -/
theorem active_notEmpty {p : Prop} {st : CardState} (is : st = .active) (h : st ∈ [.blank, .stock, .closed]) : p := by
  rw [is] at h
  simp at h

section
variable {u : State} (h : u.cardsSound) (req : LaneReq)
include h

theorem decideActivate_cards : (decideActivate req u).1.cardsSound := by
  rcases decideActivate_cases req u with hd | ⟨shop, prog, s1, adm, -, limit, hr, e⟩
  · exact h.declines hd
  · obtain ⟨low, prog7, read⟩ := adm.read
    obtain ⟨at_, balance, empty⟩ := h.at_read low read
    have stock : (u.card (fieldAt req.body 3 3)).state = .stock := by
      have := adm.stateOk
      simp only [activateRule, Bool.and_eq_true, decide_eq_true_eq] at this
      exact this.1
    have zero := empty (by simp [stock])
    obtain ⟨-, -, -, -, none_⟩ := id at_
    have held := at_.zero (none_ (by simp [stock]))
    obtain ⟨-, -, ⟨-, limits, -⟩, -⟩ := id h
    rw [e]
    refine h.put low read (commit_cardPart hr ..) (.inr ?_) ?_ rfl rfl ?_ (active_notEmpty rfl)
    · refine congrArg (totalAfter _) ?_
      simp [activatedCard, zero]
    · exact limit.trans ((limits prog prog7).1.trans (by decide))
    · show (u.card _).held ≤ _
      rw [held]; exact Nat.zero_le _

theorem decideLoad_cards : (decideLoad req u).1.cardsSound := by
  rcases decideLoad_cases req u with hd | ⟨shop, prog, s1, adm, limit, hr, e⟩
  · exact h.declines hd
  · obtain ⟨low, prog7, read⟩ := adm.read
    obtain ⟨⟨-, -, -, cover, -⟩, balance, empty⟩ := h.at_read low read
    obtain ⟨-, -, ⟨-, limits, -⟩, -⟩ := id h
    rw [e]
    refine h.put low read (commit_cardPart hr ..) (.inr ?_) ?_ rfl rfl ?_
      (active_notEmpty (of_decide_eq_true adm.stateOk :))
    · refine congrArg (totalAfter _) ?_
      simp [loadedCard]
    · exact limit.trans ((limits prog prog7).1.trans (by decide))
    · exact cover.trans (Nat.le_add_right ..)

theorem decideRedeem_cards : (decideRedeem req u).1.cardsSound := by
  rcases decideRedeem_cases req u with hd | ⟨shop, prog, s1, amount, result, adm, approved, hr, e⟩
  · exact h.declines hd
  · obtain ⟨low, -, read⟩ := adm.read
    obtain ⟨⟨-, -, -, cover, -⟩, balance, empty⟩ := h.at_read low read
    obtain ⟨-, covered, -⟩ := approvedAmount_spec (adm.amount rfl).1 approved
    simp only [CardRecord.available] at covered
    rw [e]
    refine h.put low read ((State.post_cardPart ..).trans (State.putCard_cardPart (State.reserve_cardPart hr) _ _ _ :)) (.inr ?_)
      ((Nat.sub_le ..).trans balance) rfl rfl ?_ (active_notEmpty (of_decide_eq_true adm.stateOk :))
    · refine congrArg (totalAfter _) ?_
      simp only [redeemedCard]
      omega
    · simp only [redeemedCard]
      omega

theorem decideCashout_cards : (decideCashout req u).1.cardsSound := by
  rcases decideCashout_cases req u with hd | ⟨shop, prog, s1, adm, none_, -, -, hr, e⟩
  · exact h.declines hd
  · obtain ⟨low, -, read⟩ := adm.read
    obtain ⟨at_, balance, empty⟩ := h.at_read low read
    rw [e]
    refine h.put low read (commit_cardPart hr ..) (.inr ?_) (Nat.zero_le _) rfl rfl (at_.zero none_).le fun _ => ⟨rfl, none_⟩
    refine congrArg (totalAfter _) ?_
    simp [cashedCard]

theorem decideRefund_cards : (decideRefund req u).1.cardsSound := by
  rcases decideRefund_cases req u with hd | ⟨shop, s1, rec, -, -, low, read, -, -, checks, hr, e⟩
  · exact h.declines hd
  · obtain ⟨⟨-, -, -, cover, -⟩, balance, empty⟩ := h.at_read low read
    obtain ⟨-, -, state, -, limit⟩ := State.refundDecline_none checks
    rw [e]
    refine h.put low read
      ((State.post_cardPart { (s1.writeCard _ _).setTotals _ with store.window := _ } _ _).trans
        (State.putCard_cardPart (State.reserve_cardPart hr) _ _ _ :)) (.inr ?_) limit rfl rfl
      (cover.trans (Nat.le_add_right ..)) fun is => ?_
    · refine congrArg (totalAfter _) ?_
      simp [refundedCard]
    · rcases state with st | st
      · exact active_notEmpty st is
      · have is' : (u.card rec.card).state ∈ [CardState.blank, .stock, .closed] := is
        rw [st] at is'
        simp at is'

end

/-! ### Holds -/

/-- A card written whose hold opens or ends in the same commit. -/
theorem OneCard.of_hold {s t a b : State} {slot serial : Nat} {hold : Hold} {r : CardRecord} (moved : HoldOpened a b slot hold)
    (pair : (a = s ∧ b.holds = t.holds) ∨ (a.holds = t.holds ∧ b = s)) (is : hold.card = serial)
    (front : t.frontPart = s.frontPart) (faults : t.ledger.faults = s.ledger.faults)
    (cards : t.store.cards = (s.writeCard serial r).store.cards) : OneCard s t serial where
  front := front
  cards k hk := by
    have : t.card k = (s.writeCard serial r).card k := by
      unfold State.card
      rw [cards]
    rw [this]
    exact State.writeCard_card_ne s r hk
  listed k _ mem := faults ▸ mem
  slots k hk := by
    obtain ⟨slots, amount⟩ := moved.other (is ▸ hk)
    rcases pair with ⟨rfl, holds⟩ | ⟨holds, rfl⟩
    · obtain ⟨slots', amount'⟩ := State.slotsOf_of_holds holds.symm k
      exact ⟨slots'.trans slots, amount'.trans amount⟩
    · obtain ⟨slots', amount'⟩ := State.slotsOf_of_holds holds.symm k
      exact ⟨slots'.trans slots.symm, amount'.trans amount.symm⟩

section
variable {u : State} (h : u.cardsSound)
include h

/-- A hold ends and its card is written with the hold's amount and count taken off, and no more out of its balance than the hold
covered. -/
theorem State.cardsSound.endHold {t : State} {slot gen : Nat} {cause : EndCause} {hold : Hold} {r : CardRecord} {totals : Totals}
    (filled : (u.holdSlot slot).hold = some hold) (read : readSound u hold.card)
    (ht : t.cardPart = ((u.endHold slot gen cause).putCard hold.card r totals).cardPart)
    (float : (r.balance = (u.card hold.card).balance ∧ totals.float = u.store.totals.float) ∨
      totals.float = totalAfter u.store.totals.float ((r.balance : Int) - ((u.card hold.card).balance : Int)))
    (held : r.held = (u.card hold.card).held - hold.amount) (count : r.holdCount = (u.card hold.card).holdCount - 1)
    (less : r.balance ≤ (u.card hold.card).balance) (cover : (u.card hold.card).balance ≤ r.balance + hold.amount)
    (state : r.state = (u.card hold.card).state) : t.cardsSound := by
  refine State.cardsSound_of_cardPart ?_ ht
  obtain ⟨low2048, low, -, -⟩ := h.2.1.2.1 slot hold filled
  obtain ⟨⟨isHeld, isCount, few, covered, none_⟩, balance, empty⟩ := h.at_read low read
  have moved := u.endHold_opened gen cause low2048 filled
  obtain ⟨count', amount'⟩ := moved.own
  have card : ((u.endHold slot gen cause).putCard hold.card r totals).card hold.card = { r with checkOk := true } :=
    State.writeCard_card_same ..
  have one : OneCard u ((u.endHold slot gen cause).putCard hold.card r totals) hold.card :=
    OneCard.of_hold (r := r) moved (.inr ⟨rfl, rfl⟩) rfl rfl rfl rfl
  refine one.cardsSound h read.1 (State.holdsSound_of_eq (State.holdsSound_endHold h.2.1 slot gen cause) rfl rfl rfl rfl rfl) low
    ?_ ?_ ?_ ?_
  · unfold floatFollows
    rw [card]
    exact float
  · rw [card]; exact less.trans balance
  · rw [card]
    intro _ is
    have is' : r.state ∈ [CardState.blank, .stock, .closed] := is
    rw [state] at is'
    have := empty is'
    show r.balance = 0
    omega
  · intro _ _
    unfold State.heldAt
    rw [card]
    obtain ⟨slots, amount⟩ :=
      State.slotsOf_of_holds (s := u.endHold slot gen cause) (t := (u.endHold slot gen cause).putCard hold.card r totals) rfl
        hold.card
    rw [slots, amount]
    show r.held = _ ∧ r.holdCount = _ ∧ r.holdCount ≤ 8 ∧ r.held ≤ r.balance ∧ (r.state ∈ _ → r.holdCount = 0)
    refine ⟨by omega, by omega, by omega, by omega, fun is => ?_⟩
    rw [state] at is
    have := none_ is
    omega

/-- A hold ends and leaves the record of a card that is listed or faults as it is. -/
theorem State.cardsSound.endHoldAlone {t : State} {slot gen : Nat} {cause : EndCause} {hold : Hold}
    (filled : (u.holdSlot slot).hold = some hold) (hm : u.ledger.mode = .opened)
    (unread : u.cardSound hold.card → hold.card ∈ u.ledger.faults)
    (ht : t.cardPart = (u.endHold slot gen cause).cardPart) : t.cardsSound := by
  refine State.cardsSound_of_cardPart ?_ ht
  obtain ⟨low2048, low, -, -⟩ := h.2.1.2.1 slot hold filled
  obtain ⟨mode, -, ⟨-, -, -, balances, -, empties⟩, -⟩ := id h
  have moved := u.endHold_opened gen cause low2048 filled
  have one : OneCard u (u.endHold slot gen cause) hold.card :=
    { front := rfl
      cards := fun _ _ => rfl
      listed := fun _ _ mem => mem
      slots := fun k hk => ⟨(moved.other hk).1.symm, (moved.other hk).2.symm⟩ }
  exact one.cardsSound h hm (State.holdsSound_endHold h.2.1 slot gen cause) low (.inl ⟨rfl, rfl⟩) (balances _ low)
    (empties (mode.2.1 hm).1 _ low) fun sound off => absurd (unread sound) off

theorem decideCapture_cards (req : LaneReq) : (decideCapture req u).1.cardsSound := by
  rcases decideCapture_cases req u with hd | ⟨s1, slot, gen, hold, -, resolved, read, -, -, within_, hr, e⟩
  · exact h.declines hd
  · obtain ⟨-, -, filled, -⟩ := State.resolveHold_active resolved
    obtain ⟨low2048, low, -, -⟩ := h.2.1.2.1 slot hold filled
    obtain ⟨⟨isHeld, -, -, covered, -⟩, -⟩ := h.at_read low read
    obtain ⟨-, amount'⟩ := (u.endHold_opened gen .captured low2048 filled).own
    rw [e]
    refine h.endHold filled read ((State.post_cardPart ..).trans (State.putCard_cardPart
      (State.endHold_cardPart (State.reserve_cardPart hr) slot gen .captured) _ _ _ :)) (.inr ?_) rfl rfl (Nat.sub_le ..) ?_ rfl
    · refine congrArg (totalAfter _) ?_
      simp only [capturedCard]
      omega
    · simp only [capturedCard]
      omega

theorem decideVoid_cards (req : LaneReq) : (decideVoid req u).1.cardsSound := by
  rcases decideVoid_cases req u with hd | ⟨s1, slot, gen, hold, -, resolved, read, hr, e⟩
  · exact h.declines hd
  · obtain ⟨-, -, filled, -⟩ := State.resolveHold_active resolved
    rw [e]
    exact h.endHold filled read ((State.post_cardPart ..).trans (State.writeCard_cardPart
      (State.endHold_cardPart (State.reserve_cardPart hr) slot gen .voided) _ _)) (.inl ⟨rfl, rfl⟩) rfl rfl (le_refl _)
      (Nat.le_add_right ..) rfl

/-- AUTHORIZE: the hold opens in a free slot and its amount is held. -/
theorem decideAuthorize_cards (req : LaneReq) : (decideAuthorize req u).1.cardsSound := by
  rcases decideAuthorize_cases req u with hd | ⟨shop, prog, s1, slot, amount, result, adm, room, slotFree, approved, hr, e⟩
  · exact h.declines hd
  · obtain ⟨low, prog7, read⟩ := adm.read
    obtain ⟨⟨isHeld, isCount, few, cover, -⟩, balance, empty⟩ := h.at_read low read
    obtain ⟨low2048, free⟩ := State.freeHoldSlot_spec slotFree
    obtain ⟨positive, covered, -⟩ := approvedAmount_spec (adm.amount rfl).1 approved
    simp only [CardRecord.available] at covered
    obtain ⟨-, -, ⟨-, limits, -⟩, -⟩ := id h
    have most := (limits prog prog7).2
    have active : (u.card (fieldAt req.body 3 3)).state = .active := of_decide_eq_true adm.stateOk
    rw [e]
    dsimp only
    generalize authorized : Hold.mk .. = hold
    have is : hold.card = fieldAt req.body 3 3 := by rw [← authorized]
    have holds : hold.amount = amount := by rw [← authorized]
    have record : ∃ r, authorizedCard (u.card (fieldAt req.body 3 3)) amount u.ledger.period = r ∧
        r.held = (u.card (fieldAt req.body 3 3)).held + amount ∧
        r.holdCount = (u.card (fieldAt req.body 3 3)).holdCount + 1 ∧
        r.balance = (u.card (fieldAt req.body 3 3)).balance ∧ r.state = .active := ⟨_, rfl, rfl, rfl, rfl, active⟩
    obtain ⟨r, written, held, count, balance', state⟩ := record
    rw [written]
    refine State.cardsSound_of_cardPart (s := (u.openHold slot hold).putCard (fieldAt req.body 3 3) r u.store.totals) ?_
      ((State.post_cardPart ..).trans (State.writeCard_cardPart
        (State.openHold_cardPart (State.reserve_cardPart hr) slot hold) _ _))
    have moved := u.openHold_opened hold low2048 free
    obtain ⟨count', amount'⟩ := moved.own
    rw [is] at count' amount'
    have card : ((u.openHold slot hold).putCard (fieldAt req.body 3 3) r u.store.totals).card (fieldAt req.body 3 3) =
      { r with checkOk := true } := State.writeCard_card_same ..
    have one : OneCard u ((u.openHold slot hold).putCard (fieldAt req.body 3 3) r u.store.totals) (fieldAt req.body 3 3) :=
      OneCard.of_hold (r := r) moved (.inl ⟨rfl, rfl⟩) is rfl rfl rfl
    have sound : (u.openHold slot hold).holdsSound :=
      State.holdsSound_openHold h.2.1 low2048 free (is ▸ low) (holds ▸ positive) read.1
    refine one.cardsSound h read.1 (State.holdsSound_of_eq sound rfl rfl rfl rfl rfl) low ?_ ?_ ?_ ?_
    · unfold floatFollows
      rw [card]
      exact .inl ⟨balance', rfl⟩
    · rw [card]; exact balance'.trans_le balance
    · rw [card]; exact fun _ => active_notEmpty state
    · intro _ _
      unfold State.heldAt
      rw [card]
      obtain ⟨slots, total⟩ :=
        State.slotsOf_of_holds (s := u.openHold slot hold)
          (t := (u.openHold slot hold).putCard (fieldAt req.body 3 3) r u.store.totals) rfl (fieldAt req.body 3 3)
      rw [slots, total]
      show r.held = _ ∧ r.holdCount = _ ∧ r.holdCount ≤ 8 ∧ r.held ≤ r.balance ∧ (r.state ∈ _ → r.holdCount = 0)
      exact ⟨by omega, by omega, by omega, by omega, active_notEmpty state⟩

omit h in
theorem State.cardSound_of_cardPart {s t : State} (hv : t.cardPart = s.cardPart) (k : Nat) : t.cardSound k ↔ s.cardSound k := by
  have look : ∀ v : State, v.cardPart.cardSound k ↔ v.cardSound k := fun _ => Iff.rfl
  rw [← look t, hv, look]

omit h in
theorem State.noteFault_cardSound (s : State) (serial k : Nat) : (s.noteFault serial).cardSound k ↔ s.cardSound k := by
  unfold State.cardSound
  rw [State.noteFault_card, State.rangeProgram_of_frontPart (s.noteFault_frontPart serial)]

/-- An expiry request of the waiting list names an open hold, so it is never stale here; its hold ends (R78, R79). -/
theorem State.expire_cards {it : ExpiryItem} (waits : it ∈ u.waiting) : (u.expire it).cardsSound := by
  obtain ⟨gens, holds, -, names, -⟩ := id h.2.1
  obtain ⟨hold, filled, isGen, -⟩ := names it (List.mem_append_right _ waits)
  have gen32 := gens it.slot
  have slot_eq : holdRefOf it.slot it.gen / 32 = it.slot := by unfold holdRefOf; omega
  have gen_eq : holdRefOf it.slot it.gen % 32 = it.gen := by unfold holdRefOf; omega
  have resolved : u.resolveHold (holdRefOf it.slot it.gen) = .active it.slot it.gen hold := by
    unfold State.resolveHold
    simp only [slot_eq, gen_eq, filled, isGen, if_true]
  obtain ⟨-, low, -, hm⟩ := holds it.slot hold filled
  rcases u.expire_cases it with ⟨stale, -⟩ | ⟨slot, gen, hold', resolved', ending⟩
  · exact absurd resolved (stale _ _ _)
  · rw [resolved] at resolved'
    cases resolved'
    rcases ending with ⟨-, e⟩ | ⟨s1, hr, ⟨listed, e⟩ | ⟨off, bad, e⟩ | ⟨off, ok, e⟩⟩ <;> rw [e]
    · exact h
    · exact h.endHoldAlone filled hm (fun _ => listed)
        ((State.post_cardPart ..).trans (State.endHold_cardPart (State.reserve_cardPart hr) it.slot it.gen .expired))
    · have same := State.reserve_cardPart hr
      have notSound : ¬u.cardSound hold.card := fun sound => by
        rw [State.cardSound_iff, bad] at sound
        cases sound
      refine ((State.cardsSound_of_cardPart h same).noteFault hold.card).endHoldAlone (slot := it.slot) (gen := it.gen)
        (cause := .expired) (hold := hold) ?_ ?_ (fun sound => absurd ?_ notSound) (State.post_cardPart ..)
      · rw [State.noteFault_holdSlot]
        exact (congrArg (fun v : State => (v.holdSlot it.slot).hold) same :).trans filled
      · rw [State.mode_of_frontPart (s1.noteFault_frontPart hold.card)]
        exact (congrArg (fun v : State => v.ledger.mode) same :).trans hm
      · exact (State.cardSound_of_cardPart same _).mp ((s1.noteFault_cardSound _ _).mp sound)
    · exact h.endHold filled ⟨hm, off, ok⟩ ((State.post_cardPart ..).trans (State.writeCard_cardPart
        (State.endHold_cardPart (State.reserve_cardPart hr) it.slot it.gen .expired) _ _)) (.inl ⟨rfl, rfl⟩) rfl rfl (le_refl _)
        (Nat.le_add_right ..) rfl

end

end Sys2Proof.Machine
end

section
/-! PROOFS. The office's requests on a card keep the cards sound. -/

namespace Sys2Proof.Machine

/-- The float after an adjustment follows the difference (R60, R67, R68). -/
theorem Totals.adjust_float (t : Totals) (d : Int) : (d = 0 ∧ (t.adjust d).float = t.float) ∨ (t.adjust d).float = totalAfter t.float d := by
  unfold Totals.adjust
  split
  · exact .inr rfl
  · split
    · exact .inr rfl
    · exact .inl ⟨by omega, rfl⟩

/-- An adjustment within the limits of R67 moves the balance by its change and keeps it above the held amount. -/
theorem adjustedCard_balance {c : CardRecord} {d : AdjustDirection} {amount : Nat} (cover : c.held ≤ c.balance)
    (credit : d = .credit → c.balance + amount ≤ 2147483647) (debit : d = .debit → amount ≤ c.available)
    (range : c.balance ≤ 2147483647) :
    ((adjustedCard c d amount).balance : Int) - c.balance = adjustChange d amount ∧
      (adjustedCard c d amount).balance ≤ 2147483647 ∧ c.held ≤ (adjustedCard c d amount).balance := by
  cases d with
  | credit =>
    have := credit rfl
    simp only [adjustedCard, adjustChange, if_true]
    omega
  | debit =>
    have := debit rfl
    simp only [CardRecord.available] at this
    simp only [adjustedCard, adjustChange, reduceCtorEq, if_false]
    omega

/-- A serial taken off the fault list. -/
def State.unlist (s : State) (serial : Nat) : State :=
  { s with ledger.faults := s.ledger.faults.filter fun x => decide (x ≠ serial) }

theorem State.unlist_cardPart {s t : State} (h : t.cardPart = s.cardPart) (serial : Nat) :
    (t.unlist serial).cardPart = (s.unlist serial).cardPart := by
  have look : ∀ v : State, (v.cardPart.unlist serial).cardPart = (v.unlist serial).cardPart := fun _ => rfl
  rw [← look, h, look]

/-- One card written and its serial taken off the fault list. -/
theorem State.unlist_one (s : State) (serial : Nat) (r : CardRecord) (totals : Totals) :
    OneCard s ((s.putCard serial r totals).unlist serial) serial where
  front := rfl
  cards _ hk := State.writeCard_card_ne s r hk
  listed _ hk mem := List.mem_filter.mpr ⟨mem, decide_eq_true hk⟩
  slots k _ := State.slotsOf_of_holds rfl k

section
variable {u : State} (h : u.cardsSound) (b : List Byte)
include h

theorem serveProvision_cards : (serveProvision b u).cardsSound := by
  rcases serveProvision_cases b u with ha | ⟨prog, sound, blank, -, hc⟩
  · exact h.answers ha
  · obtain ⟨low, read⟩ := readSound_of_soundCard sound
    obtain ⟨at_, balance, empty⟩ := h.at_read low read
    obtain ⟨-, -, -, -, none_⟩ := id at_
    have count := none_ (by simp [blank])
    exact h.officeCommits hc sound (.inl ⟨(empty (by simp [blank])).symm, rfl⟩) (Nat.zero_le _) (at_.zero count).symm count.symm
      (Nat.zero_le _) fun _ => ⟨rfl, rfl⟩

theorem serveSuspend_cards : (serveSuspend b u).cardsSound := by
  rcases serveSuspend_cases b u with ha | ⟨prog, sound, -, hc⟩
  · exact h.answers ha
  · obtain ⟨low, read⟩ := readSound_of_soundCard sound
    obtain ⟨⟨-, -, -, cover, -⟩, balance, -⟩ := h.at_read low read
    exact h.officeCommits hc sound (.inl ⟨rfl, rfl⟩) balance rfl rfl cover fun state => by
      simp [suspendedCard] at state

theorem serveResume_cards : (serveResume b u).cardsSound := by
  rcases serveResume_cases b u with ha | ⟨prog, sound, -, hc⟩
  · exact h.answers ha
  · obtain ⟨low, read⟩ := readSound_of_soundCard sound
    obtain ⟨⟨-, -, -, cover, none_⟩, balance, empty⟩ := h.at_read low read
    refine h.officeCommits hc sound (.inl ⟨rfl, rfl⟩) balance rfl rfl cover fun state => ?_
    by_cases is : (u.card (fieldAt b 2 3)).state = .suspended
    · simp [resumedCard, is] at state
    · have same : (resumedCard (u.card (fieldAt b 2 3))).state = (u.card (fieldAt b 2 3)).state := if_neg is
      rw [same] at state
      exact ⟨empty state, none_ state⟩

theorem serveCloseCard_cards : (serveCloseCard b u).cardsSound := by
  rcases serveCloseCard_cases b u with ha | ⟨prog, -, sound, -, -, count, hc⟩
  · exact h.answers ha
  · obtain ⟨low, read⟩ := readSound_of_soundCard sound
    obtain ⟨at_, balance, -⟩ := h.at_read low read
    refine h.officeCommits hc sound ?_ (Nat.zero_le _) rfl rfl (at_.zero count).le fun _ => ⟨rfl, count⟩
    by_cases zero : (u.card (fieldAt b 2 3)).balance = 0
    · exact .inl ⟨zero.symm, by rw [if_pos zero]⟩
    · refine .inr ?_
      rw [if_neg zero]
      refine congrArg (totalAfter _) ?_
      simp [closedCard]

theorem serveAdjust_cards : (serveAdjust b u).cardsSound := by
  rcases serveAdjust_cases b u with ha | ⟨prog, d, sound, -, positive, -, state, credit, debit, hc⟩
  · exact h.answers ha
  · obtain ⟨low, read⟩ := readSound_of_soundCard sound
    obtain ⟨⟨-, -, -, cover, -⟩, balance, -⟩ := h.at_read low read
    obtain ⟨change, most, least⟩ := adjustedCard_balance cover credit debit balance
    refine h.officeCommits hc sound ?_ most rfl rfl least fun is => ?_
    · rcases Totals.adjust_float u.store.totals (adjustChange d (fieldAt b 6 4)) with ⟨zero, total⟩ | total
      · exact .inl ⟨by omega, total⟩
      · exact .inr (by rw [change]; exact total)
    · have is' : (u.card (fieldAt b 2 3)).state ∈ [CardState.blank, .stock, .closed] := is
      rcases state with st | st
      · exact active_notEmpty st is'
      · rw [st] at is'
        simp at is'

/-- REWRITE_CARD makes a sound record without holds, whatever stood there (R68). -/
theorem serveRewriteCard_cards : (serveRewriteCard b u).cardsSound := by
  rcases serveRewriteCard_cases b u with ha | ⟨prog, r, s1, s2, hm, hl, hs1, noHold, supplied, good, -, hr, e⟩
  · exact h.answers ha
  · obtain ⟨low, -, range⟩ := State.rangeProgram_of_lookup hl
    have front1 : s1.cardsSound ∧ s1.frontPart = u.frontPart ∧ s1.store = u.store := by
      rcases hs1 with ⟨-, rfl⟩ | ⟨-, -, rfl⟩
      · exact ⟨h, rfl, rfl⟩
      · exact ⟨h.noteFault _, u.noteFault_frontPart _, u.noteFault_store _⟩
    obtain ⟨sound1, front1, store1⟩ := front1
    have card1 : s1.card (fieldAt b 2 3) = u.card (fieldAt b 2 3) := by unfold State.card; rw [store1]
    have fields : r.held = 0 ∧ r.holdCount = 0 := by
      unfold rewriteOfBody at supplied
      split at supplied
      · cases supplied; exact ⟨rfl, rfl⟩
      · cases supplied
    obtain ⟨-, -, empty, most, -⟩ := (rewriteBad_eq_false_iff r prog).mp good
    rw [e]
    refine cardsSound_ofCore.done ?_ _
    dsimp only
    have record : ∃ c : CardRecord, { r with seq := nextCardSeq r.seq } = c ∧ c.held = 0 ∧ c.holdCount = 0 ∧
        c.balance = r.balance ∧ c.state = r.state := ⟨_, rfl, fields.1, fields.2, rfl, rfl⟩
    obtain ⟨c, written, held, count, balance, state⟩ := record
    rw [written]
    have total := Totals.adjust_float u.store.totals ((r.balance : Int) - ((u.card (fieldAt b 2 3)).balance : Int))
    generalize u.store.totals.adjust ((r.balance : Int) - ((u.card (fieldAt b 2 3)).balance : Int)) = totals at *
    refine State.cardsSound_of_cardPart (s := (s1.putCard (fieldAt b 2 3) c totals).unlist (fieldAt b 2 3)) ?_
      (State.unlist_cardPart (commit_cardPart hr ..) _)
    have card : ((s1.putCard (fieldAt b 2 3) c totals).unlist (fieldAt b 2 3)).card (fieldAt b 2 3) =
      { c with checkOk := true } := State.writeCard_card_same ..
    have holds := State.holdsSound_of_eq (t := (s1.putCard (fieldAt b 2 3) c totals).unlist (fieldAt b 2 3)) sound1.2.1
      rfl rfl rfl rfl rfl
    refine (s1.unlist_one (fieldAt b 2 3) c totals).cardsSound sound1 ((State.mode_of_frontPart front1).trans hm) holds
      ((State.cap_of_frontPart front1) ▸ low) ?_ ?_ ?_ ?_
    · unfold floatFollows
      rw [card, card1]
      show (c.balance = _ ∧ totals.float = s1.store.totals.float) ∨ totals.float = totalAfter s1.store.totals.float _
      rw [store1, balance]
      exact total.imp_left fun ⟨zero, same⟩ => ⟨by omega, same⟩
    · rw [card]; exact balance.trans_le most
    · rw [card]
      intro _ is
      have is' : c.state ∈ [CardState.blank, .stock, .closed] := is
      rw [state] at is'
      exact balance.trans (empty (by simpa using is'))
    · intro _ _
      unfold State.heldAt
      rw [card]
      have none_ : ((s1.putCard (fieldAt b 2 3) c totals).unlist (fieldAt b 2 3)).slotsOf (fieldAt b 2 3) = ∅ :=
        State.slotsOf_of_hasOpenHold noHold
      unfold State.heldOn
      rw [none_, Finset.sum_empty, Finset.card_empty]
      exact ⟨held, count, count.le.trans (Nat.zero_le _), held.le.trans (Nat.zero_le _), fun _ => count⟩

end

end Sys2Proof.Machine
end

section
/-! PROOFS. Resets, recovery, the program table and the ledger as a whole keep the cards sound; every step does. -/

namespace Sys2Proof.Machine

/-! ### What differs only above or beside the cards -/

/-- No hold is open and nothing waits to expire. -/
theorem State.holdsSound_of_empty {s : State} (holds : s.holds = []) (queue : s.expiryQ = []) (waiting : s.waiting = []) :
    s.holdsSound := by
  unfold State.holdsSound State.holdSlot
  rw [holds, queue, waiting]
  exact ⟨fun _ => by show 0 < 32; decide, nofun, List.nodup_nil, nofun, nofun, Nat.zero_le _⟩

/-- A reset empties the holds and begins recovery; the store stays (R46, R71). -/
theorem resetChip_cards {s : State} (h : s.cardsSound) (cause : ResetCause) (pfw : Bool) :
    (resetChip cause s.cap pfw s).cardsSound := by
  obtain ⟨⟨period, -⟩, -, money, -⟩ := h
  exact ⟨⟨period, nofun, nofun, nofun⟩, State.holdsSound_of_empty rfl rfl rfl, money, nofun,
    fun _ _ k before => absurd before (Nat.not_lt_zero k)⟩

theorem execPfwAssert_cards {s : State} (h : s.cardsSound) : nextAll State.cardsSound (exec .pfwAssert s) := by
  obtain ⟨m, hm, e⟩ := execPfwAssert_spec s
  have sound : m.cardsSound := by
    rcases hm with rfl | rfl
    · exact h
    · exact State.cardsSound_of_cardPart h s.rollInHand_cardPart
  rw [e]
  obtain ⟨⟨period, opened, -, close⟩, holds, money, held⟩ := sound
  exact ⟨⟨period, opened, nofun, close⟩, holds, money, held⟩

theorem NamesHolds.of_holds {s t : State} {items : List ExpiryItem} (h : NamesHolds s items) (holds : t.holds = s.holds) :
    NamesHolds t items := by
  have same : ∀ j, t.holdSlot j = s.holdSlot j := fun j => by unfold State.holdSlot; rw [holds]
  exact ⟨h.once, fun it mem => by rw [same]; exact h.open_ it mem, fun j hold open_ => h.all j hold (by rw [← same]; exact open_)⟩

/-- The compare moves the head of the expiry queue to the waiting requests (R77). -/
theorem execHoldDeadlineReached_cards {s : State} (h : s.cardsSound) : nextAll State.cardsSound (exec .holdDeadlineReached s) := by
  show nextAll _ (execHoldDeadlineReached s)
  unfold execHoldDeadlineReached
  split
  · next it rest queue =>
    split
    · obtain ⟨mode, holds, money, held⟩ := h
      refine ⟨mode, ?_, money, held⟩
      rw [State.holdsSound_iff] at holds ⊢
      refine ⟨holds.1, (NamesHolds.of_holds (s := s) ?_ rfl)⟩
      refine holds.2.perm ?_
      rw [queue]
      show (rest ++ (s.waiting ++ [it])).Perm (it :: (rest ++ s.waiting))
      rw [← List.append_assoc]
      exact List.perm_append_singleton it (rest ++ s.waiting)
    · exact h
  · exact h

/-! ### The card pass (R46) -/

theorem State.cardPass_spec (s : State) (serial : Nat) :
    (faulty (s.card serial) (s.rangeProgram serial) = true ∧ s.cardPass serial = s.noteFault serial) ∨
    (faulty (s.card serial) (s.rangeProgram serial) = false ∧ (s.card serial).held = 0 ∧ (s.card serial).holdCount = 0 ∧
      s.cardPass serial = s) ∨
    (faulty (s.card serial) (s.rangeProgram serial) = false ∧
      (s.cardPass serial).cardPart =
        (s.putCard serial { s.card serial with held := 0, holdCount := 0 } s.store.totals).cardPart) := by
  unfold State.cardPass
  dsimp only
  split_ifs with bad some_
  · exact .inl ⟨bad, rfl⟩
  · exact .inr (.inr ⟨by simpa using bad, rfl⟩)
  · simp only [not_or, not_not] at some_
    exact .inr (.inl ⟨by simpa using bad, some_.1, some_.2, rfl⟩)

/-- The cursor moves on over the serial just read. -/
def State.passOn (s : State) (cursor : Nat) : State := { s with recovery.cardCursor := cursor }

theorem State.passOn_cardPart {s t : State} (h : t.cardPart = s.cardPart) (cursor : Nat) :
    (t.passOn cursor).cardPart = (s.passOn cursor).cardPart := by
  have look : ∀ v : State, (v.cardPart.passOn cursor).cardPart = (v.passOn cursor).cardPart := fun _ => rfl
  rw [← look, h, look]

/-- The pass may count one serial more as passed when its record holds nothing. -/
theorem State.cardsSound.passed {s : State} {cursor : Nat} (h : s.cardsSound) (here : s.recovery.cardCursor = cursor)
    (own : s.cardSound cursor → cursor ∉ s.ledger.faults → (s.card cursor).held = 0 ∧ (s.card cursor).holdCount = 0) :
    (s.passOn (cursor + 1)).cardsSound := by
  subst here
  obtain ⟨mode, holds, money, opened, passed⟩ := h
  refine ⟨mode, holds, money, opened, fun hm signed k before hk sound off => ?_⟩
  have before' : k < s.recovery.cardCursor + 1 := before
  by_cases is : k = s.recovery.cardCursor
  · subst is; exact own sound off
  · exact passed hm signed k (by omega) hk sound off

/-- A sound record loses its held amounts while the ledger recovers. -/
theorem State.cardsSound.release {s : State} (h : s.cardsSound) (hm : s.ledger.mode = .recovering) {serial : Nat}
    (ok : (s.card serial).checkOk = true) :
    (s.putCard serial { s.card serial with held := 0, holdCount := 0 } s.store.totals).cardsSound := by
  have written : ∃ t, s.putCard serial { s.card serial with held := 0, holdCount := 0 } s.store.totals = t ∧
      t.frontPart = s.frontPart ∧ t.recovery = s.recovery ∧ t.ledger = s.ledger ∧ t.store.totals = s.store.totals ∧
      t.holds = s.holds ∧ t.expiryQ = s.expiryQ ∧ t.waiting = s.waiting ∧ (∀ k, k ≠ serial → t.card k = s.card k) ∧
      t.card serial = { s.card serial with held := 0, holdCount := 0 } := by
    refine ⟨_, rfl, rfl, rfl, rfl, rfl, rfl, rfl, rfl, fun k hk => State.writeCard_card_ne s _ hk, ?_⟩
    exact (State.writeCard_card_same s serial _).trans (by rw [← ok])
  obtain ⟨t, e, front, recovery, ledger, totals, holds, queue, waiting, others, own⟩ := written
  rw [e]
  have fields : ∀ k, (t.card k).checkOk = (s.card k).checkOk ∧ (t.card k).state = (s.card k).state ∧
      (t.card k).program = (s.card k).program ∧ (t.card k).balance = (s.card k).balance ∧
      (((t.card k).held = (s.card k).held ∧ (t.card k).holdCount = (s.card k).holdCount) ∨
        ((t.card k).held = 0 ∧ (t.card k).holdCount = 0)) := fun k => by
    by_cases is : k = serial
    · subst is
      rw [own]
      exact ⟨rfl, rfl, rfl, rfl, .inr ⟨rfl, rfl⟩⟩
    · rw [others k is]
      exact ⟨rfl, rfl, rfl, rfl, .inl ⟨rfl, rfl⟩⟩
  have sounds : ∀ k, t.cardSound k ↔ s.cardSound k := fun k => by
    obtain ⟨check, state, program, -⟩ := fields k
    unfold State.cardSound
    rw [check, state, program, State.rangeProgram_of_frontPart front]
  have cap := State.cap_of_frontPart front
  have signature := State.signature_of_frontPart front
  obtain ⟨mode, holds', ⟨bound, limits, sum, balances, fresh, empties⟩, -, passed⟩ := h
  refine ⟨State.modeSound_of_frontPart mode front,
    State.holdsSound_of_eq holds' holds queue waiting cap (State.mode_of_frontPart front), ⟨?_, ?_, ?_, ?_, ?_, ?_⟩, ?_, ?_⟩
  · rw [cap]; exact bound
  · exact fun k hk => by rw [State.program_of_frontPart front]; exact limits k hk
  · rw [totals, cap, sum]
    exact Finset.sum_congr rfl fun k _ => (fields k).2.2.2.1.symm
  · intro k hk
    rw [cap] at hk
    exact (fields k).2.2.2.1.trans_le (balances k hk)
  · intro signed zero k hk
    rw [signature] at signed
    rw [State.periodWord_of_frontPart front] at zero
    rw [cap] at hk
    obtain ⟨balance, held, count⟩ := fresh signed zero k hk
    obtain ⟨-, -, -, balance', amounts⟩ := fields k
    rcases amounts with ⟨held', count'⟩ | ⟨held', count'⟩
    · exact ⟨balance'.trans balance, held'.trans held, count'.trans count⟩
    · exact ⟨balance'.trans balance, held', count'⟩
  · intro signed k hk sound state
    rw [signature] at signed
    rw [cap] at hk
    obtain ⟨-, state', -, balance', -⟩ := fields k
    rw [state'] at state
    exact balance'.trans (empties signed k hk ((sounds k).mp sound) state)
  · intro opened
    rw [ledger, hm] at opened
    cases opened
  · intro _ signed k before hk sound off
    rw [signature] at signed
    rw [recovery] at before
    rw [cap] at hk
    rw [ledger] at off
    obtain ⟨held, count⟩ := passed hm signed k before hk ((sounds k).mp sound) off
    obtain ⟨-, -, -, -, amounts⟩ := fields k
    rcases amounts with ⟨held', count'⟩ | ⟨held', count'⟩
    · exact ⟨held'.trans held, count'.trans count⟩
    · exact ⟨held', count'⟩

theorem execCardPassRecord_cards {s : State} (h : s.cardsSound) : nextAll State.cardsSound (exec .cardPassRecord s) := by
  show nextAll _ (execCardPassRecord s)
  unfold execCardPassRecord
  split
  · next runs =>
    simp only [Bool.and_eq_true] at runs
    obtain ⟨hm, -, -⟩ := s.passRuns_iff.mp runs.1
    show ((s.cardPass s.recovery.cardCursor).passOn (s.recovery.cardCursor + 1)).cardsSound
    rcases s.cardPass_spec s.recovery.cardCursor with ⟨bad, e⟩ | ⟨-, held, count, e⟩ | ⟨ok, e⟩
    · rw [e]
      refine (h.noteFault s.recovery.cardCursor).passed (by simp) fun sound => ?_
      rw [State.noteFault_cardSound, State.cardSound_iff, bad] at sound
      cases sound
    · rw [e]
      exact h.passed rfl fun _ _ => ⟨held, count⟩
    · refine State.cardsSound_of_cardPart ?_ (State.passOn_cardPart e _)
      have sound := ((s.cardSound_iff _).mpr ok).1
      refine (h.release hm sound).passed rfl fun _ _ => ?_
      have own := State.writeCard_card_same s s.recovery.cardCursor
        { s.card s.recovery.cardCursor with held := 0, holdCount := 0 }
      exact ⟨congrArg CardRecord.held own, congrArg CardRecord.holdCount own⟩
  · exact h

end Sys2Proof.Machine
end

section
/-! PROOFS. The program table, FORMAT, opening and closing keep the cards sound; every step does. -/

namespace Sys2Proof.Machine

/-! ### The end of recovery (R47) -/

theorem State.slotsOf_of_noHold {s : State} (h : s.holdsSound) (hm : s.ledger.mode ≠ .opened) (k : Nat) : s.slotsOf k = ∅ := by
  refine Finset.filter_eq_empty_iff.mpr fun j _ is => ?_
  obtain ⟨hold, open_, -⟩ := Option.map_eq_some_iff.mp is
  exact hm (h.2.1 j hold open_).2.2.2

/-- The ledger with its state replaced. -/
def State.enter (s : State) (mode : LedgerState) : State := { s with ledger.mode := mode }

theorem State.cardsSound.leaves {s : State} (h : s.cardsSound) (hm : s.ledger.mode = .recovering) {mode : LedgerState}
    (left : mode ≠ .recovering)
    (ready : mode = .opened → s.store.signature = true ∧ s.store.openFlag = true ∧ s.cap ≤ s.recovery.cardCursor) :
    (s.enter mode).cardsSound := by
  obtain ⟨⟨period, -, format, close⟩, holds, money, -, passed⟩ := h
  have noHold : ∀ j hold, (s.holdSlot j).hold ≠ some hold := fun j hold open_ => by
    have := (holds.2.1 j hold open_).2.2.2
    rw [hm] at this
    cases this
  have slots : ∀ k, (s.enter mode).slotsOf k = ∅ := fun k =>
    State.slotsOf_of_noHold (s := s) holds (by rw [hm]; decide) k
  refine ⟨⟨period, fun is => ?_, fun running => ?_, fun out => ?_⟩, ?_, money, fun is k hk sound off => ?_, fun is => absurd is left⟩
  · exact ⟨(ready is).1, (ready is).2.1⟩
  · have := (format running).1
    rw [hm] at this
    cases this
  · have := close out
    rw [hm] at this
    cases this
  · obtain ⟨gens, -, once, named, all, few⟩ := holds
    exact ⟨gens, fun j hold open_ => absurd open_ (noHold j hold), once, named, all, few⟩
  · obtain ⟨signed, -, whole⟩ := ready is
    have hk' : k < s.cap := hk
    obtain ⟨held, count⟩ := passed hm signed k (by omega) hk' sound off
    have held' : ((s.enter mode).card k).held = 0 := held
    have count' : ((s.enter mode).card k).holdCount = 0 := count
    unfold State.heldOn
    rw [slots, Finset.sum_empty, Finset.card_empty, held', count']
    exact ⟨rfl, rfl, Nat.zero_le _, Nat.zero_le _, fun _ => rfl⟩

theorem State.leaveRecovery_cardPart (s : State) (mode : LedgerState) : (s.leaveRecovery mode).cardPart = (s.enter mode).cardPart :=
  State.rearm_cardPart _

theorem execRecoveryEnd_cards {s : State} (h : s.cardsSound) : nextAll State.cardsSound (exec .recoveryEnd s) := by
  show nextAll _ (execRecoveryEnd s)
  unfold execRecoveryEnd
  split
  · exact h
  · next running =>
    simp only [not_or, not_not] at running
    obtain ⟨hm, -⟩ := running
    have counts := State.makeCounts_cardPart s
    have leaves : ∀ (t : State) (mode : LedgerState), t.cardPart = s.cardPart → mode ≠ .recovering →
        (mode = .opened → s.store.signature = true ∧ s.store.openFlag = true ∧ s.cap ≤ s.recovery.cardCursor) →
        (t.leaveRecovery mode).cardsSound := fun t mode same left ready => by
      have look : (t.cardPart.enter mode).cardPart = (t.enter mode).cardPart := rfl
      refine State.cardsSound_of_cardPart (s := s.cardPart.enter mode) ?_ ?_
      · exact State.cardsSound.leaves (s := s.cardPart) h hm left ready
      · rw [State.leaveRecovery_cardPart, ← look, same]
    split
    · exact leaves s .config rfl (by decide) nofun
    · next signed =>
      split
      · exact h
      · next whole =>
        have passed : s.cap ≤ s.recovery.cardCursor := by
          simp only [Bool.or_eq_true, decide_eq_true_eq, not_or, not_lt] at whole
          exact whole.1
        dsimp only
        split
        · exact leaves _ .config counts (by decide) nofun
        · split
          · exact State.cardsSound_of_cardPart h counts
          · next s1 hr =>
            have same := (State.reserve_cardPart hr).trans counts
            refine leaves _ _ ((State.append_cardPart ..).trans same) (by split <;> decide) fun is => ?_
            split at is
            · next flag => exact ⟨by simpa using signed, flag, passed⟩
            · cases is

/-! ### The program table (R25, R26, R27) -/

/-- What a program write may do to the table: every limit stays within its range, and the boundaries stay but before the first
opening. -/
structure ProgramsMoved (s t : State) : Prop where
  rest : ∀ a : Table Program, ({ t with store.programs := a } : State).cardPart = ({ s with store.programs := a } : State).cardPart
  limits : ∀ k, k ≤ 7 → (t.program k).loadLimit ≤ 10000000 ∧ (t.program k).maxHolds ≤ 8
  bounds : (∀ k, (t.program k).boundary = (s.program k).boundary) ∨ (s.ledger.mode = .config ∧ s.store.openFlag = false)

theorem ProgramsMoved.cards {s t : State} (moved : ProgramsMoved s t) (h : s.cardsSound) (signed : s.store.signature = true) :
    t.cardsSound := by
  have same := moved.rest []
  have mode : t.ledger.mode = s.ledger.mode := (congrArg (fun v : State => v.ledger.mode) same :)
  have cap : t.cap = s.cap := (congrArg (fun v : State => v.cap) same :)
  have word : t.store.periodWord = s.store.periodWord := (congrArg (fun v : State => v.store.periodWord) same :)
  have totals : t.store.totals = s.store.totals := (congrArg (fun v : State => v.store.totals) same :)
  have faults : t.ledger.faults = s.ledger.faults := (congrArg (fun v : State => v.ledger.faults) same :)
  have cursor : t.recovery.cardCursor = s.recovery.cardCursor := (congrArg (fun v : State => v.recovery.cardCursor) same :)
  have cards : ∀ k, t.card k = s.card k := fun k => (congrArg (fun v : State => v.card k) same :)
  obtain ⟨modes, holds, ⟨bound, -, sum, balances, fresh, empties⟩, opened, passed⟩ := h
  have ranges : (s.ledger.mode = .config ∧ s.store.periodWord = 0) ∨ ∀ k, t.cardSound k ↔ s.cardSound k := by
    rcases moved.bounds with fixed | ⟨hm, closed⟩
    · refine .inr fun k => ?_
      unfold State.cardSound State.rangeProgram
      simp only [cards, fixed]
    · refine .inl ⟨hm, ?_⟩
      by_contra word
      have := (modes.1 signed).mpr word
      rw [closed] at this
      cases this
  refine ⟨?_, ?_, ⟨?_, moved.limits, ?_, ?_, ?_, ?_⟩, ?_, ?_⟩
  · exact State.modeSound_of_frontPart (s := { s with store.programs := [] }) (t := { t with store.programs := [] }) modes
      (State.frontPart_of_cardPart same)
  · exact State.holdsSound_of_eq holds (congrArg (fun v : State => v.holds) same :) (congrArg (fun v : State => v.expiryQ) same :)
      (congrArg (fun v : State => v.waiting) same :) cap mode
  · rw [cap]; exact bound
  · rw [totals, cap, sum]
    exact Finset.sum_congr rfl fun k _ => congrArg CardRecord.balance (cards k).symm
  · intro k hk
    rw [cap] at hk
    rw [cards]; exact balances k hk
  · intro _ zero k hk
    rw [word] at zero
    rw [cap] at hk
    rw [cards]; exact fresh signed zero k hk
  · intro _ k hk sound state
    rw [cap] at hk
    rw [cards] at state ⊢
    rcases ranges with ⟨-, zero⟩ | same
    · exact (fresh signed zero k hk).1
    · exact empties signed k hk ((same k).mp sound) state
  · intro is k hk sound off
    rw [mode] at is
    rcases ranges with ⟨config, -⟩ | sounds
    · rw [config] at is
      cases is
    · rw [cap] at hk
      have off' : k ∉ s.ledger.faults := faults ▸ off
      obtain ⟨slots, amount⟩ := State.slotsOf_of_holds (s := s) (t := t) (congrArg (fun v : State => v.holds) same :) k
      rw [cards, slots, amount]
      exact opened is k hk ((sounds k).mp sound) off'
  · intro is _ k before hk sound off
    rw [mode] at is
    rcases ranges with ⟨config, -⟩ | sounds
    · rw [config] at is
      cases is
    · rw [cap] at hk
      have off' : k ∉ s.ledger.faults := faults ▸ off
      have before' : k < s.recovery.cardCursor := cursor ▸ before
      rw [cards]
      exact passed is signed k before' hk ((sounds k).mp sound) off'

theorem State.raiseBoundaries_rest (s : State) (k b : Nat) (a : Table Program) :
    ({ s.raiseBoundaries k b with store.programs := a } : State) = { s with store.programs := a } := by
  unfold State.raiseBoundaries
  generalize ([1, 2, 3, 4, 5, 6, 7] : List Nat) = l
  induction l generalizing s with
  | nil => rfl
  | cons j l ih =>
    rw [List.foldl_cons, ih]
    split <;> rfl

theorem Program.clamp_limits (p : Program) : p.clamp.loadLimit ≤ 10000000 ∧ p.clamp.maxHolds ≤ 8 :=
  ⟨Nat.min_le_left .., Nat.min_le_left ..⟩

theorem State.writeProgram_moved {s : State} (h : s.cardsSound) (k : Nat) {p : Program}
    (allowed : s.boundaryFree = false → p.boundary = (s.program k).boundary) : ProgramsMoved s (s.writeProgram k p) := by
  obtain ⟨-, -, ⟨-, limits, -⟩, -⟩ := h
  have written : ∀ q : Program, q.loadLimit ≤ 10000000 ∧ q.maxHolds ≤ 8 → ∀ j, j ≤ 7 →
      ((s.setProgram k q).program j).loadLimit ≤ 10000000 ∧ ((s.setProgram k q).program j).maxHolds ≤ 8 := fun q good j hj => by
    by_cases is : j = k
    · rw [is, State.setProgram_program_same]; exact good
    · rw [State.setProgram_program_ne s q is]; exact limits j hj
  unfold State.writeProgram
  split
  · next free =>
    refine ⟨fun a => congrArg State.cardPart (State.raiseBoundaries_rest _ _ _ a), fun j hj => ?_,
      .inr ((State.boundaryFree_eq_true_iff s).mp free)⟩
    have before := written { p.clamp with boundary := s.clampBoundary k p.boundary } p.clamp_limits j hj
    by_cases below : j ≤ k
    · rw [State.raiseBoundaries_program_below _ below]; exact before
    · rw [State.raiseBoundaries_program_above _ (Nat.not_le.mp below) hj]; exact before
  · next fixed =>
    refine ⟨fun _ => rfl, written _ p.clamp_limits, .inl fun j => ?_⟩
    by_cases is : j = k
    · rw [is, State.setProgram_program_same]
      exact allowed (by simpa using fixed)
    · rw [State.setProgram_program_ne s _ is]

theorem serveWriteProgram_cards {s : State} (h : s.cardsSound) (signed : s.store.signature = true) (b : List Byte) :
    (serveWriteProgram b s).cardsSound := by
  unfold serveWriteProgram
  dsimp only
  split
  · exact cardsSound_ofCore.refuse h _
  · next p _ =>
    split
    · exact cardsSound_ofCore.refuse h _
    · next allowed =>
      refine cardsSound_ofCore.done ((State.writeProgram_moved h _ fun fixed => ?_).cards h signed) _
      simpa [fixed] using allowed

/-! ### FORMAT, opening and closing -/

section
variable {s : State} (h : s.cardsSound)
include h

theorem serveFormat_cards (b : List Byte) : (serveFormat b s).cardsSound := by
  unfold serveFormat
  split
  · exact cardsSound_ofCore.refuse h _
  · next config =>
    have hm := not_not.mp config
    obtain ⟨⟨-, -, -, close⟩, holds, ⟨bound, limits, sum, balances, -, -⟩, -, -⟩ := h
    refine ⟨⟨nofun, fun is => ?_, fun _ => ⟨hm, rfl⟩, close⟩, holds, ⟨bound, limits, sum, balances, nofun, nofun⟩, fun is => ?_,
      fun _ => nofun⟩
    · have is' : s.ledger.mode = .opened := is
      rw [hm] at is'
      cases is'
    · have is' : s.ledger.mode = .opened := is
      rw [hm] at is'
      cases is'

/-- The ledger opened: period 1, the open flag, OPEN (R45). -/
theorem opened_cards (config : s.ledger.mode = .config) (signed : s.store.signature = true) (fresh : s.store.periodWord = 0) :
    ({ s with store.openFlag := true, store.periodWord := 1, ledger.period := 1, ledger.mode := .opened,
              settle.period := 1 } : State).cardsSound := by
  obtain ⟨⟨-, -, format, -⟩, holds, ⟨bound, limits, sum, balances, zero, empties⟩, -, -⟩ := h
  have slots : ∀ k, s.slotsOf k = ∅ := State.slotsOf_of_noHold holds (by rw [config]; decide)
  refine ⟨⟨fun _ => ⟨fun _ => Nat.one_ne_zero, fun _ => rfl⟩, fun _ => ⟨signed, rfl⟩, fun running => ?_, fun _ => rfl⟩, ?_,
    ⟨bound, limits, sum, balances, fun _ is => absurd is Nat.one_ne_zero, empties⟩, fun _ k hk _ _ => ?_, nofun⟩
  · have := (format running).2
    rw [signed] at this
    cases this
  · obtain ⟨gens, open_, once, named, all, few⟩ := holds
    exact ⟨gens, fun j hold is => ⟨(open_ j hold is).1, (open_ j hold is).2.1, (open_ j hold is).2.2.1, rfl⟩, once, named, all, few⟩
  · obtain ⟨-, held, count⟩ := zero signed fresh k hk
    have held' : (s.card k).held = s.heldOn k := by
      unfold State.heldOn
      rw [slots, Finset.sum_empty]; exact held
    have count' : (s.card k).holdCount = (s.slotsOf k).card := by rw [slots, Finset.card_empty]; exact count
    exact ⟨held', count', count.trans_le (Nat.zero_le _), held.trans_le (Nat.zero_le _), fun _ => count⟩

theorem serveOpenLedger_cards (b : List Byte) : (serveOpenLedger b s).cardsSound := by
  unfold serveOpenLedger
  split
  · exact cardsSound_ofCore.refuse h _
  · next may =>
    simp only [not_or, not_not, Bool.not_eq_false] at may
    obtain ⟨config, signed, fresh⟩ := may
    split
    · exact cardsSound_ofCore.refuse h _
    · next s1 hr =>
      obtain ⟨-, rfl⟩ := State.reserve_eq hr
      refine cardsSound_ofCore.done (State.cardsSound_of_cardPart (opened_cards h config signed fresh) ?_) _
      refine (State.append_cardPart ..).trans ?_
      rw [State.raiseIf_frame]
      rfl

/-- The close is taken or ends while the ledger is OPEN; its commit names a period above 0 (R130, R133). -/
theorem closing_cards (hm : s.ledger.mode = .opened) (out : Bool) {word : Nat} (above : word = s.store.periodWord ∨ word ≠ 0) :
    ({ s with store.periodWord := word, ledger.closeOutstanding := out } : State).cardsSound := by
  obtain ⟨⟨period, opened, format, -⟩, holds, ⟨bound, limits, sum, balances, -, empties⟩, held, passed⟩ := h
  have nonzero : word ≠ 0 := by
    rcases above with rfl | above
    · exact (period (opened hm).1).mp (opened hm).2
    · exact above
  exact ⟨⟨fun _ => ⟨fun _ => nonzero, fun _ => (opened hm).2⟩, opened, format, fun _ => hm⟩, holds,
    ⟨bound, limits, sum, balances, fun _ zero => absurd zero nonzero, empties⟩, held, passed⟩

theorem serveClosePeriod_cards (b : List Byte) : (serveClosePeriod b s).cardsSound := by
  unfold serveClosePeriod
  split_ifs with full other
  any_goals exact cardsSound_ofCore.refuse h _
  split
  · exact cardsSound_ofCore.refuse h _
  · next s1 hr =>
    obtain ⟨-, rfl⟩ := State.reserve_eq hr
    refine State.cardsSound_of_cardPart (closing_cards h (not_not.mp other) true (.inl rfl)) ?_
    rw [State.raiseIf_frame]
    rfl

theorem execCloseEntry_cards : nextAll State.cardsSound (exec .closeEntry s) := by
  show nextAll _ (execCloseEntry s)
  unfold execCloseEntry
  split
  · split
    · next requested rest _ =>
      dsimp only
      split
      · exact h
      · next out =>
        have hm := h.1.2.2.2 (by simpa using out)
        have refuses : ∀ code, (s.noteWork.refuseClose code).cardsSound := fun code => by
          refine State.cardsSound_of_cardPart (closing_cards h hm false (.inl rfl)) ((State.refuse_cardPart ..).trans ?_)
          rw [State.noteWork_frame]
          rfl
        split
        · exact refuses _
        · split
          · exact refuses _
          · refine cardsSound_ofCore.done (State.cardsSound_of_cardPart
              (closing_cards h hm false (word := requested + 1) (.inr (Nat.succ_ne_zero _)))
              ((State.advanceNotice_cardPart _).trans ((State.append_cardPart ..).trans ?_))) _
            rw [State.noteWork_frame]
            rfl
    · exact h
  · exact h

theorem execFormatComplete_cards : nextAll State.cardsSound (exec .formatComplete s) := by
  show nextAll _ (execFormatComplete s)
  unfold execFormatComplete
  split
  · next runs =>
    simp only [Bool.and_eq_true] at runs
    refine cardsSound_ofCore.done ?_ _
    show s.formatted.cardsSound
    obtain ⟨⟨-, -, format, close⟩, holds, ⟨bound, -⟩, -, -⟩ := h
    have config := (format runs.1).1
    have blank : ∀ k, k < s.cap → s.formatted.card k = CardRecord.blank := fun k hk => by
      rw [State.formatted_card, if_neg (Nat.not_le.mpr hk)]
    have notOpen : s.ledger.mode ≠ .opened := by rw [config]; decide
    refine ⟨⟨fun _ => ⟨nofun, fun no => absurd rfl no⟩, fun is => absurd is notOpen, nofun, close⟩, holds,
      ⟨bound, fun _ _ => ?_, ?_, fun k hk => ?_, fun _ _ k hk => ?_, fun _ k hk _ _ => ?_⟩, fun is => absurd is notOpen,
      fun is => ?_⟩
    · show Program.initial.loadLimit ≤ 10000000 ∧ Program.initial.maxHolds ≤ 8
      decide
    · exact (Finset.sum_eq_zero fun k hk => congrArg CardRecord.balance (blank k (Finset.mem_range.mp hk))).symm
    · rw [blank k hk]; exact Nat.zero_le _
    · rw [blank k hk]; exact ⟨rfl, rfl, rfl⟩
    · rw [blank k hk]; rfl
    · have is' : s.ledger.mode = .recovering := is
      rw [config] at is'
      cases is'
  · exact h

end

/-! ### Every step -/

theorem CardCommand.cards {s : State} (h : s.cardsSound) {i : Instr} (hi : CardCommand i) : nextAll State.cardsSound (exec i s) := by
  have hP := cardsSound_ofCore
  have lane : ∀ {kind decision}, (∀ req u, State.cardsSound u → (decision req u).1.cardsSound) →
      (laneStep kind decision s).cardsSound := fun hd => hP.laneStep h fun _ _ _ hu => hd _ _ hu
  have card : ∀ {kind serve}, (∀ b u, State.cardsSound u → (serve b u).cardsSound) → (cardStep kind serve s).cardsSound :=
    fun hd => cardStep_of (P := State.cardsSound) h fun b _ => hd b _ (hP.takeOffice h)
  cases hi with
  | activate => exact lane fun req _ hu => decideActivate_cards hu req
  | load => exact lane fun req _ hu => decideLoad_cards hu req
  | balance => exact lane fun req u hu => hu.declines (decideBalance_declines req u)
  | redeem => exact lane fun req _ hu => decideRedeem_cards hu req
  | cashout => exact lane fun req _ hu => decideCashout_cards hu req
  | authorize => exact lane fun req _ hu => decideAuthorize_cards hu req
  | capture => exact lane fun req _ hu => decideCapture_cards hu req
  | void => exact lane fun req _ hu => decideVoid_cards hu req
  | refund => exact lane fun req _ hu => decideRefund_cards hu req
  | expiry =>
    show nextAll _ (execExpiry s)
    unfold execExpiry
    split
    · split
      · next it rest queue => exact State.expire_cards h (queue ▸ List.mem_cons_self)
      · exact h
    · exact h
  | readCard => exact card fun b u hu => hu.answers (serveReadCard_answers b u)
  | provision => exact card fun b _ hu => serveProvision_cards hu b
  | suspend => exact card fun b _ hu => serveSuspend_cards hu b
  | resume => exact card fun b _ hu => serveResume_cards hu b
  | closeCard => exact card fun b _ hu => serveCloseCard_cards hu b
  | adjust => exact card fun b _ hu => serveAdjust_cards hu b
  | rewriteCard => exact card fun b _ hu => serveRewriteCard_cards hu b
  | readTotals => exact card fun b u hu => hu.answers (serveReadTotals_answers b u)

theorem LedgerCommand.cards {s : State} (h : s.cardsSound) {i : Instr} (hi : LedgerCommand i)
    (sameCap : ∀ c, i = .powerOnReset c → c.cards = s.cap) : nextAll State.cardsSound (exec i s) := by
  have hP := cardsSound_ofCore
  cases hi with
  | powerOnReset c =>
    show (resetChip .powerOn c.cards false s).cardsSound
    rw [sameCap c rfl]
    exact resetChip_cards h _ _
  | pfwAssert => exact execPfwAssert_cards h
  | pfwRelease =>
    show nextAll _ (execPfwRelease s)
    unfold execPfwRelease
    split
    · exact resetChip_cards h _ _
    · exact h
  | restartPerformed =>
    show nextAll _ (execRestartPerformed s)
    unfold execRestartPerformed
    split
    · exact resetChip_cards h _ _
    · exact h
  | holdDeadlineReached => exact execHoldDeadlineReached_cards h
  | closeEntry => exact execCloseEntry_cards h
  | cardPassRecord => exact execCardPassRecord_cards h
  | recoveryEnd => exact execRecoveryEnd_cards h
  | writeTableProgram => exact hP.answerable.writeStep h fun b _ _ signed _ => serveWriteProgram_cards h signed b
  | format => exact cardStep_of (P := State.cardsSound) h fun b _ => serveFormat_cards (hP.takeOffice h) b
  | openLedger => exact cardStep_of (P := State.cardsSound) h fun b _ => serveOpenLedger_cards (hP.takeOffice h) b
  | closePeriod => exact cardStep_of (P := State.cardsSound) h fun b _ => serveClosePeriod_cards (hP.takeOffice h) b
  | formatComplete => exact execFormatComplete_cards h

/-- Settles O59, by what each kind of command leaves of the cards and, for those that change them, one card at a time. -/
theorem everyStepKeepsTheCardsSound : Obligations.EveryStepKeepsTheCardsSound := by
  unfold Obligations.EveryStepKeepsTheCardsSound
  intro s t h sameCap run
  refine cardsSound_ofCore.step h (fun c rest queue hs => ?_) run
  rcases command_kinds c with hi | hi | hi | hi
  · exact cardsSound_ofCore.link hi hs
  · exact (hi.keepsCards _).mono fun _ same => State.cardsSound_of_cardPart hs same
  · exact hi.cards hs
  · exact hi.cards hs fun capacity is => sameCap capacity rest (queue.trans (by rw [is]))

end Sys2Proof.Machine
end

section
/-! PROOFS. The ledger state stays sound, and the shops that are named stay shops (R33, R34, R43, R113, R165). -/

namespace Sys2Proof.Machine

/-! ### The ledger state -/

theorem modeSound_ofCore : OfCore State.modeSound := fun _ => Iff.rfl

theorem State.modeSound_of_cardPart {s t : State} (h : s.modeSound) (hv : t.cardPart = s.cardPart) : t.modeSound :=
  State.modeSound_of_frontPart h (State.frontPart_of_cardPart hv)

section
variable {s : State} (h : s.modeSound)
include h

theorem resetChip_mode (cause : ResetCause) (capacity : Nat) (pfw : Bool) : (resetChip cause capacity pfw s).modeSound :=
  ⟨h.1, nofun, nofun, nofun⟩

theorem State.modeSound.leaves (hm : s.ledger.mode = .recovering) {mode : LedgerState}
    (ready : mode = .opened → s.store.signature = true ∧ s.store.openFlag = true) : (s.enter mode).modeSound := by
  obtain ⟨period, -, format, close⟩ := h
  refine ⟨period, ready, fun running => ?_, fun out => ?_⟩
  · have := (format running).1
    rw [hm] at this
    cases this
  · have := close out
    rw [hm] at this
    cases this

theorem execRecoveryEnd_mode : nextAll State.modeSound (exec .recoveryEnd s) := by
  show nextAll _ (execRecoveryEnd s)
  unfold execRecoveryEnd
  split
  · exact h
  · next running =>
    simp only [not_or, not_not] at running
    obtain ⟨hm, -⟩ := running
    have counts := State.makeCounts_cardPart s
    have leaves : ∀ (t : State) (mode : LedgerState), t.cardPart = s.cardPart →
        (mode = .opened → s.store.signature = true ∧ s.store.openFlag = true) → (t.leaveRecovery mode).modeSound :=
      fun t mode same ready => by
        have look : (t.cardPart.enter mode).cardPart = (t.enter mode).cardPart := rfl
        refine State.modeSound_of_cardPart (s := s.cardPart.enter mode) ?_ ?_
        · exact State.modeSound.leaves (s := s.cardPart) h hm ready
        · rw [State.leaveRecovery_cardPart, ← look, same]
    split
    · exact leaves s .config rfl nofun
    · next signed =>
      split
      · exact h
      · dsimp only
        split
        · exact leaves _ .config counts nofun
        · split
          · exact State.modeSound_of_cardPart h counts
          · next s1 hr =>
            refine leaves _ _ ((State.append_cardPart ..).trans ((State.reserve_cardPart hr).trans counts)) fun is => ?_
            split at is
            · next flag => exact ⟨by simpa using signed, flag⟩
            · cases is

theorem serveFormat_mode (b : List Byte) : (serveFormat b s).modeSound := by
  unfold serveFormat
  split
  · exact modeSound_ofCore.refuse h _
  · next config =>
    obtain ⟨-, opened, -, close⟩ := h
    refine ⟨nofun, fun is => ?_, fun _ => ⟨not_not.mp config, rfl⟩, close⟩
    have is' : s.ledger.mode = .opened := is
    rw [not_not.mp config] at is'
    cases is'

theorem serveOpenLedger_mode (b : List Byte) : (serveOpenLedger b s).modeSound := by
  unfold serveOpenLedger
  split
  · exact modeSound_ofCore.refuse h _
  · next may =>
    simp only [not_or, not_not, Bool.not_eq_false] at may
    obtain ⟨-, signed, -⟩ := may
    split
    · exact modeSound_ofCore.refuse h _
    · next s1 hr =>
      obtain ⟨-, rfl⟩ := State.reserve_eq hr
      refine modeSound_ofCore.done (State.modeSound_of_cardPart (s := { s with
        store.openFlag := true, store.periodWord := 1, ledger.period := 1, ledger.mode := .opened, settle.period := 1 }) ?_
        ((State.append_cardPart ..).trans ?_)) _
      · refine ⟨fun _ => ⟨fun _ => Nat.one_ne_zero, fun _ => rfl⟩, fun _ => ⟨signed, rfl⟩, fun running => ?_, fun _ => rfl⟩
        have := (h.2.2.1 running).2
        rw [signed] at this
        cases this
      · rw [State.raiseIf_frame]
        rfl

theorem closing_mode (hm : s.ledger.mode = .opened) (out : Bool) {word : Nat} (above : word = s.store.periodWord ∨ word ≠ 0) :
    ({ s with store.periodWord := word, ledger.closeOutstanding := out } : State).modeSound := by
  obtain ⟨period, opened, format, -⟩ := h
  have nonzero : word ≠ 0 := by
    rcases above with rfl | above
    · exact (period (opened hm).1).mp (opened hm).2
    · exact above
  exact ⟨fun _ => ⟨fun _ => nonzero, fun _ => (opened hm).2⟩, opened, format, fun _ => hm⟩

theorem serveClosePeriod_mode (b : List Byte) : (serveClosePeriod b s).modeSound := by
  unfold serveClosePeriod
  split_ifs with full other
  any_goals exact modeSound_ofCore.refuse h _
  split
  · exact modeSound_ofCore.refuse h _
  · next s1 hr =>
    obtain ⟨-, rfl⟩ := State.reserve_eq hr
    refine State.modeSound_of_cardPart (closing_mode h (not_not.mp other) true (.inl rfl)) ?_
    rw [State.raiseIf_frame]
    rfl

theorem execCloseEntry_mode : nextAll State.modeSound (exec .closeEntry s) := by
  show nextAll _ (execCloseEntry s)
  unfold execCloseEntry
  split
  · split
    · next requested rest _ =>
      dsimp only
      split
      · exact h
      · next out =>
        have hm := h.2.2.2 (by simpa using out)
        have refuses : ∀ code, (s.noteWork.refuseClose code).modeSound := fun code => by
          refine State.modeSound_of_cardPart (closing_mode h hm false (.inl rfl)) ((State.refuse_cardPart ..).trans ?_)
          rw [State.noteWork_frame]
          rfl
        split
        · exact refuses _
        · split
          · exact refuses _
          · refine modeSound_ofCore.done (State.modeSound_of_cardPart
              (closing_mode h hm false (word := requested + 1) (.inr (Nat.succ_ne_zero _)))
              ((State.advanceNotice_cardPart _).trans ((State.append_cardPart ..).trans ?_))) _
            rw [State.noteWork_frame]
            rfl
    · exact h
  · exact h

theorem execFormatComplete_mode : nextAll State.modeSound (exec .formatComplete s) := by
  show nextAll _ (execFormatComplete s)
  unfold execFormatComplete
  split
  · next runs =>
    simp only [Bool.and_eq_true] at runs
    refine modeSound_ofCore.done ?_ _
    obtain ⟨-, -, format, close⟩ := h
    have notOpen : s.ledger.mode ≠ .opened := by rw [(format runs.1).1]; decide
    exact ⟨fun _ => ⟨nofun, fun no => absurd rfl no⟩, fun is => absurd is notOpen, nofun, close⟩
  · exact h

theorem serveWriteProgram_mode (b : List Byte) : (serveWriteProgram b s).modeSound := by
  have same : ∀ (k : Nat) (p : Program), (s.writeProgram k p).modeSound := fun k p => by
    have rest : ({ s.writeProgram k p with store.programs := [] } : State) = { s with store.programs := [] } := by
      unfold State.writeProgram
      split
      · exact State.raiseBoundaries_rest _ _ _ _
      · rfl
    have look : ∀ u : State, ({ u with store.programs := [] } : State).modeSound ↔ u.modeSound := fun _ => Iff.rfl
    rw [← look, rest, look]
    exact h
  unfold serveWriteProgram
  dsimp only
  split
  · exact modeSound_ofCore.refuse h _
  · split
    · exact modeSound_ofCore.refuse h _
    · exact modeSound_ofCore.done (same _ _) _

/-- Every command keeps the ledger state sound. -/
theorem exec_mode (i : Instr) : nextAll State.modeSound (exec i s) := by
  have hP := modeSound_ofCore
  rcases command_kinds i with hi | hi | hi | hi
  · exact hP.link hi h
  · exact (hi.keepsCards s).mono fun _ same => State.modeSound_of_cardPart h same
  · exact (hi.keepsFront s).mono fun _ same => State.modeSound_of_frontPart h same
  cases hi with
  | powerOnReset c => exact resetChip_mode h ..
  | pfwAssert =>
    obtain ⟨m, hm, e⟩ := execPfwAssert_spec s
    have sound : m.modeSound := by
      rcases hm with rfl | rfl
      · exact h
      · exact State.modeSound_of_cardPart h s.rollInHand_cardPart
    rw [e]
    obtain ⟨period, opened, -, close⟩ := sound
    exact ⟨period, opened, nofun, close⟩
  | pfwRelease =>
    show nextAll _ (execPfwRelease s)
    unfold execPfwRelease
    split
    · exact resetChip_mode h ..
    · exact h
  | restartPerformed =>
    show nextAll _ (execRestartPerformed s)
    unfold execRestartPerformed
    split
    · exact resetChip_mode h ..
    · exact h
  | holdDeadlineReached =>
    show nextAll _ (execHoldDeadlineReached s)
    unfold execHoldDeadlineReached
    split
    · split
      · exact h
      · exact h
    · exact h
  | closeEntry => exact execCloseEntry_mode h
  | cardPassRecord =>
    show nextAll _ (execCardPassRecord s)
    unfold execCardPassRecord
    split
    · have same : (s.cardPass s.recovery.cardCursor).modeSound := by
        rcases s.cardPass_spec s.recovery.cardCursor with ⟨-, e⟩ | ⟨-, -, -, e⟩ | ⟨-, e⟩
        · rw [e]; exact State.modeSound_of_frontPart h (State.noteFault_frontPart s _)
        · rw [e]; exact h
        · exact State.modeSound_of_frontPart h ((State.frontPart_of_cardPart e).trans (by rfl))
      exact same
    · exact h
  | recoveryEnd => exact execRecoveryEnd_mode h
  | writeTableProgram => exact hP.answerable.writeStep h fun b _ _ _ _ => serveWriteProgram_mode h b
  | format => exact cardStep_of (P := State.modeSound) h fun b _ => serveFormat_mode (hP.takeOffice h) b
  | openLedger => exact cardStep_of (P := State.modeSound) h fun b _ => serveOpenLedger_mode (hP.takeOffice h) b
  | closePeriod => exact cardStep_of (P := State.modeSound) h fun b _ => serveClosePeriod_mode (hP.takeOffice h) b
  | formatComplete => exact execFormatComplete_mode h

end

end Sys2Proof.Machine
end

section
/-! PROOFS. What the requests on cards leave of shops, payouts, channels and periods: everything but the journal's next number (R49). -/

namespace Sys2Proof.Machine

/-! ### The part of the state that says how the settlement stands -/

/-- The state without everything but shops, payout window, channels, visits, counts and periods; of the accrual queue the CLOSE
entries alone. -/
def State.workPart (s : State) : State :=
  { State.reset with
    ledger := { State.reset.ledger with
                mode := s.ledger.mode, period := s.ledger.period, closeOutstanding := s.ledger.closeOutstanding },
    settle := { Settle.initial with
                period := s.settle.period, accruals := s.settle.accruals.filter Accrual.isClose,
                visits := s.settle.visits, unrolled := s.settle.unrolled, openPayouts := s.settle.openPayouts,
                cursor := s.settle.cursor },
    channels := s.channels, plu := { PayoutUnit.initial with slots := s.plu.slots },
    recovery := { Recovery.initial with counted := s.recovery.counted },
    store := { Store.blank with
               signature := s.store.signature, periodWord := s.store.periodWord, shops := s.store.shops,
               setups := s.store.setups, nextToWrite := s.store.nextToWrite } }

/-- A state with another next number. -/
def State.nextNumber (s : State) (n : Nat) : State := { s with store.nextToWrite := n }

/-- The second state differs from the first in that part by a higher next number at most. -/
def WorkKept (s t : State) : Prop := ∃ n, s.store.nextToWrite ≤ n ∧ t.workPart = s.workPart.nextNumber n

theorem workKept_ofCore (s : State) : OfCore (WorkKept s) := fun _ => Iff.rfl

theorem WorkKept.of_eq {s t : State} (h : t.workPart = s.workPart) : WorkKept s t := ⟨_, le_rfl, h⟩

theorem WorkKept.refl (s : State) : WorkKept s s := .of_eq rfl

theorem WorkKept.trans {s t u : State} (h : WorkKept s t) (k : WorkKept t u) : WorkKept s u := by
  obtain ⟨n, hn, e⟩ := h
  obtain ⟨m, hm, e'⟩ := k
  have next : t.store.nextToWrite = n := (congrArg (fun v : State => v.store.nextToWrite) e :)
  exact ⟨m, by omega, e'.trans (by rw [e]; rfl)⟩

/-! ### The operations of a commit on a card -/

section
variable (s : State)

@[simp] theorem State.writeCard_workPart (serial : Nat) (r : CardRecord) : (s.writeCard serial r).workPart = s.workPart := rfl

@[simp] theorem State.setTotals_workPart (t : Totals) : (s.setTotals t).workPart = s.workPart := rfl

@[simp] theorem State.addWindow_workPart (r : CaptureRecord) : (s.addWindow r).workPart = s.workPart := rfl

@[simp] theorem State.openHold_workPart (slot : Nat) (hold : Hold) : (s.openHold slot hold).workPart = s.workPart := rfl

@[simp] theorem State.endHold_workPart (slot gen : Nat) (cause : EndCause) :
    (s.endHold slot gen cause).workPart = s.workPart := rfl

@[simp] theorem State.noteFault_workPart (serial : Nat) : (s.noteFault serial).workPart = s.workPart := by
  unfold State.noteFault
  split_ifs <;> rfl

@[simp] theorem State.raiseIf_workPart (b : Bool) (src : Source) : (s.raiseIf b src).workPart = s.workPart := by
  rw [State.raiseIf_frame]; rfl

theorem State.append_workPart (p : Nat) (b : EntryBody) :
    (s.append p b).workPart = s.workPart.nextNumber (s.store.nextToWrite + 1) := by
  unfold State.append
  exact State.raiseIf_workPart ..

theorem State.post_workPart (b : EntryBody) (e : Option Effect) :
    (s.post b e).workPart = s.workPart.nextNumber (s.store.nextToWrite + 1) := by
  have appended := s.append_workPart s.ledger.period b
  cases e with
  | none => exact appended
  | some e =>
    rw [← appended]
    unfold State.post State.workPart
    simp [Accrual.isClose]

end

theorem State.reserve_workPart {s t : State} {cls : ResClass} {n : Nat} (hr : s.reserve cls n = some t) :
    t.workPart = s.workPart := by
  obtain ⟨-, rfl⟩ := State.reserve_eq hr
  exact State.raiseIf_workPart ..

theorem WorkKept.append {s t : State} (h : WorkKept s t) (p : Nat) (b : EntryBody) : WorkKept s (t.append p b) :=
  h.trans ⟨_, Nat.le_succ _, t.append_workPart p b⟩

/-- A commit on a card leaves the settlement. -/
theorem workKept_commit {s s1 t : State} {cls : ResClass} {n : Nat} (hr : s.reserve cls n = some s1)
    (ht : t.workPart = s1.workPart) (b : EntryBody) (e : Option Effect) : WorkKept s (t.post b e) :=
  (WorkKept.of_eq (ht.trans (State.reserve_workPart hr))).trans ⟨_, Nat.le_succ _, t.post_workPart b e⟩

section
variable {s t : State}

theorem Declines.workKept (hd : Declines s t) : WorkKept s t := by
  cases hd with
  | kept => exact .refl s
  | noted serial => exact .of_eq (s.noteFault_workPart serial)
  | failed serial prog _ _ hr => exact workKept_commit hr (by simp) _ _

theorem Answers.workKept (ha : Answers s t) : WorkKept s t := by
  cases ha with
  | kept code data => exact (workKept_ofCore s).of_eq (State.answerOffice_core ..) (.refl s)
  | noted serial expected code data =>
    exact (workKept_ofCore s).of_eq (State.answerOffice_core ..) (.of_eq (s.noteFault_workPart serial))

theorem officeCommits.workKept {serial : Nat} {r : CardRecord} {totals : Totals} {body : EntryBody} {effect : Option Effect}
    (hc : officeCommits s t serial r totals body effect) : WorkKept s t := by
  obtain ⟨s1, hr, rfl⟩ := hc
  exact (workKept_ofCore s).done (workKept_commit hr (by simp) _ _) _

end

/-! ### The lane requests, the expiry and the office's card requests -/

section
variable (req : LaneReq) (s : State)

theorem decideActivate_workKept : WorkKept s (decideActivate req s).1 := by
  rcases decideActivate_cases req s with hd | ⟨shop, prog, s1, -, -, -, hr, e⟩
  · exact hd.workKept
  · rw [e]; exact workKept_commit hr (by simp) _ _

theorem decideLoad_workKept : WorkKept s (decideLoad req s).1 := by
  rcases decideLoad_cases req s with hd | ⟨shop, prog, s1, -, -, hr, e⟩
  · exact hd.workKept
  · rw [e]; exact workKept_commit hr (by simp) _ _

theorem decideRedeem_workKept : WorkKept s (decideRedeem req s).1 := by
  rcases decideRedeem_cases req s with hd | ⟨shop, prog, s1, amount, result, -, -, hr, e⟩
  · exact hd.workKept
  · rw [e]; exact workKept_commit hr (by simp) _ _

theorem decideCashout_workKept : WorkKept s (decideCashout req s).1 := by
  rcases decideCashout_cases req s with hd | ⟨shop, prog, s1, -, -, -, -, hr, e⟩
  · exact hd.workKept
  · rw [e]; exact workKept_commit hr (by simp) _ _

theorem decideAuthorize_workKept : WorkKept s (decideAuthorize req s).1 := by
  rcases decideAuthorize_cases req s with hd | ⟨shop, prog, s1, slot, amount, result, -, -, -, -, hr, e⟩
  · exact hd.workKept
  · rw [e]; exact workKept_commit hr (by simp) _ _

theorem decideCapture_workKept : WorkKept s (decideCapture req s).1 := by
  rcases decideCapture_cases req s with hd | ⟨s1, slot, gen, hold, -, -, -, -, -, -, hr, e⟩
  · exact hd.workKept
  · rw [e]; exact workKept_commit hr (by simp) _ _

theorem decideVoid_workKept : WorkKept s (decideVoid req s).1 := by
  rcases decideVoid_cases req s with hd | ⟨s1, slot, gen, hold, -, -, -, hr, e⟩
  · exact hd.workKept
  · rw [e]; exact workKept_commit hr (by simp) _ _

theorem decideRefund_workKept : WorkKept s (decideRefund req s).1 := by
  rcases decideRefund_cases req s with hd | ⟨shop, s1, rec, -, -, -, -, -, -, -, hr, e⟩
  · exact hd.workKept
  · rw [e]; exact workKept_commit (t := { (s1.writeCard _ _).setTotals _ with store.window := _ }) hr (by rfl) _ _

theorem State.expire_workKept (it : ExpiryItem) : WorkKept s (s.expire it) := by
  rcases s.expire_cases it with ⟨-, e⟩ | ⟨slot, gen, hold, -, ⟨-, e⟩ | ⟨s1, hr, ⟨-, e⟩ | ⟨-, -, e⟩ | ⟨-, -, e⟩⟩⟩ <;> rw [e]
  · exact .of_eq rfl
  · exact .refl s
  · exact workKept_commit hr (by rfl) _ _
  · exact workKept_commit (t := (s1.noteFault hold.card).endHold slot gen .expired) hr
      ((rfl : _ = (s1.noteFault hold.card).workPart).trans (s1.noteFault_workPart hold.card)) _ _
  · exact workKept_commit hr (by rfl) _ _

end

section
variable (b : List Byte) (s : State)

theorem serveProvision_workKept : WorkKept s (serveProvision b s) := by
  rcases serveProvision_cases b s with ha | ⟨_, -, -, -, hc⟩
  · exact ha.workKept
  · exact hc.workKept

theorem serveSuspend_workKept : WorkKept s (serveSuspend b s) := by
  rcases serveSuspend_cases b s with ha | ⟨_, -, -, hc⟩
  · exact ha.workKept
  · exact hc.workKept

theorem serveResume_workKept : WorkKept s (serveResume b s) := by
  rcases serveResume_cases b s with ha | ⟨_, -, -, hc⟩
  · exact ha.workKept
  · exact hc.workKept

theorem serveCloseCard_workKept : WorkKept s (serveCloseCard b s) := by
  rcases serveCloseCard_cases b s with ha | ⟨_, -, -, -, -, -, hc⟩
  · exact ha.workKept
  · exact hc.workKept

theorem serveAdjust_workKept : WorkKept s (serveAdjust b s) := by
  rcases serveAdjust_cases b s with ha | ⟨_, _, -, -, -, -, -, -, -, hc⟩
  · exact ha.workKept
  · exact hc.workKept

theorem serveRewriteCard_workKept : WorkKept s (serveRewriteCard b s) := by
  rcases serveRewriteCard_cases b s with ha | ⟨prog, r, s1, s2, -, -, hs1, -, -, -, -, hr, e⟩
  · exact ha.workKept
  · have h1 : WorkKept s s1 := by
      rcases hs1 with ⟨-, rfl⟩ | ⟨-, -, rfl⟩
      · exact .refl _
      · exact .of_eq (s.noteFault_workPart _)
    rw [e]
    refine (workKept_ofCore s).done (h1.trans ?_) _
    exact workKept_commit (t := (s2.writeCard (fieldAt b 2 3) { r with seq := nextCardSeq r.seq }).setTotals
      (s.store.totals.adjust ((r.balance : Int) - ((s.card (fieldAt b 2 3)).balance : Int)))) hr (by rfl)
      (.cardState (fieldAt b 2 3) (nextCardSeq r.seq) .rewrite r.state r.suspend r.failures
        (some ({ r with seq := nextCardSeq r.seq }, (r.balance : Int) - ((s.card (fieldAt b 2 3)).balance : Int)))) none

end

theorem laneStep_workKept {kind : Nat} {decision : LaneReq → State → State × Reply}
    (hd : ∀ req u, WorkKept u (decision req u).1) (s : State) : WorkKept s (laneStep kind decision s) :=
  (workKept_ofCore s).laneStep (.refl s) fun _ _ _ hu => hu.trans (hd _ _)

theorem cardStep_workKept {kind : Nat} {serve : List Byte → State → State} (hd : ∀ b u, WorkKept u (serve b u)) (s : State) :
    WorkKept s (cardStep kind serve s) :=
  cardStep_of (P := WorkKept s) (.refl s) fun b _ => ((workKept_ofCore s).takeOffice (.refl s)).trans (hd b s.takeOffice)

/-- They leave shops, payouts, channels and periods as they are. -/
theorem CardCommand.workKept {i : Instr} (hi : CardCommand i) (s : State) : nextAll (WorkKept s) (exec i s) := by
  cases hi with
  | activate => exact laneStep_workKept decideActivate_workKept s
  | load => exact laneStep_workKept decideLoad_workKept s
  | balance => exact laneStep_workKept (fun req u => (decideBalance_declines req u).workKept) s
  | redeem => exact laneStep_workKept decideRedeem_workKept s
  | cashout => exact laneStep_workKept decideCashout_workKept s
  | authorize => exact laneStep_workKept decideAuthorize_workKept s
  | capture => exact laneStep_workKept decideCapture_workKept s
  | void => exact laneStep_workKept decideVoid_workKept s
  | refund => exact laneStep_workKept decideRefund_workKept s
  | expiry =>
    show nextAll _ (execExpiry s)
    unfold execExpiry
    split
    · split
      · exact s.expire_workKept _
      · exact WorkKept.refl s
    · exact WorkKept.refl s
  | readCard => exact cardStep_workKept (fun b u => (serveReadCard_answers b u).workKept) s
  | provision => exact cardStep_workKept serveProvision_workKept s
  | suspend => exact cardStep_workKept serveSuspend_workKept s
  | resume => exact cardStep_workKept serveResume_workKept s
  | closeCard => exact cardStep_workKept serveCloseCard_workKept s
  | adjust => exact cardStep_workKept serveAdjust_workKept s
  | rewriteCard => exact cardStep_workKept serveRewriteCard_workKept s
  | readTotals => exact cardStep_workKept (fun b u => (serveReadTotals_answers b u).workKept) s

end Sys2Proof.Machine
end

section
/-! PROOFS. The shops that bindings, holds, captures, accruals, entries and answers name are shops: the operations and the Settlement
Unit (R33, R34, R113, R142, R165). -/

namespace Sys2Proof.Machine

/-! ### The part of the state that names shops -/

/-- The state without everything but what names shops. -/
def State.namePart (s : State) : State :=
  { State.reset with
    holds := s.holds,
    settle := { Settle.initial with accruals := s.settle.accruals, answers := s.settle.answers },
    store := { Store.blank with bindings := s.store.bindings, window := s.store.window, ring := s.store.ring } }

/-- What a single grant of a free slot to a waiting channel keeps, all the grants made at once keep. -/
theorem State.grantSlots_induct {P : State → Prop} {s : State} (hs : P s)
    (step : ∀ u k c, P u → u.freeSlot = some k → u.chooseChannel = some c → P (u.grantTo k c)) : P s.grantSlots := by
  unfold State.grantSlots
  generalize 4 = n
  induction n generalizing s with
  | zero => exact hs
  | succ n ih =>
    unfold State.grantUpTo
    split
    · next s1 hg =>
      obtain ⟨k, c, -, free, chosen, rfl⟩ := (s.grantOnce_eq_some_iff s1).mp hg
      exact ih (step s k c hs free chosen)
    · exact hs

theorem shopsNamed_ofCore : OfCore State.shopsNamed := fun _ => Iff.rfl

theorem State.shopsNamed.of_part {s t : State} (h : s.shopsNamed) (hv : t.namePart = s.namePart) : t.shopsNamed := by
  have look : ∀ u : State, u.namePart.shopsNamed ↔ u.shopsNamed := fun _ => Iff.rfl
  rw [← look, hv, look]
  exact h

/-- An effect, where there is one, names a shop or none. -/
def effectNamed (o : Option Effect) : Prop := ∀ e, o = some e → ∀ k, e.shop = some k → k ≤ 511

theorem effectNamed_none : effectNamed none := nofun

theorem effectNamed_some {e : Effect} (h : ∀ k, e.shop = some k → k ≤ 511) : effectNamed (some e) := fun e' he => by
  cases he
  exact h

section
variable {s : State} (h : s.shopsNamed)
include h

theorem State.shopsNamed.append (p : Nat) {b : EntryBody} (named : effectNamed (effectOfEntry b)) : (s.append p b).shopsNamed := by
  obtain ⟨bindings, holds, window, accruals, ring, dones, backs⟩ := h
  refine ⟨fun k hk => ?_, fun j hold open_ => ?_, fun r mem => ?_, fun e period source mem => ?_, fun x mem e he => ?_,
    fun tag shop period mem => ?_, fun tag shop period reason mem => ?_⟩
  · rw [State.append_binding]; exact bindings k hk
  · rw [State.append_holdSlot] at open_; exact holds j hold open_
  · rw [State.append_store_window] at mem; exact window r mem
  · rw [State.append_settle] at mem; exact accruals e period source mem
  · rw [State.append_store_ring] at mem
    rcases List.mem_cons.mp (List.mem_of_mem_take mem) with rfl | old
    · exact named e he
    · exact ring x old e he
  · rw [State.append_settle] at mem; exact dones tag shop period mem
  · rw [State.append_settle] at mem; exact backs tag shop period reason mem

/-- An entry of the Settlement Unit posts no accrual. -/
theorem State.shopsNamed.appendOwn (p : Nat) {b : EntryBody} (own : effectOfEntry b = none) : (s.append p b).shopsNamed :=
  h.append p (own ▸ effectNamed_none)

theorem State.shopsNamed.post {b : EntryBody} {o : Option Effect} (entry : effectNamed (effectOfEntry b)) (effect : effectNamed o) :
    (s.post b o).shopsNamed := by
  have appended := h.append s.ledger.period entry
  cases o with
  | none => exact appended
  | some e =>
    obtain ⟨bindings, holds, window, accruals, ring, dones, backs⟩ := appended
    refine ⟨bindings, holds, window, fun e' period source mem => ?_, ring, dones, backs⟩
    rcases List.mem_append.mp mem with old | new
    · exact accruals e' period source old
    · cases List.mem_singleton.mp new
      exact effect e rfl

/-- The queues of accruals and answers may lose entries; what they gain names shops. -/
theorem State.shopsNamed.queues {accruals : List Accrual} {answers : List Answer}
    (fewer : ∀ e period source, Accrual.money e period source ∈ accruals → Accrual.money e period source ∈ s.settle.accruals)
    (dones : ∀ tag shop period, Answer.done tag shop period ∈ answers →
      Answer.done tag shop period ∈ s.settle.answers ∨ shop ≤ 511)
    (backs : ∀ tag shop period reason, Answer.back tag shop period reason ∈ answers →
      Answer.back tag shop period reason ∈ s.settle.answers ∨ shop ≤ 511) :
    ({ s with settle.accruals := accruals, settle.answers := answers } : State).shopsNamed := by
  obtain ⟨bindings, holds, window, named, ring, doneNamed, backNamed⟩ := h
  exact ⟨bindings, holds, window, fun e period source mem => named e period source (fewer e period source mem), ring,
    fun tag shop period mem => (dones tag shop period mem).elim (doneNamed tag shop period) id,
    fun tag shop period reason mem => (backs tag shop period reason mem).elim (backNamed tag shop period reason) id⟩

theorem State.shopsNamed.dropAccrual : s.dropAccrual.shopsNamed :=
  h.queues (fun _ _ _ => List.mem_of_mem_tail) (fun _ _ _ => .inl) fun _ _ _ _ => .inl

theorem State.shopsNamed.dropAnswer : s.dropAnswer.shopsNamed :=
  h.queues (fun _ _ _ => id) (fun _ _ _ mem => .inl (List.mem_of_mem_tail mem)) fun _ _ _ _ mem => .inl (List.mem_of_mem_tail mem)

theorem State.shopsNamed.openHold (slot : Nat) {hold : Hold} (shop : hold.shop ≤ 511) : (s.openHold slot hold).shopsNamed := by
  obtain ⟨bindings, holds, rest⟩ := h
  obtain ⟨here, there⟩ := s.openHold_holdSlot slot hold
  refine ⟨bindings, fun j other open_ => ?_, rest⟩
  by_cases is : j = slot
  · rw [is, here] at open_
    cases open_
    exact shop
  · rw [there j is] at open_
    exact holds j other open_

theorem State.shopsNamed.endHold (slot gen : Nat) (cause : EndCause) : (s.endHold slot gen cause).shopsNamed := by
  obtain ⟨bindings, holds, rest⟩ := h
  obtain ⟨here, there⟩ := s.endHold_holdSlot slot gen cause
  refine ⟨bindings, fun j other open_ => ?_, rest⟩
  by_cases is : j = slot
  · rw [is, here] at open_
    cases open_
  · rw [there j is] at open_
    exact holds j other open_

theorem State.shopsNamed.setWindow {w : List CaptureRecord} (named : ∀ r ∈ w, r.shop ≤ 511) :
    ({ s with store.window := w } : State).shopsNamed := by
  obtain ⟨bindings, holds, -, rest⟩ := h
  exact ⟨bindings, holds, named, rest⟩

theorem State.shopsNamed.addWindow {r : CaptureRecord} (shop : r.shop ≤ 511) : (s.addWindow r).shopsNamed := by
  refine h.setWindow fun x mem => ?_
  have cases_ : x ∈ s.store.window ∨ x = r := by
    unfold addCapture at mem
    split at mem
    · exact (List.mem_append.mp mem).imp List.mem_of_mem_tail List.mem_singleton.mp
    · exact (List.mem_append.mp mem).imp id List.mem_singleton.mp
  rcases cases_ with old | rfl
  · obtain ⟨-, -, window, -⟩ := h
    exact window x old
  · exact shop

theorem State.shopsNamed.reserve {t : State} {cls : ResClass} {n : Nat} (hr : s.reserve cls n = some t) : t.shopsNamed := by
  obtain ⟨-, rfl⟩ := State.reserve_eq hr
  exact h.of_part (by rw [State.raiseIf_frame]; rfl)

theorem State.shopsNamed.raiseIf (b : Bool) (src : Source) : (s.raiseIf b src).shopsNamed :=
  h.of_part (by rw [State.raiseIf_frame]; rfl)

theorem State.shopsNamed.grantSlots : s.grantSlots.shopsNamed :=
  State.grantSlots_induct h fun _ _ _ hu _ _ => hu.of_part (by rfl)

theorem State.shopsNamed.noteWork : s.noteWork.shopsNamed := by
  rw [State.noteWork_eq]
  exact h.of_part (by rfl)

theorem State.shopsNamed.noteFault (serial : Nat) : (s.noteFault serial).shopsNamed := by
  unfold State.noteFault
  split_ifs <;> exact h

theorem State.shopsNamed.commitRoll (k : Nat) : (s.commitRoll k).shopsNamed := by
  unfold State.commitRoll
  exact (State.shopsNamed.appendOwn (h.of_part (by rfl)) _ rfl).raiseIf _ _

theorem State.shopsNamed.rollIfBehind {t : State} {k : Nat} (hr : s.rollIfBehind k = some t) : t.shopsNamed := by
  unfold State.rollIfBehind at hr
  split at hr
  · obtain ⟨s1, hs1, rfl⟩ := Option.map_eq_some_iff.mp hr
    exact (h.reserve hs1).commitRoll k
  · cases hr; exact h

theorem State.shopsNamed.rollForEffect {t : State} {e : Effect} (hr : s.rollForEffect e = some t) : t.shopsNamed := by
  unfold State.rollForEffect at hr
  split at hr
  · exact h.rollIfBehind hr
  · cases hr; exact h

theorem State.shopsNamed.applyEffect (e : Effect) (source : Nat) : (s.applyEffect e source).shopsNamed := by
  cases e <;> exact State.shopsNamed.raiseIf (h.of_part (by rfl)) _ _

theorem State.shopsNamed.makeCounts : s.makeCounts.shopsNamed := by
  unfold State.makeCounts
  split
  · exact h
  · exact State.shopsNamed.raiseIf (h.of_part (by rfl)) _ _

theorem State.shopsNamed.makeSettled (k : Nat) : (s.makeSettled k).shopsNamed :=
  State.shopsNamed.raiseIf (h.of_part (by rfl)) _ _

theorem State.shopsNamed.makeReturned (k : Nat) : (s.makeReturned k).shopsNamed :=
  State.shopsNamed.raiseIf (h.of_part (by rfl)) _ _

theorem State.shopsNamed.advanceNotice : s.advanceNotice.shopsNamed := by
  unfold State.advanceNotice
  obtain ⟨d, hd⟩ := foldl_setChannel_frame (fun t c => (t.channel c).advanceNotice) [0, 1, 2, 3] s
  rw [hd]
  exact State.shopsNamed.grantSlots (h.of_part (by rfl))

theorem State.shopsNamed.rearm : s.rearm.shopsNamed := by
  unfold State.rearm
  exact State.shopsNamed.raiseIf (State.shopsNamed.raiseIf (h.of_part (by rfl)) _ _) _ _

theorem State.shopsNamed.rollInHand : s.rollInHand.shopsNamed := by
  rcases s.rollInHand_cases with e | ⟨k, n, s1, -, -, hr, e⟩
  · rw [e]; exact h
  · rw [e]
    have counts : s.makeCountsIfRecovering.shopsNamed := by
      unfold State.makeCountsIfRecovering
      split
      · exact h.makeCounts
      · exact h
    exact (counts.reserve hr).commitRoll k

/-! ### The Settlement Unit and the channels -/

theorem execAccrualApply_named : nextAll State.shopsNamed (execAccrualApply s) := by
  unfold execAccrualApply
  split
  · split
    · split
      · next hr => exact ((h.noteWork.rollForEffect hr).applyEffect _ _).dropAccrual
      · exact h
    · exact h
  · exact h

theorem execRollSweep_named : nextAll State.shopsNamed (execRollSweep s) := by
  unfold execRollSweep
  split
  · split
    · next hr => exact ((h.reserve hr).commitRoll _).of_part (by rfl)
    · exact h
  · exact h

theorem execSlotGrant_named : nextAll State.shopsNamed (execSlotGrant s) := by
  unfold execSlotGrant
  split
  · next s1 hg =>
    obtain ⟨k, c, -, -, -, rfl⟩ := (s.grantOnce_eq_some_iff s1).mp hg
    exact h.of_part (by rfl)
  · exact h

theorem State.shopsNamed.makeVisit (v : Visit) : (s.makeVisit v).1.shopsNamed := by
  unfold State.makeVisit
  dsimp only
  have h1 : (if s.behind v.shop = true then s.commitRoll v.shop else s.giveBack 1).shopsNamed := by
    split
    · exact h.commitRoll _
    · exact h
  generalize (if s.behind v.shop = true then s.commitRoll v.shop else s.giveBack 1) = s1 at h1
  split
  · exact State.shopsNamed.appendOwn (State.shopsNamed.of_part h1 (by rfl)) _ rfl
  · exact State.shopsNamed.of_part h1 (by rfl)

theorem execChannelVisit_named : nextAll State.shopsNamed (execChannelVisit s) := by
  unfold execChannelVisit
  split
  · split
    · next v rest _ =>
      have h0 : s.takeVisit.shopsNamed := h.noteWork.of_part (by rfl)
      show (s.takeVisit.serveVisit v).shopsNamed
      unfold State.serveVisit
      split
      · exact State.shopsNamed.grantSlots (h0.of_part (by rfl))
      · next s1 hr =>
        have hv : (s1.makeVisit v).1.shopsNamed := (h0.reserve hr).makeVisit v
        exact State.shopsNamed.grantSlots (State.shopsNamed.raiseIf (hv.of_part (by rfl)) _ _)
    · exact h
  · exact h

omit h in
theorem bankAnswer_shop {f : Frame} {a : Answer} (is : bankAnswer f = some a) :
    (∃ tag shop period, a = .done tag shop period ∧ shop ≤ 511) ∨
      ∃ tag shop period reason, a = .back tag shop period reason ∧ shop ≤ 511 := by
  unfold bankAnswer at is
  dsimp only at is
  split_ifs at is with high done_ zero
  · exact .inl ⟨_, _, _, (Option.some.inj is).symm, Nat.le_of_lt_succ (Nat.not_le.mp high)⟩
  · exact .inr ⟨_, _, _, _, (Option.some.inj is).symm, Nat.le_of_lt_succ (Nat.not_le.mp high)⟩

theorem execBankFrameTaken_named : nextAll State.shopsNamed (execBankFrameTaken s) := by
  unfold execBankFrameTaken
  split
  · split
    · split
      · next a is =>
        refine State.shopsNamed.queues (s := s.dropBank) h (fun _ _ _ => id) (fun tag shop period mem => ?_)
          fun tag shop period reason mem => ?_
        · refine (List.mem_append.mp mem).imp id fun new => ?_
          rcases bankAnswer_shop is with ⟨_, _, _, e, le⟩ | ⟨_, _, _, _, e, -⟩
          · rw [e] at new; cases List.mem_singleton.mp new; exact le
          · rw [e] at new; cases List.mem_singleton.mp new
        · refine (List.mem_append.mp mem).imp id fun new => ?_
          rcases bankAnswer_shop is with ⟨_, _, _, e, -⟩ | ⟨_, _, _, _, e, le⟩
          · rw [e] at new; cases List.mem_singleton.mp new
          · rw [e] at new; cases List.mem_singleton.mp new; exact le
      · exact h
    · exact h
  · exact h

theorem execPull_named : nextAll State.shopsNamed (execPull s) := by
  unfold execPull
  split
  · split
    · dsimp only
      split
      · exact h
      · exact State.shopsNamed.grantSlots (h.of_part (by rfl))
    · exact h
  · exact h

theorem State.shopsNamed.commitDone (tag shop : Nat) (late : Bool) : (s.commitDone tag shop late).shopsNamed :=
  (h.makeSettled shop).appendOwn _ rfl

theorem State.shopsNamed.commitBack (tag shop reason : Nat) (late : Bool) : (s.commitBack tag shop reason late).shopsNamed :=
  ((h.makeReturned shop).appendOwn _ rfl).of_part (by rfl)

theorem State.shopsNamed.releaseSlot (k : Nat) : (s.releaseSlot k).shopsNamed :=
  State.shopsNamed.grantSlots (h.of_part (by rfl))

theorem execDoneAnswer_named : nextAll State.shopsNamed (execDoneAnswer s) := by
  unfold execDoneAnswer
  split
  · split
    · have h0 := h.noteWork.dropAnswer
      dsimp only
      split
      · exact h0
      · next hr => exact ((h0.reserve hr).commitDone _ _ _).releaseSlot _
      · next hr => exact ((h0.reserve hr).commitDone _ _ _).of_part (by rfl)
      · exact h
    · exact h
  · exact h

theorem execBackAnswer_named : nextAll State.shopsNamed (execBackAnswer s) := by
  unfold execBackAnswer
  split
  · split
    · have h0 := h.noteWork.dropAnswer
      dsimp only
      split
      · exact h0
      · next hr => exact ((h0.reserve hr).commitBack _ _ _ _).releaseSlot _
      · next hr => exact ((h0.reserve hr).commitBack _ _ _ _).of_part (by rfl)
      · exact h
    · exact h
  · exact h

theorem execPayDeadlineReached_named (slot : Nat) : nextAll State.shopsNamed (execPayDeadlineReached slot s) := by
  unfold execPayDeadlineReached
  split
  · split
    · exact h
    · refine State.shopsNamed.queues (s := s.setSlot slot _) (h.of_part (by rfl)) (fun _ _ _ => id) (fun _ _ _ mem => ?_)
        fun _ _ _ _ mem => ?_
      · refine .inl ((List.mem_append.mp mem).elim id fun new => ?_)
        cases List.mem_singleton.mp new
      · refine .inl ((List.mem_append.mp mem).elim id fun new => ?_)
        cases List.mem_singleton.mp new
  · exact h

theorem execDeadlineExpiry_named : nextAll State.shopsNamed (execDeadlineExpiry s) := by
  unfold execDeadlineExpiry
  split
  · split
    · next k tag rest _ =>
      have h0 := h.noteWork.dropAnswer
      dsimp only
      split
      · next p _ =>
        split
        · split
          · next s2 hr =>
            have h1 : (s2.makeInDoubt p.shop).shopsNamed := (h0.reserve hr).of_part (by rfl)
            exact State.shopsNamed.releaseSlot ((h1.appendOwn _ rfl).of_part (by rfl)) k
          · exact h
        · exact h0
      · exact h0
    · exact h
  · exact h

theorem execPaySend_named : nextAll State.shopsNamed (execPaySend s) := by
  unfold execPaySend
  split
  · split
    · exact h
    · split <;> exact h.of_part (by rfl)
  · exact h

theorem execStreamMark_named : nextAll State.shopsNamed (execStreamMark s) := by
  unfold execStreamMark
  split
  · dsimp only
    split <;> exact h.of_part (by rfl)
  · exact h

theorem execRecoveryDoubt_named : nextAll State.shopsNamed (execRecoveryDoubt s) := by
  unfold execRecoveryDoubt
  split
  · split
    · exact h
    · split
      · exact h
      · next k _ _ s1 hr =>
        have doubted : (s1.setShop k { s.shop k with closing := { (s.shop k).closing with state := .inDoubt } }).shopsNamed :=
          (h.reserve hr).of_part (by rfl)
        exact State.shopsNamed.makeCounts ((doubted.appendOwn _ rfl).of_part (by rfl))
  · exact h

theorem execAccrualReplay_named : nextAll State.shopsNamed (execAccrualReplay s) := by
  unfold execAccrualReplay
  have hc := h.makeCounts
  split
  · dsimp only
    split
    · exact hc
    · split
      · exact hc
      · split
        · exact hc
        · next s1 hr => exact ((hc.rollForEffect hr).applyEffect _ _).of_part (by rfl)
  · exact h

/-! ### Office requests -/

theorem serveSetShop_named (b : List Byte) : (serveSetShop b s).shopsNamed := by
  have hP := shopsNamed_ofCore
  unfold serveSetShop
  dsimp only
  split
  · exact hP.refuse h _
  · split
    · exact hP.refuse h _
    · split
      · exact hP.refuse h _
      · next s1 hr => exact hP.done ((h.rollIfBehind hr).of_part (by rfl)) _

theorem serveReadShop_named (b : List Byte) : (serveReadShop b s).shopsNamed := by
  unfold serveReadShop
  dsimp only
  split
  · exact shopsNamed_ofCore.refuse h _
  · exact shopsNamed_ofCore.done h _

theorem serveSnapShop_named (b : List Byte) : (serveSnapShop b s).shopsNamed := by
  have hP := shopsNamed_ofCore
  unfold serveSnapShop
  dsimp only
  split
  · exact hP.refuse h _
  · split
    · exact hP.refuse h _
    · next s1 hr => exact hP.done ((h.rollIfBehind hr).of_part (by rfl)) _

theorem serveResolve_named (b : List Byte) : (serveResolve b s).shopsNamed := by
  have hP := shopsNamed_ofCore
  unfold serveResolve
  dsimp only
  split
  · exact hP.refuse h _
  · split
    · exact hP.refuse h _
    · split
      · exact hP.refuse h _
      · split
        · exact hP.refuse h _
        · next s1 hr =>
          refine hP.done (State.shopsNamed.appendOwn ?_ _ rfl) _
          split
          · exact (h.reserve hr).makeSettled _
          · exact (h.reserve hr).makeReturned _

theorem serveSetChannel_named (b : List Byte) : (serveSetChannel b s).shopsNamed := by
  have hP := shopsNamed_ofCore
  unfold serveSetChannel
  split_ifs
  · exact hP.refuse h _
  · exact hP.refuse h _
  · split
    · exact hP.refuse h _
    · exact hP.done (h.of_part (by rfl)) _

theorem serveArm_named (c : Nat) : (serveArm c s).shopsNamed := by
  have hP := shopsNamed_ofCore
  unfold serveArm
  dsimp only
  split
  · exact hP.refuse h _
  · exact hP.done (State.shopsNamed.grantSlots (h.of_part (by rfl))) _

theorem serveStep_named (c : Nat) : (serveStep c s).shopsNamed := by
  have hP := shopsNamed_ofCore
  unfold serveStep
  dsimp only
  split
  · exact hP.done (State.shopsNamed.grantSlots (h.of_part (by rfl))) _
  · exact hP.refuse h _

theorem serveUnmask_named (c : Nat) : (serveUnmask c s).shopsNamed := by
  have hP := shopsNamed_ofCore
  unfold serveUnmask
  dsimp only
  split
  · exact hP.done (State.shopsNamed.grantSlots (h.of_part (by rfl))) _
  · exact hP.done (h.of_part (by rfl)) _
  · exact hP.refuse h _
  all_goals exact hP.done h _

theorem serveChannelStatus_named (b : List Byte) : (serveChannelStatus b s).shopsNamed := by
  unfold serveChannelStatus
  dsimp only
  split
  · exact shopsNamed_ofCore.refuse h _
  · exact shopsNamed_ofCore.done (h.of_part (by rfl)) _

theorem serveWriteBinding_named (b : List Byte) : (serveWriteBinding b s).shopsNamed := by
  unfold serveWriteBinding
  dsimp only
  split
  · exact shopsNamed_ofCore.refuse h _
  · next x _ =>
    split
    · exact shopsNamed_ofCore.refuse h _
    · next good =>
      refine shopsNamed_ofCore.done ?_ _
      obtain ⟨bindings, rest⟩ := h
      refine ⟨fun k hk => ?_, rest⟩
      unfold State.binding
      by_cases is : k = tableIndex b
      · rw [is, Table.read_write_same]
        simp only [Binding.bad, Bool.or_eq_true, decide_eq_true_eq, not_or, not_le] at good
        exact Nat.le_of_lt_succ good.2
      · rw [Table.read_write_ne _ _ _ is]
        exact bindings k hk

theorem serveWriteSettings_named (b : List Byte) : (serveWriteSettings b s).shopsNamed := by
  unfold serveWriteSettings
  split
  · exact shopsNamed_ofCore.refuse h _
  · exact shopsNamed_ofCore.done (h.of_part (by rfl)) _

theorem SettleCommand.named {i : Instr} (hi : SettleCommand i) : nextAll State.shopsNamed (exec i s) := by
  have hP := shopsNamed_ofCore
  have shop : ∀ {kind serve}, (∀ b u, State.shopsNamed u → (serve b u).shopsNamed) → (shopStep kind serve s).shopsNamed :=
    fun hd => shopStep_of (P := State.shopsNamed) h (hP.refuse h _) (hP.refuse (s := requestServed s) (h.of_part (by rfl)) _)
      fun b _ _ _ => hd b _ (h.of_part (by rfl))
  have office : ∀ {kind serve}, (∀ b, (serve b s).shopsNamed) → (officeStep kind serve s).shopsNamed :=
    fun hd => officeStep_of (P := State.shopsNamed) h fun b _ => hd b
  cases hi with
  | paySend => exact execPaySend_named h
  | accrualApply => exact execAccrualApply_named h
  | rollSweep => exact execRollSweep_named h
  | slotGrant => exact execSlotGrant_named h
  | channelVisit => exact execChannelVisit_named h
  | bankFrameTaken => exact execBankFrameTaken_named h
  | pull => exact execPull_named h
  | doneAnswer => exact execDoneAnswer_named h
  | backAnswer => exact execBackAnswer_named h
  | payDeadlineReached slot => exact execPayDeadlineReached_named h slot
  | deadlineExpiry => exact execDeadlineExpiry_named h
  | streamMark => exact execStreamMark_named h
  | recoveryDoubt => exact execRecoveryDoubt_named h
  | accrualReplay => exact execAccrualReplay_named h
  | writeTableAccept => exact hP.answerable.writeStep h fun b _ _ _ _ => hP.done (h.of_part (by rfl)) _
  | writeTableHouse => exact hP.answerable.writeStep h fun b _ _ _ _ => hP.done (h.of_part (by rfl)) _
  | writeTableBinding => exact hP.answerable.writeStep h fun b _ _ _ _ => serveWriteBinding_named h b
  | writeTableSettings => exact hP.answerable.writeStep h fun b _ _ _ _ => serveWriteSettings_named h b
  | setShop => exact shop fun b _ hu => serveSetShop_named hu b
  | readShop => exact shop fun b _ hu => serveReadShop_named hu b
  | snapShop =>
    show nextAll _ (execSnapShop s)
    unfold execSnapShop
    split
    · exact hP.refuse h _
    · exact shop fun b _ hu => serveSnapShop_named hu b
  | readHouse => exact shop fun b _ hu => hP.done hu _
  | resolve => exact shop fun b _ hu => serveResolve_named hu b
  | setChannel => exact office fun b => serveSetChannel_named h b
  | armChannel => exact office fun b => hP.answerable.onChannel h fun _ _ => serveArm_named h _
  | stepChannel => exact office fun b => hP.answerable.onChannel h fun _ _ => serveStep_named h _
  | maskChannelMask => exact hP.answerable.onAction h fun _ _ _ _ => hP.done (h.of_part (by rfl)) _
  | maskChannelUnmask => exact hP.answerable.onAction h fun _ _ _ _ => serveUnmask_named h _
  | channelStatus => exact office fun b => serveChannelStatus_named h b
  | journalAck =>
    refine office fun b => hP.done ?_ _
    split <;> exact h.of_part (by rfl)

end

end Sys2Proof.Machine
end

section
/-! PROOFS. The shops that are named stay shops: the commands on cards and on the ledger as a whole (R33, R34, R93, R113). -/

namespace Sys2Proof.Machine

/-! ### Requests on cards -/

theorem effectNamed_of_shop {e : Effect} {k : Nat} (shop : e.shop = some k) (le : k ≤ 511) : effectNamed (some e) :=
  effectNamed_some fun j hj => by
    rw [shop] at hj
    cases hj
    exact le

theorem effectNamed_unclaimed (amount : Nat) : effectNamed (some (.unclaimed amount)) := effectNamed_some nofun

section
variable {s : State} (h : s.shopsNamed)
include h

theorem State.shopsNamed.boundShop {lane address shop : Nat} (hl : lane ≤ 3) (bound : s.boundShop lane address = some shop) :
    shop ≤ 511 := by
  obtain ⟨-, -, -, i, hi, -, -, rfl, -⟩ := (State.boundShop_eq_some_iff ..).mp bound
  obtain ⟨bindings, -⟩ := h
  exact bindings _ (by omega)

theorem State.shopsNamed.heldShop {ref slot gen : Nat} {hold : Hold} (res : s.resolveHold ref = .active slot gen hold) :
    hold.shop ≤ 511 := by
  obtain ⟨-, -, open_, -⟩ := State.resolveHold_active res
  obtain ⟨-, holds, -⟩ := h
  exact holds slot hold open_

theorem State.shopsNamed.capturedShop {ref : Nat} {rec : CaptureRecord} (found : s.findCapture ref = some rec) : rec.shop ≤ 511 := by
  obtain ⟨-, -, window, -⟩ := h
  exact window rec (List.mem_of_find?_eq_some found)

theorem State.shopsNamed.declines {t : State} (hd : Declines s t) : t.shopsNamed := by
  cases hd with
  | kept => exact h
  | noted serial => exact h.noteFault serial
  | failed serial prog _ _ hr => exact ((h.reserve hr).of_part (by rfl)).post effectNamed_none effectNamed_none

theorem State.shopsNamed.answers {t : State} (ha : Answers s t) : t.shopsNamed := by
  cases ha with
  | kept code data => exact shopsNamed_ofCore.of_eq (State.answerOffice_core ..) h
  | noted serial expected code data => exact shopsNamed_ofCore.of_eq (State.answerOffice_core ..) (h.noteFault serial)

theorem State.shopsNamed.officeCommits {t : State} {serial : Nat} {r : CardRecord} {totals : Totals} {body : EntryBody}
    {effect : Option Effect} (entry : effectNamed (effectOfEntry body)) (posted : effectNamed effect)
    (hc : officeCommits s t serial r totals body effect) : t.shopsNamed := by
  obtain ⟨s1, hr, rfl⟩ := hc
  exact shopsNamed_ofCore.done (State.shopsNamed.post ((h.reserve hr).of_part (by rfl)) entry posted) _

/-- A commit of an office request that posts no accrual. -/
theorem State.shopsNamed.officeCommitsOwn {t : State} {serial : Nat} {r : CardRecord} {totals : Totals} {body : EntryBody}
    (hc : Machine.officeCommits s t serial r totals body none) (own : effectOfEntry body = none) : t.shopsNamed :=
  h.officeCommits (own ▸ effectNamed_none) effectNamed_none hc

/-- A commit on a card whose entry posts its own effect for a shop. -/
theorem State.shopsNamed.sale {s1 t : State} {cls : ResClass} {n k : Nat} {b : EntryBody} {e : Effect}
    (hr : s.reserve cls n = some s1) (hv : s1.shopsNamed → t.shopsNamed) (entry : effectOfEntry b = some e)
    (shop : e.shop = some k) (le : k ≤ 511) : (t.post b (some e)).shopsNamed :=
  (hv (h.reserve hr)).post (entry ▸ effectNamed_of_shop shop le) (effectNamed_of_shop shop le)

section
variable (req : LaneReq) (hl : req.lane ≤ 3)
include hl

theorem decideActivate_named : (decideActivate req s).1.shopsNamed := by
  rcases decideActivate_cases req s with hd | ⟨shop, prog, s1, adm, -, -, hr, e⟩
  · exact h.declines hd
  · rw [e]
    exact h.sale hr (fun h1 => h1.of_part (by rfl)) (by rfl) (by rfl) (h.boundShop hl adm.bound)

theorem decideLoad_named : (decideLoad req s).1.shopsNamed := by
  rcases decideLoad_cases req s with hd | ⟨shop, prog, s1, adm, -, hr, e⟩
  · exact h.declines hd
  · rw [e]
    exact h.sale hr (fun h1 => h1.of_part (by rfl)) (by rfl) (by rfl) (h.boundShop hl adm.bound)

theorem decideRedeem_named : (decideRedeem req s).1.shopsNamed := by
  rcases decideRedeem_cases req s with hd | ⟨shop, prog, s1, amount, result, adm, -, hr, e⟩
  · exact h.declines hd
  · rw [e]
    have le := h.boundShop hl adm.bound
    exact h.sale hr (fun h1 => State.shopsNamed.addWindow (h1.of_part (by rfl)) le) (by rfl) (by rfl) le

theorem decideCashout_named : (decideCashout req s).1.shopsNamed := by
  rcases decideCashout_cases req s with hd | ⟨shop, prog, s1, adm, -, -, -, hr, e⟩
  · exact h.declines hd
  · rw [e]
    exact h.sale hr (fun h1 => h1.of_part (by rfl)) (by rfl) (by rfl) (h.boundShop hl adm.bound)

theorem decideAuthorize_named : (decideAuthorize req s).1.shopsNamed := by
  rcases decideAuthorize_cases req s with hd | ⟨shop, prog, s1, slot, amount, result, adm, -, -, -, hr, e⟩
  · exact h.declines hd
  · rw [e]
    have opened := (h.reserve hr).openHold slot
      (hold := { card := fieldAt req.body 3 3, shop := shop, lane := req.lane, terminal := fieldAt req.body 0 1, amount := amount,
                 rate := (s.program prog).rate, deadline := s.time + milliseconds (s.program prog).lifetime })
      (h.boundShop hl adm.bound)
    exact (opened.of_part (by rfl)).post effectNamed_none effectNamed_none

end

section
variable (req : LaneReq)

theorem decideCapture_named : (decideCapture req s).1.shopsNamed := by
  rcases decideCapture_cases req s with hd | ⟨s1, slot, gen, hold, -, res, -, -, -, -, hr, e⟩
  · exact h.declines hd
  · rw [e]
    have le := h.heldShop res
    exact h.sale hr (fun h1 => State.shopsNamed.addWindow ((h1.endHold slot gen .captured).of_part (by rfl)) le) (by rfl)
      (by rfl) le

theorem decideVoid_named : (decideVoid req s).1.shopsNamed := by
  rcases decideVoid_cases req s with hd | ⟨s1, slot, gen, hold, -, -, -, hr, e⟩
  · exact h.declines hd
  · rw [e]
    have ended := (h.reserve hr).endHold slot gen .voided
    exact (ended.of_part (by rfl)).post effectNamed_none effectNamed_none

omit h in
theorem refundRecord_shop {ref amount : Nat} {w : List CaptureRecord} {n : Nat} (named : ∀ r ∈ w, r.shop ≤ n) :
    ∀ r ∈ refundRecord ref amount w, r.shop ≤ n := by
  induction w with
  | nil => exact named
  | cons x w ih =>
    obtain ⟨here, later⟩ := List.forall_mem_cons.mp named
    unfold refundRecord
    split
    · exact List.forall_mem_cons.mpr ⟨here, later⟩
    · exact List.forall_mem_cons.mpr ⟨here, ih later⟩

theorem decideRefund_named : (decideRefund req s).1.shopsNamed := by
  rcases decideRefund_cases req s with hd | ⟨shop, s1, rec, -, found, -, -, -, -, -, hr, e⟩
  · exact h.declines hd
  · rw [e]
    obtain ⟨-, -, named, -⟩ := id h
    exact h.sale (t := { (s1.writeCard _ _).setTotals _ with store.window := _ }) hr
      (fun h1 => State.shopsNamed.setWindow (s := (s1.writeCard _ _).setTotals _) (h1.of_part (by rfl)) (refundRecord_shop named))
      (by rfl) (by rfl) (h.capturedShop found)

end

theorem State.shopsNamed.expire (it : ExpiryItem) : (s.expire it).shopsNamed := by
  have ends : ∀ (s1 t : State) (slot gen : Nat) (b : EntryBody), s.reserve .general 1 = some s1 → effectOfEntry b = none →
      t.namePart = (s1.endHold slot gen .expired).namePart → (t.post b none).shopsNamed :=
    fun s1 t slot gen b hr own hv =>
      (((h.reserve hr).endHold slot gen .expired).of_part hv).post (own ▸ effectNamed_none) effectNamed_none
  rcases s.expire_cases it with ⟨-, e⟩ | ⟨slot, gen, hold, -, ⟨-, e⟩ | ⟨s1, hr, ⟨-, e⟩ | ⟨-, -, e⟩ | ⟨-, -, e⟩⟩⟩ <;> rw [e]
  · exact h
  · exact h
  · exact ends s1 _ slot gen _ hr rfl rfl
  · exact (((h.reserve hr).noteFault hold.card).endHold slot gen .expired).post effectNamed_none effectNamed_none
  · exact ends s1 _ slot gen _ hr rfl rfl

section
variable (b : List Byte)

theorem serveProvision_named : (serveProvision b s).shopsNamed := by
  rcases serveProvision_cases b s with ha | ⟨_, -, -, -, hc⟩
  · exact h.answers ha
  · exact h.officeCommitsOwn hc rfl

theorem serveSuspend_named : (serveSuspend b s).shopsNamed := by
  rcases serveSuspend_cases b s with ha | ⟨_, -, -, hc⟩
  · exact h.answers ha
  · exact h.officeCommitsOwn hc rfl

theorem serveResume_named : (serveResume b s).shopsNamed := by
  rcases serveResume_cases b s with ha | ⟨_, -, -, hc⟩
  · exact h.answers ha
  · exact h.officeCommitsOwn hc rfl

theorem serveCloseCard_named : (serveCloseCard b s).shopsNamed := by
  rcases serveCloseCard_cases b s with ha | ⟨_, -, -, -, -, -, hc⟩
  · exact h.answers ha
  · refine h.officeCommits ?_ ?_ hc
    · show effectNamed (if _ then _ else _)
      split
      · exact effectNamed_unclaimed _
      · exact effectNamed_none
    · split
      · exact effectNamed_none
      · exact effectNamed_unclaimed _

theorem serveAdjust_named : (serveAdjust b s).shopsNamed := by
  rcases serveAdjust_cases b s with ha | ⟨_, _, -, -, -, -, -, -, -, hc⟩
  · exact h.answers ha
  · exact h.officeCommitsOwn hc rfl

theorem serveRewriteCard_named : (serveRewriteCard b s).shopsNamed := by
  rcases serveRewriteCard_cases b s with ha | ⟨prog, r, s1, s2, -, -, hs1, -, -, -, -, hr, e⟩
  · exact h.answers ha
  · have h1 : s1.shopsNamed := by
      rcases hs1 with ⟨-, rfl⟩ | ⟨-, -, rfl⟩
      · exact h
      · exact h.noteFault _
    rw [e]
    refine shopsNamed_ofCore.done ?_ _
    have posted := State.shopsNamed.post (s := (s2.writeCard (fieldAt b 2 3) { r with seq := nextCardSeq r.seq }).setTotals
        (s.store.totals.adjust ((r.balance : Int) - ((s.card (fieldAt b 2 3)).balance : Int)))) (o := none)
      (b := .cardState (fieldAt b 2 3) (nextCardSeq r.seq) .rewrite r.state r.suspend r.failures
        (some ({ r with seq := nextCardSeq r.seq }, (r.balance : Int) - ((s.card (fieldAt b 2 3)).balance : Int))))
      ((h1.reserve hr).of_part (by rfl)) effectNamed_none effectNamed_none
    exact posted

end

theorem CardCommand.named {i : Instr} (hi : CardCommand i) : nextAll State.shopsNamed (exec i s) := by
  have hP := shopsNamed_ofCore
  have lane : ∀ {kind decision}, (∀ req : LaneReq, req.lane ≤ 3 → ∀ u, State.shopsNamed u → (decision req u).1.shopsNamed) →
      (laneStep kind decision s).shopsNamed := fun hd => hP.laneStep h fun l e work hu => by
    obtain ⟨-, -, -, low, -⟩ := State.laneWork_free work
    exact hd (requestOf l e) low _ hu
  have card : ∀ {kind serve}, (∀ b u, State.shopsNamed u → (serve b u).shopsNamed) → (cardStep kind serve s).shopsNamed :=
    fun hd => cardStep_of (P := State.shopsNamed) h fun b _ => hd b _ (hP.takeOffice h)
  cases hi with
  | activate => exact lane fun req low _ hu => decideActivate_named hu req low
  | load => exact lane fun req low _ hu => decideLoad_named hu req low
  | balance => exact lane fun req _ u hu => hu.declines (decideBalance_declines req u)
  | redeem => exact lane fun req low _ hu => decideRedeem_named hu req low
  | cashout => exact lane fun req low _ hu => decideCashout_named hu req low
  | authorize => exact lane fun req low _ hu => decideAuthorize_named hu req low
  | capture => exact lane fun req _ _ hu => decideCapture_named hu req
  | void => exact lane fun req _ _ hu => decideVoid_named hu req
  | refund => exact lane fun req _ _ hu => decideRefund_named hu req
  | expiry =>
    show nextAll _ (execExpiry s)
    unfold execExpiry
    split
    · split
      · exact h.expire _
      · exact h
    · exact h
  | readCard => exact card fun b u hu => hu.answers (serveReadCard_answers b u)
  | provision => exact card fun b _ hu => serveProvision_named hu b
  | suspend => exact card fun b _ hu => serveSuspend_named hu b
  | resume => exact card fun b _ hu => serveResume_named hu b
  | closeCard => exact card fun b _ hu => serveCloseCard_named hu b
  | adjust => exact card fun b _ hu => serveAdjust_named hu b
  | rewriteCard => exact card fun b _ hu => serveRewriteCard_named hu b
  | readTotals => exact card fun b u hu => hu.answers (serveReadTotals_answers b u)

/-! ### Resets, the warning and the ledger as a whole -/

theorem resetChip_named (cause : ResetCause) (capacity : Nat) (pfw : Bool) : (resetChip cause capacity pfw s).shopsNamed := by
  obtain ⟨bindings, -, window, -, ring, -, -⟩ := h
  exact ⟨bindings, nofun, window, fun _ _ _ mem => absurd mem List.not_mem_nil, ring, fun _ _ _ mem => absurd mem List.not_mem_nil,
    fun _ _ _ _ mem => absurd mem List.not_mem_nil⟩

theorem execRecoveryEnd_named : nextAll State.shopsNamed (execRecoveryEnd s) := by
  have leaves : ∀ u : State, u.shopsNamed → ∀ mode, (u.leaveRecovery mode).shopsNamed := fun u hu mode =>
    State.shopsNamed.rearm (hu.of_part (by rfl))
  unfold execRecoveryEnd
  split
  · exact h
  · split
    · exact leaves s h _
    · split
      · exact h
      · dsimp only
        split
        · exact leaves _ h.makeCounts _
        · split
          · exact h.makeCounts
          · next s1 hr => exact leaves _ ((h.makeCounts.reserve hr).appendOwn _ rfl) _

theorem execCloseEntry_named : nextAll State.shopsNamed (execCloseEntry s) := by
  have hP := shopsNamed_ofCore
  unfold execCloseEntry
  split
  · split
    · next requested rest _ =>
      have drop : s.noteWork.dropAccrual.shopsNamed := h.noteWork.dropAccrual
      have refuses : ∀ code, (s.noteWork.refuseClose code).shopsNamed := fun code => hP.refuse (drop.of_part (by rfl)) code
      dsimp only
      split_ifs
      · exact h
      · exact refuses _
      · exact refuses _
      · refine hP.done (State.shopsNamed.advanceNotice ?_) _
        exact State.shopsNamed.appendOwn (drop.of_part (by rfl)) _ rfl
    · exact h
  · exact h

theorem serveOpenLedger_named (b : List Byte) : (serveOpenLedger b s).shopsNamed := by
  have hP := shopsNamed_ofCore
  unfold serveOpenLedger
  split
  · exact hP.refuse h _
  · split
    · exact hP.refuse h _
    · next s1 hr => exact hP.done (State.shopsNamed.appendOwn ((h.reserve hr).of_part (by rfl)) _ rfl) _

theorem serveClosePeriod_named (b : List Byte) : (serveClosePeriod b s).shopsNamed := by
  have hP := shopsNamed_ofCore
  unfold serveClosePeriod
  split_ifs
  any_goals exact hP.refuse h _
  split
  · exact hP.refuse h _
  · next s1 hr =>
    have pushed := (h.reserve hr).queues (accruals := s1.settle.accruals ++ [.close s.ledger.period]) (answers := s1.settle.answers)
      (fun e period source mem => (List.mem_append.mp mem).elim id fun new => by cases List.mem_singleton.mp new)
      (fun _ _ _ => .inl) fun _ _ _ _ => .inl
    exact pushed.of_part (by rfl)

theorem execFormatComplete_named : nextAll State.shopsNamed (execFormatComplete s) := by
  unfold execFormatComplete
  split
  · refine shopsNamed_ofCore.done ?_ _
    show s.formatted.shopsNamed
    obtain ⟨-, holds, -, accruals, -, dones, backs⟩ := h
    exact ⟨fun _ _ => Nat.zero_le _, holds, fun _ mem => absurd mem List.not_mem_nil, accruals,
      fun _ mem => absurd mem List.not_mem_nil, dones, backs⟩
  · exact h

theorem serveWriteProgram_named (b : List Byte) : (serveWriteProgram b s).shopsNamed := by
  have hP := shopsNamed_ofCore
  unfold serveWriteProgram
  dsimp only
  split
  · exact hP.refuse h _
  · split
    · exact hP.refuse h _
    · refine hP.done (h.of_part ?_) _
      unfold State.writeProgram
      split
      · have look : ∀ u : State, ({ u with store.programs := [] } : State).namePart = u.namePart := fun _ => rfl
        rw [← look, State.raiseBoundaries_rest, look]
        rfl
      · rfl

theorem LedgerCommand.named {i : Instr} (hi : LedgerCommand i) : nextAll State.shopsNamed (exec i s) := by
  have hP := shopsNamed_ofCore
  have card : ∀ {kind serve}, (∀ b u, State.shopsNamed u → (serve b u).shopsNamed) → (cardStep kind serve s).shopsNamed :=
    fun hd => cardStep_of (P := State.shopsNamed) h fun b _ => hd b _ (hP.takeOffice h)
  cases hi with
  | powerOnReset c => exact resetChip_named h ..
  | pfwAssert =>
    obtain ⟨m, hm, e⟩ := execPfwAssert_spec s
    rw [e]
    rcases hm with rfl | rfl
    · exact h
    · exact h.rollInHand.of_part (by rfl)
  | pfwRelease =>
    show nextAll _ (execPfwRelease s)
    unfold execPfwRelease
    split
    · exact resetChip_named h ..
    · exact h
  | restartPerformed =>
    show nextAll _ (execRestartPerformed s)
    unfold execRestartPerformed
    split
    · exact resetChip_named h ..
    · exact h
  | holdDeadlineReached =>
    show nextAll _ (execHoldDeadlineReached s)
    unfold execHoldDeadlineReached
    split
    · split
      · exact h
      · exact h
    · exact h
  | closeEntry => exact execCloseEntry_named h
  | cardPassRecord =>
    show nextAll _ (execCardPassRecord s)
    unfold execCardPassRecord
    split
    · have passed : (s.cardPass s.recovery.cardCursor).shopsNamed := by
        unfold State.cardPass
        dsimp only
        split_ifs
        · exact h.noteFault _
        · exact h
        · exact h
      exact passed
    · exact h
  | recoveryEnd => exact execRecoveryEnd_named h
  | writeTableProgram => exact hP.answerable.writeStep h fun b _ _ _ _ => serveWriteProgram_named h b
  | format =>
    refine card fun b u hu => ?_
    unfold serveFormat
    split
    · exact hP.refuse hu _
    · exact hu
  | openLedger => exact card fun b _ hu => serveOpenLedger_named hu b
  | closePeriod => exact card fun b _ hu => serveClosePeriod_named hu b
  | formatComplete => exact execFormatComplete_named h

/-- Every command keeps the shops that are named within the shops. -/
theorem exec_named (i : Instr) : nextAll State.shopsNamed (exec i s) := by
  rcases command_kinds i with hi | hi | hi | hi
  · exact shopsNamed_ofCore.link hi h
  · exact hi.named h
  · exact hi.named h
  · exact hi.named h

end

end Sys2Proof.Machine
end

section
/-! PROOFS. Visits, granted slots and running channels hold each other: the operations on slots and channels (R144, R151 to R156). -/

namespace Sys2Proof.Machine

/-! ### The part of the state that visits rest on -/

/-- The state without everything but visits, payout window, channels and setups. -/
def State.visitPart (s : State) : State :=
  { State.reset with
    settle := { Settle.initial with visits := s.settle.visits }, channels := s.channels,
    plu := { PayoutUnit.initial with slots := s.plu.slots },
    store := { Store.blank with signature := s.store.signature, setups := s.store.setups } }

theorem visitsSound_ofCore : OfCore State.visitsSound := fun _ => Iff.rfl

theorem State.visitsSound.of_part {s t : State} (h : s.visitsSound) (hv : t.visitPart = s.visitPart) : t.visitsSound := by
  have look : ∀ u : State, u.visitPart.visitsSound ↔ u.visitsSound := fun _ => Iff.rfl
  rw [← look, hv, look]
  exact h

theorem WorkKept.visitPart {s t : State} (h : WorkKept s t) : t.visitPart = s.visitPart := by
  obtain ⟨n, -, e⟩ := h
  have look : ∀ u : State, u.workPart.visitPart = u.visitPart := fun _ => rfl
  rw [← look, e]
  rfl

/-! ### Channels whose pass stays within the shops -/

/-- The channel's pass stays within the shops (R144). -/
def Channel.within (v : Channel) : Prop := State.visitsSound.passWithin v.dir v.cur v.remaining

/-- The setup's pass stays within the shops (R144). -/
def ChannelSetup.within (u : ChannelSetup) : Prop := State.visitsSound.passWithin u.dir u.baseShop u.baseCount

/-- The channel has no visit and its pass stays within the shops. -/
def Channel.rests (v : Channel) : Prop := v.st ≠ .running ∧ v.within

theorem Channel.walk_state (v : Channel) : ∃ st, st ≠ .running ∧ v.walk = { v with st := st } := by
  unfold Channel.walk
  split
  · exact ⟨.waitSlot, by decide, rfl⟩
  · exact ⟨.waitStep, by decide, rfl⟩
  · split
    · exact ⟨.waitSlot, by decide, rfl⟩
    · exact ⟨.waitPull, by decide, rfl⟩

theorem Channel.walk_rests {v : Channel} (h : v.within) : v.walk.rests := by
  obtain ⟨st, still, e⟩ := v.walk_state
  rw [e]
  exact ⟨still, h⟩

theorem ChannelSetup.clamp_within (u : ChannelSetup) : u.clamp.within := by
  have base : clampTo 0 511 u.baseShop ≤ 511 := by
    simp only [clampTo]
    omega
  refine ⟨base, ?_⟩
  unfold ChannelSetup.clamp
  dsimp only
  cases u.dir with
  | ascending => dsimp only; omega
  | descending => exact Nat.min_le_left ..

theorem Channel.terminal_rests {v : Channel} {u : ChannelSetup} (h : v.within) (hu : u.within) : (v.terminal u).rests := by
  unfold Channel.terminal
  dsimp only
  split_ifs
  · exact ⟨nofun, hu⟩
  · exact Channel.walk_rests (v := { Channel.load { v with tc := true, slot := none } u with passPending := false }) hu
  · exact ⟨nofun, hu⟩
  · exact ⟨nofun, h⟩

theorem Channel.nextShop_within {v : Channel} (h : v.within) (more : v.remaining ≠ 0) :
    State.visitsSound.passWithin v.dir v.nextShop (v.remaining - 1) := by
  obtain ⟨cur, pass⟩ := h
  unfold Channel.nextShop
  cases dir : v.dir with
  | ascending =>
    rw [dir] at pass
    have pass' : v.cur + v.remaining ≤ 511 := pass
    exact ⟨by dsimp only; omega, by dsimp only; omega⟩
  | descending =>
    rw [dir] at pass
    have pass' : v.remaining ≤ v.cur := pass
    exact ⟨by dsimp only; omega, by dsimp only; omega⟩

theorem Channel.advance_rests {v : Channel} {u : ChannelSetup} (h : v.within) (hu : u.within) (claimed : Bool) :
    (v.advance u claimed).rests := by
  unfold Channel.advance
  dsimp only
  split
  · exact Channel.terminal_rests h hu
  · next more =>
    have next := Channel.nextShop_within h more
    split
    · exact ⟨nofun, next⟩
    · exact Channel.walk_rests next

theorem Channel.unvisited_rests {v : Channel} (h : v.within) : v.unvisited.rests := by
  unfold Channel.unvisited
  split
  · exact ⟨nofun, h⟩
  · exact ⟨nofun, h⟩

/-- The channel keeps its position, and its visit if it has one. -/
structure Channel.Stays (v w : Channel) : Prop where
  dir : w.dir = v.dir
  cur : w.cur = v.cur
  remaining : w.remaining = v.remaining
  running : w.st = .running ↔ v.st = .running
  slot : v.st = .running → w.slot = v.slot

theorem Channel.Stays.refl (v : Channel) : v.Stays v := ⟨rfl, rfl, rfl, Iff.rfl, fun _ => rfl⟩

/-- A channel without a visit enters another state without one. -/
theorem Channel.Stays.still {v w : Channel} (was : v.st ≠ .running) (is : w.st ≠ .running) (dir : w.dir = v.dir) (cur : w.cur = v.cur)
    (remaining : w.remaining = v.remaining) : v.Stays w :=
  ⟨dir, cur, remaining, iff_of_false is was, fun running => absurd running was⟩

theorem Channel.Stays.walk {v w : Channel} (was : v.st ≠ .running) (dir : w.dir = v.dir) (cur : w.cur = v.cur)
    (remaining : w.remaining = v.remaining) : v.Stays w.walk := by
  obtain ⟨st, still, e⟩ := w.walk_state
  rw [e]
  exact .still was still dir cur remaining

theorem Channel.advanceNotice_stays (v : Channel) : v.Stays v.advanceNotice := by
  unfold Channel.advanceNotice
  split
  · exact .refl v
  · split
    · next st => exact .walk (by rw [st]; decide) rfl rfl rfl
    all_goals exact ⟨rfl, rfl, rfl, Iff.rfl, fun _ => rfl⟩

theorem Channel.masked_stays (v : Channel) : v.Stays v.masked := by
  have stops : v.st ≠ .running → v.Stays { v with st := .idle, mask := true } := fun was => .still was nofun rfl rfl rfl
  unfold Channel.masked
  split
  · exact .refl v
  · exact .refl v
  · next st => exact stops (by rw [st]; decide)
  · next st => exact stops (by rw [st]; decide)
  · next st => exact stops (by rw [st]; decide)
  · next st => exact stops (by rw [st]; decide)
  · exact ⟨rfl, rfl, rfl, Iff.rfl, fun _ => rfl⟩

theorem Channel.addCredit_stays (v : Channel) (n : Nat) : v.Stays (v.addCredit n) := by
  unfold Channel.addCredit
  dsimp only
  split
  · next waits => exact .walk (by rw [waits.1]; decide) rfl rfl rfl
  · exact ⟨rfl, rfl, rfl, Iff.rfl, fun _ => rfl⟩

/-! ### The operations -/

/-- The visit that joins the class 3 work when a slot is granted (R153). -/
def State.grantedVisit (s : State) (k c : Nat) : Visit := { channel := c, shop := (s.channel c).cur, slot := k }

/-- The channel a slot is granted to (R151). -/
def State.grantedChannel (s : State) (k c : Nat) : Channel := { s.channel c with st := .running, slot := some k }

theorem State.grantTo_channel (s : State) (k c d : Nat) :
    (s.grantTo k c).channel d = if d = c then s.grantedChannel k c else s.channel d := by
  show ((s.setSlot k (.granted c)).setChannel c (s.grantedChannel k c)).channel d = _
  split
  · next here => rw [here, State.setChannel_channel_same]
  · next here => exact State.setChannel_channel_ne _ c _ here

theorem State.grantTo_slot (s : State) (k c j : Nat) : (s.grantTo k c).slot j = if j = k then .granted c else s.slot j := by
  show (s.setSlot k (.granted c)).slot j = _
  split
  · next here => rw [here, State.setSlot_slot_same]
  · next here => exact State.setSlot_slot_ne s k _ here

theorem State.grantTo_visits (s : State) (k c : Nat) : (s.grantTo k c).settle.visits = s.settle.visits ++ [s.grantedVisit k c] := rfl

section
variable {s : State} (h : s.visitsSound)
include h

/-- A slot that is not GRANTED before or after. -/
theorem State.visitsSound.setSlot {k : Nat} {x : Slot} (was : ∀ c, s.slot k ≠ .granted c) (is : ∀ c, x ≠ .granted c) :
    (s.setSlot k x).visitsSound := by
  obtain ⟨few, once, named, granted, running, within⟩ := h
  refine ⟨few, once, fun v mem => ?_, fun j c holds => ?_, running, within⟩
  · obtain ⟨channel, slot, shop, holds, rest⟩ := named v mem
    refine ⟨channel, slot, shop, ?_, rest⟩
    rw [State.setSlot_slot_ne s k x fun same => was v.channel (same ▸ holds)]
    exact holds
  · by_cases here : j = k
    · rw [here, State.setSlot_slot_same] at holds
      exact absurd holds (is c)
    · rw [State.setSlot_slot_ne s k x here] at holds
      exact granted j c holds

theorem State.visitsSound.setChannel {c : Nat} {w : Channel} (running : w.st = .running ↔ (s.channel c).st = .running)
    (same : (s.channel c).st = .running → w.cur = (s.channel c).cur ∧ w.slot = (s.channel c).slot) (pass : c ≤ 3 → w.within) :
    (s.setChannel c w).visitsSound := by
  obtain ⟨few, once, named, granted, runs, within⟩ := h
  refine ⟨few, once, fun v mem => ?_, granted, fun d hd is => ?_, fun d hd => ⟨?_, (within d hd).2⟩⟩
  · obtain ⟨channel, slot, shop, holds, st, has⟩ := named v mem
    refine ⟨channel, slot, ?_, holds, ?_⟩
    · by_cases here : v.channel = c
      · rw [here, State.setChannel_channel_same, (same (here ▸ st)).1, shop, here]
      · rw [State.setChannel_channel_ne s c w here]; exact shop
    · by_cases here : v.channel = c
      · rw [here, State.setChannel_channel_same, (same (here ▸ st)).2, running]
        exact ⟨here ▸ st, here ▸ has⟩
      · rw [State.setChannel_channel_ne s c w here]; exact ⟨st, has⟩
  · by_cases here : d = c
    · rw [here, State.setChannel_channel_same, running] at is
      exact here ▸ runs c (here ▸ hd) is
    · rw [State.setChannel_channel_ne s c w here] at is
      exact runs d hd is
  · by_cases here : d = c
    · rw [here, State.setChannel_channel_same]; exact pass (here ▸ hd)
    · rw [State.setChannel_channel_ne s c w here]; exact (within d hd).1

theorem State.visitsSound.stays {c : Nat} {w : Channel} (stays : (s.channel c).Stays w) : (s.setChannel c w).visitsSound := by
  obtain ⟨dir, cur, remaining, running, slot⟩ := stays
  refine h.setChannel running (fun is => ⟨cur, slot is⟩) fun low => ?_
  obtain ⟨-, -, -, -, -, within⟩ := h
  unfold Channel.within
  rw [dir, cur, remaining]
  exact (within c low).1

/-- A channel without a visit comes to rest elsewhere. -/
theorem State.visitsSound.rest {c : Nat} {w : Channel} (was : (s.channel c).st ≠ .running) (rests : w.rests) :
    (s.setChannel c w).visitsSound :=
  h.setChannel (iff_of_false rests.1 was) (fun is => absurd is was) fun _ => rests.2

theorem State.visitsSound.channelWithin {c : Nat} (low : c ≤ 3) : (s.channel c).within := by
  obtain ⟨-, -, -, -, -, within⟩ := h
  exact (within c low).1

theorem State.visitsSound.setupWithin {c : Nat} (low : c ≤ 3) : (s.setup c).within := by
  obtain ⟨-, -, -, -, -, within⟩ := h
  exact (within c low).2

/-- A free slot granted to a waiting channel (R151, R153). -/
theorem State.visitsSound.grantTo {k c : Nat} (free : s.freeSlot = some k) (chosen : s.chooseChannel = some c) :
    (s.grantTo k c).visitsSound := by
  obtain ⟨low, isFree, -⟩ := (s.freeSlot_eq_some_iff k).mp free
  obtain ⟨named, waits⟩ := State.chooseChannel_waits chosen
  obtain ⟨few, once, holds, granted, running, within⟩ := h
  have fresh : ∀ v ∈ s.settle.visits, v.channel ≠ c := fun v mem is => by
    obtain ⟨-, -, -, -, st, -⟩ := holds v mem
    rw [is, waits] at st
    cases st
  have nodup : ((s.settle.visits ++ [s.grantedVisit k c]).map Visit.channel).Nodup := by
    rw [List.map_append, List.nodup_append']
    refine ⟨once, List.nodup_singleton _, List.disjoint_singleton.mpr fun mem => ?_⟩
    obtain ⟨v, mem, is⟩ := List.mem_map.mp mem
    exact fresh v mem is
  have below : ∀ v ∈ s.settle.visits ++ [s.grantedVisit k c], v.channel ≤ 3 := fun v mem => by
    rcases List.mem_append.mp mem with old | new
    · exact (holds v old).1
    · rw [List.mem_singleton.mp new]; exact named
  have visits := s.grantTo_visits k c
  have chan := s.grantTo_channel k c
  have slot := s.grantTo_slot k c
  refine ⟨?_, visits ▸ nodup, fun v mem => ?_, fun j d is => ?_, fun d hd is => ?_, fun d hd => ⟨?_, (within d hd).2⟩⟩
  · rw [visits]
    have sub : (s.settle.visits ++ [s.grantedVisit k c]).map Visit.channel ⊆ List.range 4 :=
      fun d mem => by
        obtain ⟨v, at_, rfl⟩ := List.mem_map.mp mem
        exact List.mem_range.mpr (Nat.lt_succ_of_le (below v at_))
    have := (nodup.subperm sub).length_le
    simpa using this
  · rw [visits] at mem
    rw [chan, slot]
    rcases List.mem_append.mp mem with old | new
    · have other := fresh v old
      obtain ⟨channel, slot, shop, has, rest⟩ := holds v old
      rw [if_neg other, if_neg fun here => by rw [here, isFree] at has; cases has]
      exact ⟨channel, slot, shop, has, rest⟩
    · cases List.mem_singleton.mp new
      rw [if_pos (show (s.grantedVisit k c).channel = c from rfl), if_pos (show (s.grantedVisit k c).slot = k from rfl)]
      exact ⟨named, low, rfl, rfl, rfl, rfl⟩
  · rw [visits]
    rw [slot] at is
    by_cases here : j = k
    · rw [if_pos here] at is
      cases is
      exact ⟨_, List.mem_append_right _ (List.mem_singleton_self _), here.symm, rfl⟩
    · rw [if_neg here] at is
      obtain ⟨v, mem, at_⟩ := granted j d is
      exact ⟨v, List.mem_append_left _ mem, at_⟩
  · rw [visits]
    by_cases here : d = c
    · exact ⟨_, List.mem_append_right _ (List.mem_singleton_self _), here.symm⟩
    · rw [chan, if_neg here] at is
      obtain ⟨v, mem, at_⟩ := running d hd is
      exact ⟨v, List.mem_append_left _ mem, at_⟩
  · rw [chan]
    split
    · next here => exact (within c named).1
    · exact (within d hd).1

theorem State.visitsSound.grantSlots : s.grantSlots.visitsSound :=
  State.grantSlots_induct h fun _ _ _ hu free chosen => hu.grantTo free chosen

end

/-! ### The end of a visit -/

/-- The head visit is over: its slot is no longer GRANTED, its channel rests, and the others stand as they stood. -/
structure VisitEnds (s t : State) (v : Visit) : Prop where
  visits : t.settle.visits = s.settle.visits.tail
  slot : ∀ c, t.slot v.slot ≠ .granted c
  slots : ∀ j, j ≠ v.slot → t.slot j = s.slot j
  channel : (t.channel v.channel).rests
  channels : ∀ c, c ≠ v.channel → t.channel c = s.channel c
  setups : ∀ c, t.setup c = s.setup c

theorem VisitEnds.sound {s t : State} {v : Visit} {rest : List Visit} (ends : VisitEnds s t v) (queue : s.settle.visits = v :: rest)
    (h : s.visitsSound) : t.visitsSound := by
  obtain ⟨few, once, holds, granted, running, within⟩ := h
  obtain ⟨visits, slot, slots, channel, channels, setups⟩ := ends
  rw [queue, List.tail_cons] at visits
  rw [queue] at few once holds granted running
  obtain ⟨-, -, -, own, -, -⟩ := holds v List.mem_cons_self
  have others : ∀ x ∈ rest, x.channel ≠ v.channel := fun x mem is => by
    rw [List.map_cons, List.nodup_cons] at once
    exact once.1 (is ▸ List.mem_map_of_mem mem)
  refine ⟨?_, ?_, fun x mem => ?_, fun j c is => ?_, fun c hc is => ?_, fun c hc => ⟨?_, ?_⟩⟩
  · rw [visits]
    exact (Nat.le_succ _).trans few
  · rw [visits]
    exact (List.nodup_cons.mp once).2
  · rw [visits] at mem
    have other := others x mem
    obtain ⟨channel, slotLow, shop, has, rest_⟩ := holds x (List.mem_cons_of_mem _ mem)
    rw [channels _ other, slots _ fun same => other (by rw [same, own] at has; exact (Slot.granted.inj has).symm)]
    exact ⟨channel, slotLow, shop, has, rest_⟩
  · rw [visits]
    by_cases here : j = v.slot
    · exact absurd (here ▸ is) (slot c)
    · rw [slots j here] at is
      obtain ⟨x, mem, at_, on⟩ := granted j c is
      rcases List.mem_cons.mp mem with rfl | mem
      · exact absurd at_.symm here
      · exact ⟨x, mem, at_, on⟩
  · rw [visits]
    by_cases here : c = v.channel
    · exact absurd (here ▸ is) channel.1
    · rw [channels c here] at is
      obtain ⟨x, mem, on⟩ := running c hc is
      rcases List.mem_cons.mp mem with rfl | mem
      · exact absurd on.symm here
      · exact ⟨x, mem, on⟩
  · by_cases here : c = v.channel
    · rw [here]; exact channel.2
    · rw [channels c here]; exact (within c hc).1
  · rw [setups]; exact (within c hc).2

end Sys2Proof.Machine
end

section
/-! PROOFS. Every command keeps visits, granted slots and running channels in agreement (R144, R151 to R156). -/

namespace Sys2Proof.Machine

/-! ### The operations that leave visits, slots and channels alone -/

section
variable (s : State)

@[simp] theorem State.raiseIf_visitPart (b : Bool) (src : Source) : (s.raiseIf b src).visitPart = s.visitPart := by
  rw [State.raiseIf_frame]; rfl

@[simp] theorem State.append_visitPart (p : Nat) (b : EntryBody) : (s.append p b).visitPart = s.visitPart := by
  unfold State.append
  exact State.raiseIf_visitPart ..

@[simp] theorem State.noteWork_visitPart : s.noteWork.visitPart = s.visitPart := by
  rw [State.noteWork_eq]; rfl

@[simp] theorem State.applyEffect_visitPart (e : Effect) (source : Nat) : (s.applyEffect e source).visitPart = s.visitPart := by
  cases e <;> exact State.raiseIf_visitPart ..

@[simp] theorem State.makeCounts_visitPart : s.makeCounts.visitPart = s.visitPart := by
  unfold State.makeCounts
  split
  · rfl
  · exact State.raiseIf_visitPart ..

@[simp] theorem State.makeSettled_visitPart (k : Nat) : (s.makeSettled k).visitPart = s.visitPart := State.raiseIf_visitPart ..

@[simp] theorem State.makeReturned_visitPart (k : Nat) : (s.makeReturned k).visitPart = s.visitPart := State.raiseIf_visitPart ..

@[simp] theorem State.rearm_visitPart : s.rearm.visitPart = s.visitPart := by
  unfold State.rearm
  exact (State.raiseIf_visitPart ..).trans (State.raiseIf_visitPart ..)

@[simp] theorem State.commitRoll_visitPart (k : Nat) : (s.commitRoll k).visitPart = s.visitPart := by
  unfold State.commitRoll
  exact (State.raiseIf_visitPart ..).trans (State.append_visitPart ..)

@[simp] theorem State.readied_visitPart (k : Nat) : (s.readied k).visitPart = s.visitPart := by
  unfold State.readied
  split
  · exact s.commitRoll_visitPart k
  · rfl

theorem State.commitDone_visitPart (tag shop : Nat) (late : Bool) : (s.commitDone tag shop late).visitPart = s.visitPart :=
  (State.append_visitPart ..).trans (State.makeSettled_visitPart s shop)

theorem State.commitBack_visitPart (tag shop reason : Nat) (late : Bool) :
    (s.commitBack tag shop reason late).visitPart = s.visitPart :=
  ((State.append_visitPart ..).trans (State.makeReturned_visitPart s shop) : _)

end

section
variable {s t : State}

theorem State.reserve_visitPart {cls : ResClass} {n : Nat} (hr : s.reserve cls n = some t) : t.visitPart = s.visitPart := by
  obtain ⟨-, rfl⟩ := State.reserve_eq hr
  exact State.raiseIf_visitPart ..

theorem State.rollIfBehind_visitPart {k : Nat} (hr : s.rollIfBehind k = some t) : t.visitPart = s.visitPart := by
  unfold State.rollIfBehind at hr
  split at hr
  · obtain ⟨s1, hs1, rfl⟩ := Option.map_eq_some_iff.mp hr
    exact (State.commitRoll_visitPart ..).trans (State.reserve_visitPart hs1)
  · cases hr; rfl

theorem State.rollForEffect_visitPart {e : Effect} (hr : s.rollForEffect e = some t) : t.visitPart = s.visitPart := by
  unfold State.rollForEffect at hr
  split at hr
  · exact State.rollIfBehind_visitPart hr
  · cases hr; rfl

end

theorem State.rollInHand_visitPart (s : State) : s.rollInHand.visitPart = s.visitPart := by
  rcases s.rollInHand_cases with e | ⟨k, n, s1, -, -, hr, e⟩
  · rw [e]
  · rw [e, State.commitRoll_visitPart, State.reserve_visitPart hr]
    unfold State.makeCountsIfRecovering
    split
    · exact s.makeCounts_visitPart
    · rfl

theorem State.slot_of_visitPart {s t : State} (h : t.visitPart = s.visitPart) (j : Nat) : t.slot j = s.slot j :=
  (congrArg (fun u : State => u.slot j) h :)

/-- A claim fills the slot and counts at its channel; other slots and channels, visits and setups stay. -/
theorem State.claim_visits (u : State) (v : Visit) :
    (u.claim v).settle.visits = u.settle.visits ∧
      (∀ j, (u.claim v).slot j = (u.setSlot v.slot (.filled (claimedPayout u v (u.shop v.shop).closing))).slot j) ∧
      (u.claim v).channel v.channel = { u.channel v.channel with emitted := bump32 (u.channel v.channel).emitted } ∧
      (∀ c, c ≠ v.channel → (u.claim v).channel c = u.channel c) ∧ ∀ c, (u.claim v).setup c = u.setup c := by
  rw [State.claim_eq]
  refine ⟨by rw [State.append_settle]; rfl, fun j => by rw [State.append_slot]; rfl, ?_, fun c other => ?_, fun c => ?_⟩
  · rw [State.append_channel]
    exact State.setChannel_channel_same u v.channel _
  · rw [State.append_channel]
    exact State.setChannel_channel_ne u v.channel _ other
  · rw [State.append_setup]
    rfl

/-! ### The Settlement Unit -/

section
variable {s : State} (h : s.visitsSound)
include h

theorem execAccrualApply_visits : nextAll State.visitsSound (execAccrualApply s) := by
  unfold execAccrualApply
  split
  · split
    · split
      · next s1 hr =>
        exact h.of_part ((State.applyEffect_visitPart s1 _ _).trans
          ((State.rollForEffect_visitPart hr).trans (State.noteWork_visitPart s)))
      · exact h
    · exact h
  · exact h

theorem execRollSweep_visits : nextAll State.visitsSound (execRollSweep s) := by
  unfold execRollSweep
  split
  · split
    · next hr => exact h.of_part ((State.commitRoll_visitPart ..).trans (State.reserve_visitPart hr))
    · exact h
  · exact h

theorem execSlotGrant_visits : nextAll State.visitsSound (execSlotGrant s) := by
  unfold execSlotGrant
  split
  · next s1 hg =>
    obtain ⟨k, c, -, free, chosen, rfl⟩ := (s.grantOnce_eq_some_iff s1).mp hg
    exact h.grantTo free chosen
  · exact h

/-- A visit over leaves its slot FILLED or free and its channel at rest, and the others as the state it was taken in has them. -/
theorem visitEnds_of {v : Visit} {rest : List Visit} (queue : s.settle.visits = v :: rest) {u t : State}
    (hu : u.visitPart = s.takeVisit.visitPart) {x : Slot} (free : ∀ c, x ≠ .granted c) (visits : t.settle.visits = u.settle.visits)
    (slots : ∀ j, t.slot j = (u.setSlot v.slot x).slot j) (rests : (t.channel v.channel).rests)
    (channels : ∀ c, c ≠ v.channel → t.channel c = u.channel c) (setups : ∀ c, t.setup c = u.setup c) : t.visitsSound := by
  have taken : s.takeVisit.visitPart = ({ s with settle.visits := rest } : State).visitPart := by
    rw [State.takeVisit_eq queue]; rfl
  have same := hu.trans taken
  have uVisits : u.settle.visits = rest := (congrArg (fun v : State => v.settle.visits) same :)
  have uSlots : ∀ j, u.slot j = s.slot j := fun j => (congrArg (fun v : State => v.slot j) same :)
  have uChannels : ∀ c, u.channel c = s.channel c := fun c => (congrArg (fun v : State => v.channel c) same :)
  have uSetups : ∀ c, u.setup c = s.setup c := fun c => (congrArg (fun v : State => v.setup c) same :)
  refine VisitEnds.sound (v := v) ⟨?_, fun c => ?_, fun j other => ?_, rests, fun c other => ?_, fun c => ?_⟩ queue h
  · rw [visits, uVisits, queue, List.tail_cons]
  · rw [slots, State.setSlot_slot_same]; exact free c
  · rw [slots, State.setSlot_slot_ne _ _ _ other, uSlots]
  · rw [channels c other, uChannels]
  · rw [setups, uSetups]

theorem State.visitsSound.serveVisit {v : Visit} {rest : List Visit} (queue : s.settle.visits = v :: rest) :
    (s.takeVisit.serveVisit v).visitsSound := by
  have named : v.channel ≤ 3 := by
    obtain ⟨-, -, holds, -⟩ := id h
    exact (holds v (queue ▸ List.mem_cons_self)).1
  have pass := h.channelWithin named
  have base := h.setupWithin named
  have taken : s.takeVisit.channels = s.channels := by rw [State.takeVisit_eq queue]
  have channel : s.takeVisit.channel v.channel = s.channel v.channel := by unfold State.channel; rw [taken]
  have setup : s.takeVisit.setup v.channel = s.setup v.channel := by rw [State.takeVisit_eq queue]; rfl
  cases hr : s.takeVisit.reserve .general 2 with
  | none =>
    unfold State.serveVisit
    simp only [hr]
    refine State.visitsSound.grantSlots (visitEnds_of h (t := (s.takeVisit.setSlot v.slot .free).setChannel v.channel _) queue rfl
      (x := .free) nofun rfl (fun _ => rfl) ?_ (fun c other => State.setChannel_channel_ne _ _ _ other) fun _ => rfl)
    rw [State.setChannel_channel_same, channel]
    exact Channel.unvisited_rests pass
  | some s1 =>
    rw [State.serveVisit_granted hr]
    have same : (s1.readied v.shop).visitPart = s.takeVisit.visitPart :=
      (State.readied_visitPart s1 v.shop).trans (State.reserve_visitPart hr)
    have channel' : (s1.readied v.shop).channel v.channel = s.channel v.channel :=
      (congrArg (fun u : State => u.channel v.channel) same :).trans channel
    have setup' : (s1.readied v.shop).setup v.channel = s.setup v.channel :=
      (congrArg (fun u : State => u.setup v.channel) same :).trans setup
    generalize s1.readied v.shop = u at same channel' setup'
    split
    · have claimed : ((u.claim v).visitEnds v true).visitPart =
          ((u.claim v).setChannel v.channel (((u.claim v).channel v.channel).advance ((u.claim v).setup v.channel) true)).visitPart :=
        State.raiseIf_visitPart ..
      obtain ⟨visits, slots, own, channels, setups⟩ := u.claim_visits v
      generalize u.claim v = m at claimed visits slots own channels setups
      have atEnd : ∀ c, (m.visitEnds v true).channel c = (m.setChannel v.channel _).channel c := fun c =>
        (congrArg (fun x : State => x.channel c) claimed :)
      refine State.visitsSound.grantSlots (visitEnds_of h (t := m.visitEnds v true) queue same
        (x := .filled (claimedPayout u v (u.shop v.shop).closing)) nofun
        (((congrArg (fun x : State => x.settle.visits) claimed :) : _ = m.settle.visits).trans visits)
        (fun j => ((congrArg (fun x : State => x.slot j) claimed :) : _ = m.slot j).trans (slots j)) ?_
        (fun c other => (atEnd c).trans ((State.setChannel_channel_ne _ _ _ other).trans (channels c other)))
        fun c => ((congrArg (fun x : State => x.setup c) claimed :) : _ = m.setup c).trans (setups c))
      rw [atEnd, State.setChannel_channel_same, setups, setup', own]
      refine Channel.advance_rests ?_ base true
      rw [channel']
      exact pass
    · have ended : (((u.setSlot v.slot .free).giveBack 1).visitEnds v false).visitPart =
          ((u.setSlot v.slot .free).setChannel v.channel ((u.channel v.channel).advance (u.setup v.channel) false)).visitPart :=
        State.raiseIf_visitPart ..
      generalize ((u.setSlot v.slot .free).giveBack 1).visitEnds v false = t at ended
      have atEnd : ∀ c, t.channel c = ((u.setSlot v.slot .free).setChannel v.channel _).channel c := fun c =>
        (congrArg (fun x : State => x.channel c) ended :)
      refine State.visitsSound.grantSlots (visitEnds_of h (t := t) queue same (x := .free) nofun
        (congrArg (fun x : State => x.settle.visits) ended :)
        (fun j => (congrArg (fun x : State => x.slot j) ended :)) ?_
        (fun c other => (atEnd c).trans (State.setChannel_channel_ne _ _ _ other))
        fun c => (congrArg (fun x : State => x.setup c) ended :))
      rw [atEnd, State.setChannel_channel_same, channel', setup']
      exact Channel.advance_rests pass base false

end

end Sys2Proof.Machine
end

section
/-! PROOFS. Every command keeps visits, granted slots and running channels in agreement: the commands one by one. -/

namespace Sys2Proof.Machine

section
variable {s : State} (h : s.visitsSound)
include h

/-! ### Visits, pulls, answers and deadlines -/

theorem execChannelVisit_visits : nextAll State.visitsSound (execChannelVisit s) := by
  unfold execChannelVisit
  split
  · split
    · next queue => exact h.serveVisit queue
    · exact h
  · exact h

theorem execPull_visits : nextAll State.visitsSound (execPull s) := by
  unfold execPull
  split
  · split
    · dsimp only
      split
      · exact h
      · exact State.visitsSound.grantSlots (State.visitsSound.stays (s := s.dropBank) h (Channel.addCredit_stays _ _))
    · exact h
  · exact h

/-- A FILLED slot freed by an outcome and granted again (R152, R168). -/
theorem State.visitsSound.releaseSlot {k : Nat} {p : Payout} (filled : s.slot k = .filled p) : (s.releaseSlot k).visitsSound := by
  have freed : (s.setSlot k .free).visitsSound := h.setSlot (fun c => by rw [filled]; exact nofun) nofun
  exact State.visitsSound.grantSlots (freed.of_part (by rfl))

/-- An outcome in the window leaves the slot FILLED until it is released. -/
theorem State.visitsSound.outcome {t : State} {k : Nat} {p : Payout} (filled : s.slot k = .filled p)
    (same : t.visitPart = s.visitPart) : (t.releaseSlot k).visitsSound :=
  (h.of_part same).releaseSlot ((State.slot_of_visitPart same k).trans filled)

omit h in
theorem State.dropAnswer_visitPart (s : State) : s.noteWork.dropAnswer.visitPart = s.visitPart := by
  rw [State.noteWork_eq]; rfl

omit h in
theorem State.filled_of_inWindow {s : State} {tag shop period k : Nat} (how : s.matchAnswer tag shop period = .inWindow k) :
    ∃ p, s.slot k = .filled p := by
  obtain ⟨-, p, ⟨-, filled, -⟩, -⟩ := (s.matchAnswer_eq_inWindow_iff tag shop period k).mp how
  exact ⟨p, filled⟩

theorem execDoneAnswer_visits : nextAll State.visitsSound (execDoneAnswer s) := by
  unfold execDoneAnswer
  split
  · split
    · have h0 := State.dropAnswer_visitPart s
      dsimp only
      split
      · exact h.of_part h0
      · next how hr =>
        obtain ⟨p, filled⟩ := State.filled_of_inWindow how
        exact h.outcome filled ((State.commitDone_visitPart ..).trans ((State.reserve_visitPart hr).trans h0))
      · next hr => exact h.of_part ((State.commitDone_visitPart ..).trans ((State.reserve_visitPart hr).trans h0))
      · exact h
    · exact h
  · exact h

theorem execBackAnswer_visits : nextAll State.visitsSound (execBackAnswer s) := by
  unfold execBackAnswer
  split
  · split
    · have h0 := State.dropAnswer_visitPart s
      dsimp only
      split
      · exact h.of_part h0
      · next how hr =>
        obtain ⟨p, filled⟩ := State.filled_of_inWindow how
        exact h.outcome filled ((State.commitBack_visitPart ..).trans ((State.reserve_visitPart hr).trans h0))
      · next hr => exact h.of_part ((State.commitBack_visitPart ..).trans ((State.reserve_visitPart hr).trans h0))
      · exact h
    · exact h
  · exact h

theorem execDeadlineExpiry_visits : nextAll State.visitsSound (execDeadlineExpiry s) := by
  unfold execDeadlineExpiry
  split
  · split
    · next k tag rest _ =>
      have h0 := State.dropAnswer_visitPart s
      dsimp only
      split
      · next p filled =>
        split
        · split
          · next s2 hr =>
            exact h.outcome filled
              ((State.append_visitPart (s2.makeInDoubt p.shop) _ _).trans ((State.reserve_visitPart hr).trans h0))
          · exact h
        · exact h.of_part h0
      · exact h.of_part h0
    · exact h
  · exact h

theorem execPayDeadlineReached_visits (slot : Nat) : nextAll State.visitsSound (execPayDeadlineReached slot s) := by
  unfold execPayDeadlineReached
  split
  · next p filled =>
    split
    · exact h
    · have marked : (s.setSlot slot (.filled { p with expired := true })).visitsSound :=
        h.setSlot (fun c => by rw [filled]; exact nofun) nofun
      exact marked
  · exact h

theorem execPaySend_visits : nextAll State.visitsSound (execPaySend s) := by
  unfold execPaySend
  split
  · next k rest _ _ =>
    split
    · exact h
    · split
      · next p filled =>
        have marked : (s.setSlot k (markSent (.filled p))).visitsSound :=
          h.setSlot (fun c => by rw [filled]; exact nofun) nofun
        exact marked
      · exact h
  · exact h

/-! ### Shops, recovery and the journal -/

theorem execBankFrameTaken_visits : nextAll State.visitsSound (execBankFrameTaken s) := by
  unfold execBankFrameTaken
  split
  · split
    · split <;> exact h
    · exact h
  · exact h

theorem execStreamMark_visits : nextAll State.visitsSound (execStreamMark s) := by
  unfold execStreamMark
  split
  · dsimp only
    split <;> exact h
  · exact h

theorem execRecoveryDoubt_visits : nextAll State.visitsSound (execRecoveryDoubt s) := by
  unfold execRecoveryDoubt
  split
  · split
    · exact h
    · split
      · exact h
      · next s1 hr =>
        have hr1 := State.reserve_visitPart hr
        exact h.of_part ((State.makeCounts_visitPart _).trans ((State.append_visitPart (s1.setShop _ _) _ _).trans hr1))
  · exact h

theorem execAccrualReplay_visits : nextAll State.visitsSound (execAccrualReplay s) := by
  unfold execAccrualReplay
  have hc := State.makeCounts_visitPart s
  split
  · dsimp only
    split
    · exact h.of_part hc
    · split
      · exact h.of_part hc
      · split
        · exact h.of_part hc
        · next s1 hr =>
          exact h.of_part ((State.applyEffect_visitPart s1 _ _).trans ((State.rollForEffect_visitPart hr).trans hc))
  · exact h

theorem serveSetShop_visits (b : List Byte) : (serveSetShop b s).visitsSound := by
  have hP := visitsSound_ofCore
  unfold serveSetShop
  dsimp only
  split
  · exact hP.refuse h _
  · split
    · exact hP.refuse h _
    · split
      · exact hP.refuse h _
      · next s1 hr => exact hP.done (State.visitsSound.of_part (h.of_part (State.rollIfBehind_visitPart hr)) (by rfl)) _

theorem serveReadShop_visits (b : List Byte) : (serveReadShop b s).visitsSound := by
  unfold serveReadShop
  dsimp only
  split
  · exact visitsSound_ofCore.refuse h _
  · exact visitsSound_ofCore.done h _

theorem serveSnapShop_visits (b : List Byte) : (serveSnapShop b s).visitsSound := by
  have hP := visitsSound_ofCore
  unfold serveSnapShop
  dsimp only
  split
  · exact hP.refuse h _
  · split
    · exact hP.refuse h _
    · next s1 hr => exact hP.done (State.visitsSound.of_part (h.of_part (State.rollIfBehind_visitPart hr)) (by rfl)) _

theorem serveResolve_visits (b : List Byte) : (serveResolve b s).visitsSound := by
  have hP := visitsSound_ofCore
  unfold serveResolve
  dsimp only
  split
  · exact hP.refuse h _
  · split
    · exact hP.refuse h _
    · split
      · exact hP.refuse h _
      · split
        · exact hP.refuse h _
        · next s1 hr =>
          refine hP.done (h.of_part ((State.append_visitPart ..).trans ?_)) _
          split
          · exact (State.makeSettled_visitPart ..).trans (State.reserve_visitPart hr)
          · exact (State.makeReturned_visitPart ..).trans (State.reserve_visitPart hr)

/-! ### Requests on channels -/

theorem serveSetChannel_visits (b : List Byte) : (serveSetChannel b s).visitsSound := by
  have hP := visitsSound_ofCore
  unfold serveSetChannel
  split_ifs with unsigned
  · exact hP.refuse h _
  · exact hP.refuse h _
  · split
    · exact hP.refuse h _
    · next u _ =>
      refine hP.done ?_ _
      obtain ⟨few, once, holds, granted, running, within⟩ := h
      refine ⟨few, once, holds, granted, running, fun c hc => ⟨(within c hc).1, ?_⟩⟩
      have signed : s.store.signature = true := by simpa using unsigned
      have setup := (within c hc).2
      unfold State.setup at setup ⊢
      rw [if_pos signed] at setup
      rw [if_pos (show _ = true from signed)]
      by_cases here : c = officeByte b
      · rw [here, Table.read_write_same]; exact u.clamp_within
      · rw [Table.read_write_ne _ _ _ here]; exact setup

theorem serveArm_visits {c : Nat} (low : c ≤ 3) : (serveArm c s).visitsSound := by
  have hP := visitsSound_ofCore
  unfold serveArm
  dsimp only
  split
  · exact hP.refuse h _
  · next idle =>
    rw [Channel.outstanding_eq_true_iff, not_or] at idle
    have armed : (s.setChannel c { (s.channel c).load (s.setup c) with
        tc := false, passPending := false, mask := false, maskPending := false }.walk).visitsSound :=
      h.rest idle.2 (Channel.walk_rests (h.setupWithin low : (s.setup c).within))
    exact hP.done armed.grantSlots _

theorem serveStep_visits (c : Nat) : (serveStep c s).visitsSound := by
  have hP := visitsSound_ofCore
  unfold serveStep
  dsimp only
  split
  · next waits =>
    have still : (s.channel c).Stays { s.channel c with st := .waitSlot } :=
      .still (by rw [waits]; decide) nofun rfl rfl rfl
    exact hP.done (h.stays still).grantSlots _
  · exact hP.refuse h _

theorem serveUnmask_visits (c : Nat) : (serveUnmask c s).visitsSound := by
  have hP := visitsSound_ofCore
  unfold serveUnmask
  dsimp only
  split
  · next idle =>
    have walks : (s.channel c).Stays { s.channel c with mask := false }.walk := .walk (by rw [idle]; decide) rfl rfl rfl
    exact hP.done (h.stays walks).grantSlots _
  · next running =>
    have stays : (s.channel c).Stays
        { s.channel c with mask := if (s.channel c).maskPending then false else (s.channel c).mask, maskPending := false } :=
      ⟨rfl, rfl, rfl, Iff.rfl, fun _ => rfl⟩
    exact hP.done (h.stays stays) _
  · exact hP.refuse h _
  all_goals exact hP.done h _

theorem serveChannelStatus_visits (b : List Byte) : (serveChannelStatus b s).visitsSound := by
  unfold serveChannelStatus
  dsimp only
  split
  · exact visitsSound_ofCore.refuse h _
  · have stays : (s.channel (officeByte b)).Stays { s.channel (officeByte b) with tc := false } :=
      ⟨rfl, rfl, rfl, Iff.rfl, fun _ => rfl⟩
    exact visitsSound_ofCore.done (h.stays stays) _

theorem State.visitsSound.advanceNotice : s.advanceNotice.visitsSound := by
  unfold State.advanceNotice
  generalize ([0, 1, 2, 3] : List Nat) = l
  suffices noticed : (l.foldl (fun t c => t.setChannel c (t.channel c).advanceNotice) s).visitsSound from noticed.grantSlots
  induction l generalizing s with
  | nil => exact h
  | cons c l ih => exact ih (h.stays (Channel.advanceNotice_stays _))

/-! ### The ledger as a whole -/

theorem execCloseEntry_visits : nextAll State.visitsSound (execCloseEntry s) := by
  have hP := visitsSound_ofCore
  have noted : s.noteWork.visitsSound := h.of_part (State.noteWork_visitPart s)
  unfold execCloseEntry
  split
  · split
    · dsimp only
      split_ifs
      · exact h
      · exact hP.refuse (State.visitsSound.of_part noted (by rfl)) _
      · exact hP.refuse (State.visitsSound.of_part noted (by rfl)) _
      · have committed := fun n => noted.of_part (State.append_visitPart _ _ _ : (s.noteWork.commitPeriod n).visitPart = _)
        exact hP.done (committed _).advanceNotice _
    · exact h
  · exact h

/-- A reset keeps the setups; every channel starts at its own (R145). -/
theorem resetChip_visits (cause : ResetCause) (capacity : Nat) (pfw : Bool) : (resetChip cause capacity pfw s).visitsSound := by
  have atReset : ∀ c, c ≤ 3 → (resetChip cause capacity pfw s).channel c = channelAtReset (s.setup c) := channelsAtReset_read s
  refine ⟨Nat.zero_le _, List.nodup_nil, fun v mem => absurd mem List.not_mem_nil, nofun, fun c hc is => ?_,
    fun c hc => ⟨?_, h.setupWithin hc⟩⟩
  · rw [atReset c hc] at is
    cases is
  · rw [atReset c hc]
    exact h.setupWithin hc

/-- Without a signature, or after FORMAT, every setup is FORMAT's (R144). -/
theorem State.visitsSound.freshSetups {t : State} (rest : ({ t with store := s.store } : State).visitPart = s.visitPart)
    (fresh : ∀ c, t.setup c = ChannelSetup.initial) : t.visitsSound := by
  have base : ({ t with store := s.store } : State).visitsSound := h.of_part rest
  obtain ⟨few, once, holds, granted, running, within⟩ := base
  refine ⟨few, once, holds, granted, running, fun c hc => ⟨(within c hc).1, ?_⟩⟩
  rw [fresh]
  exact initialChannel_passWithin.2

theorem serveOpenLedger_visits (b : List Byte) : (serveOpenLedger b s).visitsSound := by
  have hP := visitsSound_ofCore
  unfold serveOpenLedger
  split
  · exact hP.refuse h _
  · split
    · exact hP.refuse h _
    · next s1 hr =>
      have hr1 := State.reserve_visitPart hr
      refine hP.done (h.of_part ((State.append_visitPart ..).trans ?_)) _
      exact hr1

theorem serveClosePeriod_visits (b : List Byte) : (serveClosePeriod b s).visitsSound := by
  have hP := visitsSound_ofCore
  unfold serveClosePeriod
  split_ifs
  any_goals exact hP.refuse h _
  split
  · exact hP.refuse h _
  · next s1 hr => exact State.visitsSound.of_part (h.of_part (State.reserve_visitPart hr)) (by rfl)

theorem serveWriteProgram_visits (b : List Byte) : (serveWriteProgram b s).visitsSound := by
  have hP := visitsSound_ofCore
  unfold serveWriteProgram
  dsimp only
  split
  · exact hP.refuse h _
  · split
    · exact hP.refuse h _
    · refine hP.done (h.of_part ?_) _
      unfold State.writeProgram
      split
      · have look : ∀ u : State, ({ u with store.programs := [] } : State).visitPart = u.visitPart := fun _ => rfl
        rw [← look, State.raiseBoundaries_rest, look]
        rfl
      · rfl

theorem execRecoveryEnd_visits : nextAll State.visitsSound (execRecoveryEnd s) := by
  have leaves : ∀ (u : State) mode, u.visitPart = s.visitPart → (u.leaveRecovery mode).visitsSound := fun u mode same =>
    h.of_part ((State.rearm_visitPart _).trans same)
  have counts := State.makeCounts_visitPart s
  unfold execRecoveryEnd
  split
  · exact h
  · split
    · exact leaves s _ rfl
    · split
      · exact h
      · dsimp only
        split
        · exact leaves _ _ counts
        · split
          · exact h.of_part counts
          · next s1 hr => exact leaves _ _ ((State.append_visitPart ..).trans ((State.reserve_visitPart hr).trans counts))

theorem SettleCommand.visits {i : Instr} (hi : SettleCommand i) : nextAll State.visitsSound (exec i s) := by
  have hP := visitsSound_ofCore
  have shop : ∀ {kind serve}, (∀ b u, State.visitsSound u → (serve b u).visitsSound) → (shopStep kind serve s).visitsSound :=
    fun hd => shopStep_of (P := State.visitsSound) h (hP.refuse h _) (hP.refuse (s := requestServed s) (h.of_part (by rfl)) _)
      fun b _ _ _ => hd b _ (h.of_part (by rfl))
  have office : ∀ {kind serve}, (∀ b, (serve b s).visitsSound) → (officeStep kind serve s).visitsSound :=
    fun hd => officeStep_of (P := State.visitsSound) h fun b _ => hd b
  cases hi with
  | paySend => exact execPaySend_visits h
  | accrualApply => exact execAccrualApply_visits h
  | rollSweep => exact execRollSweep_visits h
  | slotGrant => exact execSlotGrant_visits h
  | channelVisit => exact execChannelVisit_visits h
  | bankFrameTaken => exact execBankFrameTaken_visits h
  | pull => exact execPull_visits h
  | doneAnswer => exact execDoneAnswer_visits h
  | backAnswer => exact execBackAnswer_visits h
  | payDeadlineReached slot => exact execPayDeadlineReached_visits h slot
  | deadlineExpiry => exact execDeadlineExpiry_visits h
  | streamMark => exact execStreamMark_visits h
  | recoveryDoubt => exact execRecoveryDoubt_visits h
  | accrualReplay => exact execAccrualReplay_visits h
  | writeTableAccept => exact hP.answerable.writeStep h fun b _ _ _ _ => hP.done (h.of_part (by rfl)) _
  | writeTableHouse => exact hP.answerable.writeStep h fun b _ _ _ _ => hP.done (h.of_part (by rfl)) _
  | writeTableBinding =>
    refine hP.answerable.writeStep h fun b _ _ _ _ => ?_
    unfold serveWriteBinding
    dsimp only
    split
    · exact hP.refuse h _
    · split
      · exact hP.refuse h _
      · exact hP.done (h.of_part (by rfl)) _
  | writeTableSettings =>
    refine hP.answerable.writeStep h fun b _ _ _ _ => ?_
    unfold serveWriteSettings
    split
    · exact hP.refuse h _
    · exact hP.done (h.of_part (by rfl)) _
  | setShop => exact shop fun b _ hu => serveSetShop_visits hu b
  | readShop => exact shop fun b _ hu => serveReadShop_visits hu b
  | snapShop =>
    show nextAll _ (execSnapShop s)
    unfold execSnapShop
    split
    · exact hP.refuse h _
    · exact shop fun b _ hu => serveSnapShop_visits hu b
  | readHouse => exact shop fun b _ hu => hP.done hu _
  | resolve => exact shop fun b _ hu => serveResolve_visits hu b
  | setChannel => exact office fun b => serveSetChannel_visits h b
  | armChannel => exact office fun b => hP.answerable.onChannel h fun named _ => serveArm_visits h named
  | stepChannel => exact office fun b => hP.answerable.onChannel h fun _ _ => serveStep_visits h _
  | maskChannelMask => exact hP.answerable.onAction h fun _ _ _ _ => hP.done (h.stays (Channel.masked_stays _)) _
  | maskChannelUnmask => exact hP.answerable.onAction h fun _ _ _ _ => serveUnmask_visits h _
  | channelStatus => exact office fun b => serveChannelStatus_visits h b
  | journalAck =>
    refine office fun b => hP.done ?_ _
    split <;> exact h

theorem LedgerCommand.visits {i : Instr} (hi : LedgerCommand i) : nextAll State.visitsSound (exec i s) := by
  have hP := visitsSound_ofCore
  have card : ∀ {kind serve}, (∀ b u, State.visitsSound u → (serve b u).visitsSound) → (cardStep kind serve s).visitsSound :=
    fun hd => cardStep_of (P := State.visitsSound) h fun b _ => hd b _ (hP.takeOffice h)
  cases hi with
  | powerOnReset c => exact resetChip_visits h ..
  | pfwAssert =>
    obtain ⟨m, hm, e⟩ := execPfwAssert_spec s
    rw [e]
    rcases hm with rfl | rfl
    · exact h
    · exact h.of_part s.rollInHand_visitPart
  | pfwRelease =>
    show nextAll _ (execPfwRelease s)
    unfold execPfwRelease
    split
    · exact resetChip_visits h ..
    · exact h
  | restartPerformed =>
    show nextAll _ (execRestartPerformed s)
    unfold execRestartPerformed
    split
    · exact resetChip_visits h ..
    · exact h
  | holdDeadlineReached =>
    show nextAll _ (execHoldDeadlineReached s)
    unfold execHoldDeadlineReached
    split
    · split <;> exact h
    · exact h
  | closeEntry => exact execCloseEntry_visits h
  | cardPassRecord =>
    show nextAll _ (execCardPassRecord s)
    unfold execCardPassRecord
    split
    · have passed : (s.cardPass s.recovery.cardCursor).visitsSound := by
        unfold State.cardPass
        dsimp only
        split_ifs
        · exact h.of_part (WorkKept.of_eq (s.noteFault_workPart _)).visitPart
        · exact h
        · exact h
      exact passed
    · exact h
  | recoveryEnd => exact execRecoveryEnd_visits h
  | writeTableProgram => exact hP.answerable.writeStep h fun b _ _ _ _ => serveWriteProgram_visits h b
  | format =>
    refine card fun b u hu => ?_
    unfold serveFormat
    split
    · exact hP.refuse hu _
    · exact hu.freshSetups rfl fun _ => rfl
  | openLedger => exact card fun b _ hu => serveOpenLedger_visits hu b
  | closePeriod => exact card fun b _ hu => serveClosePeriod_visits hu b
  | formatComplete =>
    show nextAll _ (execFormatComplete s)
    unfold execFormatComplete
    split
    · exact hP.done (h.freshSetups (t := s.formatted) rfl fun _ => rfl) _
    · exact h

/-- Every command keeps visits, granted slots and running channels in agreement. -/
theorem exec_visits (i : Instr) : nextAll State.visitsSound (exec i s) := by
  rcases command_kinds i with hi | hi | hi | hi
  · exact visitsSound_ofCore.link hi h
  · exact hi.visits h
  · exact (hi.workKept s).mono fun _ kept => h.of_part kept.visitPart
  · exact hi.visits h

end

end Sys2Proof.Machine
end

section
/-! PROOFS. Periods, counts and payout window: what keeps them, and what the change of one shop does to them (R110, R134, R135, R162). -/

namespace Sys2Proof.Machine

/-! ### The invariant by its parts -/

/-- Periods, counts and payout window are sound: the clauses of the model's invariant by their names. -/
structure State.booked (s : State) : Prop where
  closes : s.settle.accruals.filter Accrual.isClose = if s.ledger.closeOutstanding = true then [.close s.store.periodWord] else []
  copies : s.store.signature = true → s.ledger.period = s.store.periodWord ∧ s.settle.period = s.store.periodWord
  banks : s.store.signature = true → s.store.periodWord ≠ 0 → ∀ k, k ≤ 511 → (s.shop k).bank.period ≤ s.store.periodWord
  swept : s.store.signature = true → ∀ k, k < s.settle.cursor → k ≤ 511 → s.behind k = false
  current : s.store.signature = true → ∀ k, k ≤ 511 →
    ((s.shop k).closing.state = .emitted ∨ (s.shop k).closing.state = .inDoubt) → s.behind k = false
  fresh : s.store.signature = true → s.store.periodWord = 0 → s.settle.unrolled = 0 ∧ s.settle.openPayouts = 0 ∧
    ∀ k, k ≤ 511 → (s.shop k).bank.period = 1 ∧ (s.shop k).closing.state = .none
  spent : s.store.signature = true → s.ledger.mode = .config → s.store.periodWord = 0 ∨ 4294967296 ≤ s.store.nextToWrite
  counts : s.countsSound
  window : s.windowSound

theorem State.booked_iff (s : State) : s.booked ↔ s.periodSound ∧ s.countsSound ∧ s.windowSound := by
  constructor
  · rintro ⟨closes, copies, banks, swept, current, fresh, spent, counts, window⟩
    exact ⟨⟨closes, fun signed => ⟨(copies signed).1, (copies signed).2, banks signed, swept signed, current signed, fresh signed,
      spent signed⟩⟩, counts, window⟩
  · rintro ⟨⟨closes, signed_⟩, counts, window⟩
    refine ⟨closes, fun signed => ?_, fun signed => ?_, fun signed => ?_, fun signed => ?_, fun signed => ?_, fun signed => ?_,
      counts, window⟩ <;> obtain ⟨ledger, settle, banks, swept, current, fresh, spent⟩ := signed_ signed
    · exact ⟨ledger, settle⟩
    · exact banks
    · exact swept
    · exact current
    · exact fresh
    · exact spent

theorem booked_ofCore : OfCore State.booked := fun s => by
  rw [State.booked_iff, State.booked_iff]
  exact Iff.rfl

/-! ### What the invariant rests on -/

/-- What a slot of the payout window claims: tag, shop, period and amount of its payout. -/
def Slot.claim : Slot → Option (Nat × Nat × Nat × Nat)
  | .filled p => some (p.tag, p.shop, p.period, p.amount)
  | .granted _ => none
  | .free => none

theorem Slot.claim_eq_some {x : Slot} {tag shop period amount : Nat} (h : x.claim = some (tag, shop, period, amount)) :
    ∃ p, x = .filled p ∧ p.tag = tag ∧ p.shop = shop ∧ p.period = period ∧ p.amount = amount := by
  cases x with
  | filled p =>
    cases h
    exact ⟨p, rfl, rfl, rfl, rfl, rfl⟩
  | granted c => cases h
  | free => cases h

/-- The state without everything but shops, payout window, counts and periods. -/
def State.bookView (s : State) : State :=
  { State.reset with
    ledger := { State.reset.ledger with
                mode := s.ledger.mode, period := s.ledger.period, closeOutstanding := s.ledger.closeOutstanding },
    settle := { Settle.initial with
                period := s.settle.period, accruals := s.settle.accruals.filter Accrual.isClose, unrolled := s.settle.unrolled,
                openPayouts := s.settle.openPayouts, cursor := s.settle.cursor },
    plu := { PayoutUnit.initial with slots := s.plu.slots },
    recovery := { Recovery.initial with counted := s.recovery.counted },
    store := { Store.blank with
               signature := s.store.signature, periodWord := s.store.periodWord, shops := s.store.shops,
               nextToWrite := s.store.nextToWrite } }

/-- That state without shops and payout window. -/
def State.bookPart (s : State) : State := { s.bookView with store.shops := [], plu.slots := [] }

/-- That state without the two counts. -/
def State.bookFrame (s : State) : State := { s.bookPart with settle.unrolled := 0, settle.openPayouts := 0 }

/-- Shops keep the period of their open bank and their closing bank, slots what they claim; all else keeps what the invariant rests
on, but for a higher next number. -/
structure BooksKept (s t : State) : Prop where
  part : ∃ n, s.store.nextToWrite ≤ n ∧ t.bookPart = s.bookPart.nextNumber n
  shops : ∀ k, (t.shop k).bank.period = (s.shop k).bank.period ∧ (t.shop k).closing = (s.shop k).closing
  claims : ∀ j, (t.slot j).claim = (s.slot j).claim

theorem BooksKept.of_view {s t : State} (h : t.bookView = s.bookView) : BooksKept s t where
  part := ⟨_, le_rfl, by unfold State.bookPart; rw [h]; rfl⟩
  shops k := by
    have same : t.shop k = s.shop k := (congrArg (fun u : State => u.shop k) h :)
    rw [same]
    exact ⟨rfl, rfl⟩
  claims j := (congrArg (fun u : State => (u.slot j).claim) h :)

theorem BooksKept.refl (s : State) : BooksKept s s := .of_view rfl

theorem BooksKept.trans {s t u : State} (h : BooksKept s t) (k : BooksKept t u) : BooksKept s u := by
  obtain ⟨⟨n, hn, e⟩, shops, claims⟩ := h
  obtain ⟨⟨m, hm, e'⟩, shops', claims'⟩ := k
  have next : t.store.nextToWrite = n := (congrArg (fun v : State => v.store.nextToWrite) e :)
  refine ⟨⟨m, by omega, e'.trans (by rw [e]; rfl)⟩, fun k => ?_, fun j => (claims' j).trans (claims j)⟩
  exact ⟨(shops' k).1.trans (shops k).1, (shops' k).2.trans (shops k).2⟩

/-- Only the next number is higher. -/
theorem BooksKept.numbered (s : State) {n : Nat} (hn : s.store.nextToWrite ≤ n) : BooksKept s (s.nextNumber n) :=
  ⟨⟨n, hn, rfl⟩, fun _ => ⟨rfl, rfl⟩, fun _ => rfl⟩

theorem WorkKept.booksKept {s t : State} (h : WorkKept s t) : BooksKept s t := by
  obtain ⟨n, hn, e⟩ := h
  have look : ∀ u : State, u.workPart.bookView = u.bookView := fun u => by
    unfold State.bookView State.workPart
    simp [List.filter_filter]
  have same : t.bookView = (s.nextNumber n).bookView := by
    rw [← look, e, ← look (s.nextNumber n)]
    rfl
  exact (BooksKept.numbered s hn).trans (.of_view same)

theorem State.windowSound.moved {s t : State} (h : s.windowSound) (mode : t.ledger.mode = s.ledger.mode)
    (claims : ∀ j, (t.slot j).claim = (s.slot j).claim)
    (shops : ∀ k, k ≤ 511 → ((s.shop k).closing.state = .emitted ∨ (t.shop k).closing.state = .emitted) →
      (t.shop k).closing = (s.shop k).closing) : t.windowSound := by
  have backs : ∀ j p, t.slot j = .filled p → ∃ q, s.slot j = .filled q ∧ q.tag = p.tag ∧ q.shop = p.shop ∧ q.period = p.period ∧
      q.amount = p.amount := fun j p is => Slot.claim_eq_some ((claims j).symm.trans (congrArg Slot.claim is))
  have forth : ∀ j q, s.slot j = .filled q → ∃ p, t.slot j = .filled p ∧ p.shop = q.shop := fun j q is => by
    obtain ⟨p, filled, -, shop, -⟩ := Slot.claim_eq_some ((claims j).trans (congrArg Slot.claim is))
    exact ⟨p, filled, shop⟩
  obtain ⟨filled, once, held⟩ := h
  refine ⟨fun j p is => ?_, fun i j p q isP isQ same => ?_, fun opened k hk emitted => ?_⟩
  · obtain ⟨q, isQ, tag, shop, period, amount⟩ := backs j p is
    obtain ⟨opened, low, named, emitted, tagged, of, for_⟩ := filled j q isQ
    rw [shop] at named emitted tagged of for_
    rw [mode, shops _ named (.inl emitted), ← tag, ← period, ← amount]
    exact ⟨opened, low, named, emitted, tagged, of, for_⟩
  · obtain ⟨p', isP', -, shopP, -⟩ := backs i p isP
    obtain ⟨q', isQ', -, shopQ, -⟩ := backs j q isQ
    exact once i j p' q' isP' isQ' (by rw [shopP, shopQ, same])
  · rw [mode] at opened
    rw [shops k hk (.inr emitted)] at emitted
    obtain ⟨j, q, isQ, shop⟩ := held opened k hk emitted
    obtain ⟨p, isP, same⟩ := forth j q isQ
    exact ⟨j, p, isP, same.trans shop⟩

theorem BooksKept.booked {s t : State} (kept : BooksKept s t) (h : s.booked) : t.booked := by
  obtain ⟨⟨n, hn, e⟩, shops, claims⟩ := kept
  have mode : t.ledger.mode = s.ledger.mode := (congrArg (fun u : State => u.ledger.mode) e :)
  have copy : t.ledger.period = s.ledger.period := (congrArg (fun u : State => u.ledger.period) e :)
  have out : t.ledger.closeOutstanding = s.ledger.closeOutstanding := (congrArg (fun u : State => u.ledger.closeOutstanding) e :)
  have now : t.settle.period = s.settle.period := (congrArg (fun u : State => u.settle.period) e :)
  have closes : t.settle.accruals.filter Accrual.isClose = s.settle.accruals.filter Accrual.isClose :=
    (congrArg (fun u : State => u.settle.accruals) e :)
  have unrolled : t.settle.unrolled = s.settle.unrolled := (congrArg (fun u : State => u.settle.unrolled) e :)
  have payouts : t.settle.openPayouts = s.settle.openPayouts := (congrArg (fun u : State => u.settle.openPayouts) e :)
  have cursor : t.settle.cursor = s.settle.cursor := (congrArg (fun u : State => u.settle.cursor) e :)
  have counted : t.recovery.counted = s.recovery.counted := (congrArg (fun u : State => u.recovery.counted) e :)
  have signature : t.store.signature = s.store.signature := (congrArg (fun u : State => u.store.signature) e :)
  have word : t.store.periodWord = s.store.periodWord := (congrArg (fun u : State => u.store.periodWord) e :)
  have next : t.store.nextToWrite = n := (congrArg (fun u : State => u.store.nextToWrite) e :)
  have bank : ∀ k, (t.shop k).bank.period = (s.shop k).bank.period := fun k => (shops k).1
  have closing : ∀ k, (t.shop k).closing = (s.shop k).closing := fun k => (shops k).2
  have behind : ∀ k, t.behind k = s.behind k := fun k => by
    unfold State.behind
    rw [bank, now]
  refine ⟨?_, ?_, ?_, ?_, ?_, ?_, ?_, ?_, h.window.moved mode claims fun k _ _ => closing k⟩
  · rw [closes, out, word]; exact h.closes
  · rw [signature, copy, now, word]; exact h.copies
  · simp only [signature, word, bank]; exact h.banks
  · simp only [signature, cursor, behind]; exact h.swept
  · simp only [signature, closing, behind]; exact h.current
  · simp only [signature, word, unrolled, payouts, bank, closing]; exact h.fresh
  · intro signed config
    rw [word, next]
    exact (h.spent (signature ▸ signed) (mode ▸ config)).imp id fun le => le.trans hn
  · have counts := h.counts
    unfold State.countsSound at counts ⊢
    simp only [signature, mode, counted, unrolled, payouts, behind, closing]
    exact counts

end Sys2Proof.Machine
end

section
/-! PROOFS. One shop rolled, claimed, settled, returned or put in doubt keeps periods, counts and payout window sound (R118, R134, R135,
R154, R168 to R170). -/

namespace Sys2Proof.Machine

/-! ### The change of one shop -/

/-- When a property changes at one number at most, the count of the numbers below a bound that have it changes by that one. -/
theorem card_filter_change {n k : Nat} (hk : k < n) (p q : Nat → Prop) [DecidablePred p] [DecidablePred q]
    (same : ∀ j, j ≠ k → (q j ↔ p j)) :
    ((Finset.range n).filter q).card + (if p k then 1 else 0) = ((Finset.range n).filter p).card + (if q k then 1 else 0) := by
  rw [Finset.card_filter, Finset.card_filter]
  exact sum_balance_change hk (fun j => if p j then 1 else 0) (fun j => if q j then 1 else 0) fun j hj => if_congr (same j hj) rfl rfl

/-- The closing bank is claimed and not yet settled or returned: EMITTED or IN_DOUBT (R134). -/
def ClosingBank.unsettled (c : ClosingBank) : Bool := decide (c.state = .emitted ∨ c.state = .inDoubt)

/-- Shop k alone has changed: its open bank is as it was or of the current period, its closing bank is that of a shop behind or one
that a roll has filled before, and both counts follow it. -/
structure ShopMoved (s t : State) (k : Nat) : Prop where
  frame : ∃ n, s.store.nextToWrite ≤ n ∧ t.bookFrame = s.bookFrame.nextNumber n
  named : k ≤ 511
  shops : ∀ j, j ≠ k → t.shop j = s.shop j
  bank : (t.shop k).bank.period = (s.shop k).bank.period ∨ (t.shop k).bank.period = s.settle.period
  current : (t.shop k).closing.unsettled = true → t.behind k = false
  begun : (s.shop k).closing.state = .none → s.behind k = true
  unrolled : t.settle.unrolled = s.settle.unrolled + (if t.behind k = true then 1 else 0) - (if s.behind k = true then 1 else 0)
  payouts : t.settle.openPayouts = s.settle.openPayouts + (if (t.shop k).closing.unsettled = true then 1 else 0) -
    (if (s.shop k).closing.unsettled = true then 1 else 0)
  emitted : (t.shop k).closing.state = .emitted → s.ledger.mode = .opened
  window : t.windowSound

theorem ClosingBank.unsettled_iff (c : ClosingBank) : c.unsettled = true ↔ c.state = .emitted ∨ c.state = .inDoubt :=
  decide_eq_true_iff

theorem ShopMoved.booked {s t : State} {k : Nat} (moved : ShopMoved s t k) (h : s.booked) : t.booked := by
  obtain ⟨⟨n, hn, e⟩, named, shops, bank, current, begun, unrolled, payouts, emitted, window⟩ := moved
  have mode : t.ledger.mode = s.ledger.mode := (congrArg (fun u : State => u.ledger.mode) e :)
  have copy : t.ledger.period = s.ledger.period := (congrArg (fun u : State => u.ledger.period) e :)
  have out : t.ledger.closeOutstanding = s.ledger.closeOutstanding := (congrArg (fun u : State => u.ledger.closeOutstanding) e :)
  have now : t.settle.period = s.settle.period := (congrArg (fun u : State => u.settle.period) e :)
  have closes : t.settle.accruals.filter Accrual.isClose = s.settle.accruals.filter Accrual.isClose :=
    (congrArg (fun u : State => u.settle.accruals) e :)
  have cursor : t.settle.cursor = s.settle.cursor := (congrArg (fun u : State => u.settle.cursor) e :)
  have counted : t.recovery.counted = s.recovery.counted := (congrArg (fun u : State => u.recovery.counted) e :)
  have signature : t.store.signature = s.store.signature := (congrArg (fun u : State => u.store.signature) e :)
  have word : t.store.periodWord = s.store.periodWord := (congrArg (fun u : State => u.store.periodWord) e :)
  have next : t.store.nextToWrite = n := (congrArg (fun u : State => u.store.nextToWrite) e :)
  have others : ∀ j, j ≠ k → t.behind j = s.behind j := fun j other => by
    unfold State.behind
    rw [shops j other, now]
  have stays : s.behind k = false → t.behind k = false := fun notBehind => by
    unfold State.behind at notBehind ⊢
    rw [now]
    rcases bank with same | is
    · rw [same]; exact notBehind
    · rw [is]; exact decide_eq_false (Nat.lt_irrefl _)
  refine ⟨?_, ?_, fun signed opened j hj => ?_, fun signed j below hj => ?_, fun signed j hj unsettled => ?_,
    fun signed zero => ?_, fun signed config => ?_, fun signed made => ?_, window⟩
  · rw [closes, out, word]; exact h.closes
  · rw [signature, copy, now, word]; exact h.copies
  · rw [signature] at signed
    rw [word] at opened ⊢
    by_cases here : j = k
    · subst here
      rcases bank with same | is
      · rw [same]; exact h.banks signed opened j hj
      · rw [is, (h.copies signed).2]
    · rw [shops j here]; exact h.banks signed opened j hj
  · rw [signature] at signed
    rw [cursor] at below
    have swept := h.swept signed j below hj
    by_cases here : j = k
    · rw [here] at swept ⊢; exact stays swept
    · rw [others j here]; exact swept
  · rw [signature] at signed
    by_cases here : j = k
    · rw [here] at unsettled ⊢
      exact current ((ClosingBank.unsettled_iff _).mpr unsettled)
    · rw [shops j here] at unsettled
      rw [others j here]
      exact h.current signed j hj unsettled
  · rw [signature] at signed
    rw [word] at zero
    obtain ⟨-, -, untouched⟩ := h.fresh signed zero
    have behind := begun (untouched k named).2
    unfold State.behind at behind
    rw [(h.copies signed).2, zero] at behind
    cases behind
  · rw [signature] at signed
    rw [mode] at config
    rw [word, next]
    exact (h.spent signed config).imp id fun le => le.trans hn
  · rw [signature] at signed
    rw [mode, counted] at made
    obtain ⟨behindCount, openCount, clean⟩ := h.counts signed made
    have behindMove := card_filter_change (n := 512) (k := k) (by omega) (fun j => s.behind j = true) (fun j => t.behind j = true)
      fun j other => by rw [others j other]
    have openMove := card_filter_change (n := 512) (k := k) (by omega)
      (fun j => (s.shop j).closing.state = .emitted ∨ (s.shop j).closing.state = .inDoubt)
      (fun j => (t.shop j).closing.state = .emitted ∨ (t.shop j).closing.state = .inDoubt) fun j other => by rw [shops j other]
    simp only [ClosingBank.unsettled_iff] at payouts
    refine ⟨by omega, by omega, fun notOpen j hj is => ?_⟩
    rw [mode] at notOpen
    by_cases here : j = k
    · rw [here] at is
      exact notOpen (emitted is)
    · rw [shops j here] at is
      exact clean notOpen j hj is

/-! ### The payout window -/

/-- The slot of an outcome is free: its shop is no longer EMITTED. -/
theorem State.windowSound.freed {s t : State} (h : s.windowSound) (mode : t.ledger.mode = s.ledger.mode) {i : Nat} {p : Payout}
    (was : s.slot i = .filled p) (free : t.slot i = .free) (slots : ∀ j, j ≠ i → t.slot j = s.slot j)
    (shops : ∀ k, k ≠ p.shop → t.shop k = s.shop k) (ended : (t.shop p.shop).closing.state ≠ .emitted) : t.windowSound := by
  obtain ⟨filled, once, held⟩ := h
  have other : ∀ j q, t.slot j = .filled q → j ≠ i ∧ s.slot j = .filled q := fun j q is => by
    by_cases here : j = i
    · rw [here, free] at is; cases is
    · exact ⟨here, (slots j here).symm.trans is⟩
  refine ⟨fun j q is => ?_, fun a b q r isQ isR same => ?_, fun opened k hk emitted => ?_⟩
  · obtain ⟨elsewhere, isS⟩ := other j q is
    rw [mode, shops q.shop fun same => elsewhere (once j i q p isS was same)]
    exact filled j q isS
  · exact once a b q r (other a q isQ).2 (other b r isR).2 same
  · have elsewhere : k ≠ p.shop := fun here => ended (here ▸ emitted)
    rw [mode] at opened
    rw [shops k elsewhere] at emitted
    obtain ⟨j, q, isS, shop⟩ := held opened k hk emitted
    have elsewhereJ : j ≠ i := fun here => by
      rw [here, was] at isS
      cases isS
      exact elsewhere shop.symm
    exact ⟨j, q, (slots j elsewhereJ).trans isS, shop⟩

/-- A slot that was not FILLED takes the payout of a shop just EMITTED. -/
theorem State.windowSound.fill {s t : State} (h : s.windowSound) (mode : t.ledger.mode = s.ledger.mode)
    (opened : s.ledger.mode = .opened) {i : Nat} {p : Payout} (low : i ≤ 15) (named : p.shop ≤ 511)
    (was : ∀ q, s.slot i ≠ .filled q) (is : t.slot i = .filled p) (slots : ∀ j, j ≠ i → t.slot j = s.slot j)
    (shops : ∀ k, k ≠ p.shop → t.shop k = s.shop k) (unclaimed : (s.shop p.shop).closing.state ≠ .emitted)
    (claimed : (t.shop p.shop).closing.state = .emitted ∧ (t.shop p.shop).closing.tag = some p.tag ∧
      (t.shop p.shop).closing.period = p.period ∧ (t.shop p.shop).closing.amount = p.amount) : t.windowSound := by
  obtain ⟨filled, once, held⟩ := h
  have others : ∀ j q, s.slot j = .filled q → q.shop ≠ p.shop := fun j q isQ same => by
    obtain ⟨-, -, -, emitted, -⟩ := filled j q isQ
    exact unclaimed (same ▸ emitted)
  have split : ∀ j q, t.slot j = .filled q → (j = i ∧ q = p) ∨ s.slot j = .filled q := fun j q isQ => by
    by_cases here : j = i
    · rw [here, is] at isQ
      exact .inl ⟨here, (Slot.filled.inj isQ).symm⟩
    · exact .inr ((slots j here).symm.trans isQ)
  refine ⟨fun j q isQ => ?_, fun a b q r isQ isR same => ?_, fun _ k hk emitted => ?_⟩
  · rcases split j q isQ with ⟨rfl, rfl⟩ | old
    · exact ⟨mode.trans opened, low, named, claimed⟩
    · rw [mode, shops _ (others j q old)]
      exact filled j q old
  · rcases split a q isQ with ⟨rfl, rfl⟩ | oldQ
    · rcases split b r isR with ⟨rfl, -⟩ | oldR
      · rfl
      · exact absurd same.symm (others b r oldR)
    · rcases split b r isR with ⟨rfl, rfl⟩ | oldR
      · exact absurd same (others a q oldQ)
      · exact once a b q r oldQ oldR same
  · by_cases here : k = p.shop
    · exact ⟨i, p, is, here.symm⟩
    · rw [shops k here] at emitted
      obtain ⟨j, q, isQ, shop⟩ := held opened k hk emitted
      exact ⟨j, q, (slots j fun at_ => was q (at_ ▸ isQ)).trans isQ, shop⟩

end Sys2Proof.Machine
end

section
/-! PROOFS. The writes of the Settlement Unit keep periods, counts and payout window sound (chapters 6 to 9). -/

namespace Sys2Proof.Machine

/-! ### The operations that keep them as they are -/

section
variable (s : State)

@[simp] theorem State.raiseIf_bookView (b : Bool) (src : Source) : (s.raiseIf b src).bookView = s.bookView := by
  rw [State.raiseIf_frame]; rfl

theorem BooksKept.raiseIf (b : Bool) (src : Source) : BooksKept s (s.raiseIf b src) := .of_view (s.raiseIf_bookView b src)

theorem BooksKept.append (p : Nat) (b : EntryBody) : BooksKept s (s.append p b) := by
  have same : (s.append p b).bookView = (s.nextNumber (s.store.nextToWrite + 1)).bookView := by
    unfold State.append
    exact State.raiseIf_bookView ..
  exact (BooksKept.numbered s (Nat.le_succ _)).trans (.of_view same)

theorem BooksKept.noteWork : BooksKept s s.noteWork := .of_view (by rw [State.noteWork_eq]; rfl)

theorem State.reserve_bookView {s t : State} {cls : ResClass} {n : Nat} (hr : s.reserve cls n = some t) :
    t.bookView = s.bookView := by
  obtain ⟨-, rfl⟩ := State.reserve_eq hr
  exact State.raiseIf_bookView ..

theorem BooksKept.reserve {s t : State} {cls : ResClass} {n : Nat} (hr : s.reserve cls n = some t) : BooksKept s t :=
  .of_view (State.reserve_bookView hr)

/-- A reservation is granted over a signature alone (R179). -/
theorem State.reserve_signed {s t : State} {cls : ResClass} {n : Nat} (hr : s.reserve cls n = some t) :
    t.store.signature = true ∧ s.store.nextToWrite + n ≤ 4294967296 := by
  obtain ⟨may, -⟩ := State.reserve_eq hr
  obtain ⟨-, signed, -, room⟩ := State.canReserve_spec may
  exact ⟨((congrArg (fun u : State => u.store.signature) (State.reserve_bookView hr) :) : _ = s.store.signature).trans signed,
    by omega⟩

theorem BooksKept.rearm : BooksKept s s.rearm := by
  unfold State.rearm
  exact .of_view ((State.raiseIf_bookView ..).trans (State.raiseIf_bookView ..))

/-- A slot that claims as before. -/
theorem BooksKept.setSlot {k : Nat} {x : Slot} (same : x.claim = (s.slot k).claim) : BooksKept s (s.setSlot k x) := by
  refine ⟨⟨_, le_rfl, rfl⟩, fun _ => ⟨rfl, rfl⟩, fun j => ?_⟩
  by_cases here : j = k
  · rw [here, State.setSlot_slot_same]; exact same
  · rw [State.setSlot_slot_ne s k x here]

theorem BooksKept.grantSlots : BooksKept s s.grantSlots :=
  State.grantSlots_induct (P := BooksKept s) (.refl s) fun u k c kept free _ => by
    obtain ⟨-, isFree, -⟩ := (u.freeSlot_eq_some_iff k).mp free
    have granted : BooksKept u (u.setSlot k (.granted c)) := .setSlot u (by rw [isFree]; rfl)
    exact kept.trans (granted.trans (.of_view rfl))

theorem BooksKept.advanceNotice : BooksKept s s.advanceNotice := by
  unfold State.advanceNotice
  obtain ⟨d, hd⟩ := foldl_setChannel_frame (fun t c => (t.channel c).advanceNotice) [0, 1, 2, 3] s
  rw [hd]
  exact (BooksKept.of_view (by rfl)).trans (.grantSlots _)

/-- A shop record with the same open period and closing bank. -/
theorem BooksKept.setShop {k : Nat} {r : ShopRecord} (bank : r.bank.period = (s.shop k).bank.period)
    (closing : r.closing = (s.shop k).closing) : BooksKept s (s.setShop k r) := by
  refine ⟨⟨_, le_rfl, rfl⟩, fun j => ?_, fun _ => rfl⟩
  by_cases here : j = k
  · rw [here, State.setShop_shop_same]; exact ⟨bank, closing⟩
  · rw [State.setShop_shop_ne s k r here]; exact ⟨rfl, rfl⟩

theorem ShopRecord.accrue_keeps (r : ShopRecord) (e : Effect) :
    (r.accrue e).1.bank.period = r.bank.period ∧ (r.accrue e).1.closing = r.closing := by
  have bank : (r.bank.accrue e).1.period = r.bank.period := by cases e <;> rfl
  unfold ShopRecord.accrue
  dsimp only
  split
  · exact ⟨bank, rfl⟩
  · exact ⟨bank, rfl⟩

theorem BooksKept.applyEffect (e : Effect) (source : Nat) : BooksKept s (s.applyEffect e source) := by
  have accrued : ∀ k, BooksKept s (s.setShop k ((s.shop k).accrue e).1) := fun k =>
    .setShop s ((s.shop k).accrue_keeps e).1 ((s.shop k).accrue_keeps e).2
  cases e with
  | unclaimed amount => exact .of_view (State.raiseIf_bookView ..)
  | sold k a => exact (accrued k).trans (.of_view (State.raiseIf_bookView ..))
  | redeemed k a rate => exact (accrued k).trans (.of_view (State.raiseIf_bookView ..))
  | refunded k a rate => exact (accrued k).trans (.of_view (State.raiseIf_bookView ..))
  | cashed k a => exact (accrued k).trans (.of_view (State.raiseIf_bookView ..))

end

/-! ### The roll -/

theorem disposition_state (house : Bool) (office : OfficeState) (payoutMin : Nat) (n : Int) :
    (disposition house office payoutMin n).1 = .house ∨ (disposition house office payoutMin n).1 = .carried ∨
      (disposition house office payoutMin n).1 = .owed := by
  unfold disposition
  split_ifs
  · exact .inl rfl
  · exact .inr (.inl rfl)
  · exact .inr (.inr rfl)
  · exact .inr (.inl rfl)

theorem rollOf_closing (k : Nat) (r : ShopRecord) (house : Bool) (payoutMin now : Nat) :
    (rollOf k r house payoutMin now).shop.closing.unsettled = false := by
  have closing : (rollOf k r house payoutMin now).shop.closing.state = (disposition house r.office payoutMin
    (netOf r.bank (r.carry + foldedOf r.closing) (commissionOf (r.bank.q + r.remainder)))).1 := rfl
  unfold ClosingBank.unsettled
  rw [closing]
  rcases disposition_state house r.office payoutMin (netOf r.bank (r.carry + foldedOf r.closing)
    (commissionOf (r.bank.q + r.remainder))) with is | is | is <;> rw [is] <;> rfl

/-- What a roll writes of shops and counts. -/
def State.rollWrites (s : State) (k : Nat) : State :=
  { s.setShop k (s.rollFor k).shop with settle.unrolled := s.settle.unrolled - 1 }

theorem BooksKept.commitRoll (s : State) (k : Nat) : BooksKept (s.rollWrites k) (s.commitRoll k) := by
  unfold State.commitRoll
  have written : BooksKept (s.rollWrites k) { s.setShop k (s.rollFor k).shop with
      store.houseRec := (s.store.houseRec.afterRoll (s.store.house.has k) (s.rollFor k).entry.commission (s.rollFor k).entry.net).1,
      settle.unrolled := s.settle.unrolled - 1 } := .of_view rfl
  exact written.trans ((BooksKept.append _ _ _).trans (.raiseIf _ _ _))

section
variable {s : State} (h : s.booked)
include h

/-- A shop behind is rolled: one shop behind fewer (R118, R135). -/
theorem State.booked.commitRoll (signed : s.store.signature = true) {k : Nat} (named : k ≤ 511) (behind : s.behind k = true) :
    (s.commitRoll k).booked := by
  refine (BooksKept.commitRoll s k).booked (ShopMoved.booked (k := k) ?_ h)
  have own : (s.rollWrites k).shop k = (s.rollFor k).shop := State.setShop_shop_same ..
  have others : ∀ j, j ≠ k → (s.rollWrites k).shop j = s.shop j := fun j other => State.setShop_shop_ne s k _ other
  have settledNow : (s.rollFor k).shop.closing.unsettled = false := rollOf_closing ..
  have settledBefore : (s.shop k).closing.unsettled = false := by
    by_contra unsettled
    have is := h.current signed k named ((ClosingBank.unsettled_iff _).mp (by simpa using unsettled))
    rw [behind] at is
    cases is
  have current : (s.rollWrites k).behind k = false := by
    unfold State.behind
    rw [own]
    exact decide_eq_false (Nat.lt_irrefl _)
  have notEmitted : ∀ c : ClosingBank, c.unsettled = false → c.state ≠ .emitted := fun c is emitted => by
    rw [(c.unsettled_iff).mpr (.inl emitted)] at is
    cases is
  refine ⟨⟨_, le_rfl, rfl⟩, named, others, .inr ?_, fun _ => current, fun _ => behind, ?_, ?_, fun emitted => ?_, ?_⟩
  · rw [own]; rfl
  · rw [current, behind]; rfl
  · rw [own, settledNow, settledBefore]; rfl
  · rw [own] at emitted
    exact absurd emitted (notEmitted _ settledNow)
  · refine h.window.moved rfl (fun _ => rfl) fun j _ emitted => ?_
    by_cases here : j = k
    · rw [here, own] at emitted
      exact absurd emitted (not_or.mpr ⟨notEmitted _ settledBefore, notEmitted _ settledNow⟩)
    · rw [others j here]

theorem State.booked.rollIfBehind {t : State} {k : Nat} (named : k ≤ 511) (hr : s.rollIfBehind k = some t) : t.booked := by
  unfold State.rollIfBehind at hr
  split at hr
  · next behind =>
    obtain ⟨s1, hs1, rfl⟩ := Option.map_eq_some_iff.mp hr
    have same := State.reserve_bookView hs1
    exact ((BooksKept.of_view same).booked h).commitRoll (State.reserve_signed hs1).1 named
      (((congrArg (fun u : State => u.behind k) same :) : _ = s.behind k).trans behind)
  · cases hr; exact h

theorem State.booked.rollForEffect {t : State} {e : Effect} (named : ∀ k, e.shop = some k → k ≤ 511)
    (hr : s.rollForEffect e = some t) : t.booked := by
  unfold State.rollForEffect at hr
  split at hr
  · next k is => exact h.rollIfBehind (named k is) hr
  · cases hr; exact h

/-! ### The end of a payout -/

/-- A shop EMITTED or IN_DOUBT is settled, returned or put in doubt, and the open payout count follows it. -/
theorem State.booked.ends {t : State} {k : Nat} (signed : s.store.signature = true) (named : k ≤ 511)
    (frame : ∃ n, s.store.nextToWrite ≤ n ∧ t.bookFrame = s.bookFrame.nextNumber n) (others : ∀ j, j ≠ k → t.shop j = s.shop j)
    (bank : (t.shop k).bank = (s.shop k).bank) (was : (s.shop k).closing.unsettled = true)
    (ended : (t.shop k).closing.state ≠ .emitted) (unrolled : t.settle.unrolled = s.settle.unrolled)
    (payouts : t.settle.openPayouts = s.settle.openPayouts + (if (t.shop k).closing.unsettled = true then 1 else 0) - 1)
    (window : t.windowSound) : t.booked := by
  have now : t.settle.period = s.settle.period := by
    obtain ⟨n, -, e⟩ := frame
    exact (congrArg (fun u : State => u.settle.period) e :)
  have behind : t.behind k = s.behind k := by
    unfold State.behind
    rw [bank, now]
  have notBehind := h.current signed k named ((ClosingBank.unsettled_iff _).mp was)
  refine ShopMoved.booked (k := k) ⟨frame, named, others, .inl (by rw [bank]), fun _ => behind.trans notBehind, fun none_ => ?_, ?_, ?_,
    fun emitted => absurd emitted ended, window⟩ h
  · rw [ClosingBank.unsettled_iff, none_] at was
    rcases was with no | no <;> cases no
  · rw [behind, unrolled, Nat.add_sub_cancel]
  · rw [was, payouts]; rfl

end

end Sys2Proof.Machine
end

section
/-! PROOFS. Claims, outcomes, doubts and counts keep periods, counts and payout window sound (R134, R141, R154, R168 to R173). -/

namespace Sys2Proof.Machine

/-! ### The end of a payout, by an answer, a deadline or RESOLVE -/

/-- What ends the payout of shop k writes of shops and counts: the closing bank is no longer EMITTED. -/
structure PayoutEnds (s x : State) (k : Nat) : Prop where
  frame : ∃ n, s.store.nextToWrite ≤ n ∧ x.bookFrame = s.bookFrame.nextNumber n
  slots : x.plu.slots = s.plu.slots
  others : ∀ j, j ≠ k → x.shop j = s.shop j
  bank : (x.shop k).bank = (s.shop k).bank
  ended : (x.shop k).closing.state ≠ .emitted
  unrolled : x.settle.unrolled = s.settle.unrolled
  payouts : x.settle.openPayouts = s.settle.openPayouts + (if (x.shop k).closing.unsettled = true then 1 else 0) - 1

theorem PayoutEnds.of_view {s x y : State} {k : Nat} (ends : PayoutEnds s x k) (hy : y.bookView = x.bookView) : PayoutEnds s y k := by
  obtain ⟨frame, slots, others, bank, ended, unrolled, payouts⟩ := ends
  have shop : ∀ j, y.shop j = x.shop j := fun j => (congrArg (fun u : State => u.shop j) hy :)
  refine ⟨?_, ((congrArg (fun u : State => u.plu.slots) hy :) : _ = x.plu.slots).trans slots,
    fun j other => (shop j).trans (others j other), ?_, ?_,
    ((congrArg (fun u : State => u.settle.unrolled) hy :) : _ = x.settle.unrolled).trans unrolled, ?_⟩
  · obtain ⟨n, hn, e⟩ := frame
    refine ⟨n, hn, Eq.trans ?_ e⟩
    unfold State.bookFrame State.bookPart
    rw [hy]
  · rw [shop]; exact bank
  · rw [shop]; exact ended
  · rw [shop]
    exact ((congrArg (fun u : State => u.settle.openPayouts) hy :) : _ = x.settle.openPayouts).trans payouts

theorem PayoutEnds.append {s x : State} {k : Nat} (ends : PayoutEnds s x k) (p : Nat) (b : EntryBody) :
    PayoutEnds s (x.append p b) k := by
  obtain ⟨⟨n, hn, e⟩, slots, others, bank, ended, unrolled, payouts⟩ := ends
  have next : x.store.nextToWrite = n := (congrArg (fun u : State => u.store.nextToWrite) e :)
  refine PayoutEnds.of_view (x := x.nextNumber (x.store.nextToWrite + 1))
    ⟨⟨x.store.nextToWrite + 1, by omega, ?_⟩, slots, others, bank, ended, unrolled, payouts⟩ ?_
  · show x.bookFrame.nextNumber _ = _
    rw [e]
    rfl
  · unfold State.append
    exact State.raiseIf_bookView ..

theorem State.makeSettled_ends (s : State) (k : Nat) : PayoutEnds s (s.makeSettled k) k := by
  have own : (s.settlePayout k).1.shop k = { s.shop k with closing := { (s.shop k).closing with state := .settled } } :=
    State.setShop_shop_same ..
  refine PayoutEnds.of_view (x := (s.settlePayout k).1)
    ⟨⟨_, le_rfl, rfl⟩, rfl, fun j other => State.setShop_shop_ne s k _ other, ?_, ?_, rfl, ?_⟩
    (State.raiseIf_bookView ..)
  · rw [own]
  · rw [own]; exact nofun
  · rw [own]; rfl

theorem ShopRecord.returnPayout_state (r : ShopRecord) : r.returnPayout.1.closing.state = .returned := rfl

theorem State.makeReturned_ends (s : State) (k : Nat) : PayoutEnds s (s.makeReturned k) k := by
  have own : (s.returnPayout k).1.shop k = (s.shop k).returnPayout.1 := State.setShop_shop_same ..
  have returned := (s.shop k).returnPayout_state
  refine PayoutEnds.of_view (x := (s.returnPayout k).1)
    ⟨⟨_, le_rfl, rfl⟩, rfl, fun j other => State.setShop_shop_ne s k _ other, ?_, ?_, rfl, ?_⟩
    (State.raiseIf_bookView ..)
  · rw [own]; rfl
  · rw [own, returned]; exact nofun
  · rw [own]; rfl

theorem State.makeInDoubt_ends (s : State) (k : Nat) : PayoutEnds s (s.makeInDoubt k) k := by
  have own : (s.makeInDoubt k).shop k = { s.shop k with closing := { (s.shop k).closing with state := .inDoubt } } :=
    State.setShop_shop_same ..
  refine ⟨⟨_, le_rfl, rfl⟩, rfl, fun j other => State.setShop_shop_ne s k _ other, ?_, ?_, rfl, ?_⟩
  · rw [own]
  · rw [own]; exact nofun
  · rw [own]; rfl

section
variable {s x : State} {k : Nat} (ends : PayoutEnds s x k) (h : s.booked) (signed : s.store.signature = true)
include ends h signed

/-- The payout's slot is freed with it. -/
theorem PayoutEnds.inWindow {i : Nat} {payout : Payout} (filled : s.slot i = .filled payout) (of : payout.shop = k) :
    (x.freeSlotOf i).booked := by
  subst of
  obtain ⟨-, -, named, emitted, -⟩ := h.window.1 i payout filled
  obtain ⟨frame, slots, others, bank, ended, unrolled, payouts⟩ := ends
  have mode : x.ledger.mode = s.ledger.mode := by
    obtain ⟨n, -, e⟩ := frame
    exact (congrArg (fun u : State => u.ledger.mode) e :)
  have slot : ∀ j, x.slot j = s.slot j := fun j => by unfold State.slot; rw [slots]
  refine h.ends (t := x.freeSlotOf i) signed named frame others bank
    ((ClosingBank.unsettled_iff _).mpr (.inl emitted)) ended unrolled payouts ?_
  exact h.window.freed mode filled (State.setSlot_slot_same x i .free)
    (fun j other => (State.setSlot_slot_ne x i .free other).trans (slot j)) others ended

/-- A payout IN_DOUBT has no slot. -/
theorem PayoutEnds.late (named : k ≤ 511) (doubt : (s.shop k).closing.state = .inDoubt) : x.booked := by
  obtain ⟨frame, slots, others, bank, ended, unrolled, payouts⟩ := ends
  have mode : x.ledger.mode = s.ledger.mode := by
    obtain ⟨n, -, e⟩ := frame
    exact (congrArg (fun u : State => u.ledger.mode) e :)
  refine h.ends (k := k) signed named frame others bank ((ClosingBank.unsettled_iff _).mpr (.inr doubt)) ended unrolled payouts ?_
  refine h.window.moved mode (fun j => by unfold State.slot; rw [slots]) fun j _ emitted => ?_
  by_cases here : j = k
  · rw [here] at emitted
    rcases emitted with emitted | emitted
    · rw [doubt] at emitted; cases emitted
    · exact absurd emitted ended
  · rw [others j here]

/-- Outside OPEN no slot is FILLED, and an EMITTED shop may be put in doubt without one (R141). -/
theorem PayoutEnds.closed (named : k ≤ 511) (was : (s.shop k).closing.unsettled = true) (notOpen : s.ledger.mode ≠ .opened) :
    x.booked := by
  obtain ⟨frame, slots, others, bank, ended, unrolled, payouts⟩ := ends
  have mode : x.ledger.mode = s.ledger.mode := by
    obtain ⟨n, -, e⟩ := frame
    exact (congrArg (fun u : State => u.ledger.mode) e :)
  have empty : ∀ j p, x.slot j ≠ .filled p := fun j p filled => by
    unfold State.slot at filled
    rw [slots] at filled
    exact notOpen (h.window.1 j p filled).1
  exact h.ends (k := k) signed named frame others bank was ended unrolled payouts
    ⟨fun j p filled => absurd filled (empty j p), fun i _ p _ filled => absurd filled (empty i p),
      fun opened => absurd (mode ▸ opened) notOpen⟩

end

/-! ### The claim -/

section
variable {s : State} (h : s.booked)
include h

theorem State.booked.claim {v : Visit} (opened : s.ledger.mode = .opened) (named : v.shop ≤ 511) (low : v.slot ≤ 15)
    (granted : s.slot v.slot = .granted v.channel) (owed : (s.shop v.shop).closing.state = .owed)
    (current : s.behind v.shop = false) : (s.claim v).booked := by
  rw [State.claim_eq]
  refine (BooksKept.append ..).booked (ShopMoved.booked (k := v.shop) ?_ h)
  have own : (s.claimWrites v).shop v.shop = claimedShop (s.shop v.shop) s.store.nextTag := State.setShop_shop_same ..
  have others : ∀ j, j ≠ v.shop → (s.claimWrites v).shop j = s.shop j := fun j other => State.setShop_shop_ne s v.shop _ other
  have behind : (s.claimWrites v).behind v.shop = false := by
    unfold State.behind at current ⊢
    rw [own]
    exact current
  have unclaimed : (s.shop v.shop).closing.unsettled = false := by
    unfold ClosingBank.unsettled
    rw [owed]
    rfl
  have slot : (s.claimWrites v).slot v.slot = .filled (claimedPayout s v (s.shop v.shop).closing) := State.setSlot_slot_same ..
  refine ⟨⟨_, le_rfl, rfl⟩, named, others, .inl ?_, fun _ => behind, fun none_ => ?_, ?_, ?_, fun _ => opened, ?_⟩
  · rw [own]; rfl
  · rw [owed] at none_; cases none_
  · rw [behind, current]; rfl
  · rw [own, unclaimed]; rfl
  · refine h.window.fill rfl opened low (p := claimedPayout s v (s.shop v.shop).closing) named (fun q => by rw [granted]; exact nofun) slot
      (fun j other => State.setSlot_slot_ne s v.slot _ other) others (by
        show (s.shop v.shop).closing.state ≠ .emitted
        rw [owed]; exact nofun) ?_
    show ((s.claimWrites v).shop v.shop).closing.state = .emitted ∧ ((s.claimWrites v).shop v.shop).closing.tag = _ ∧
      ((s.claimWrites v).shop v.shop).closing.period = _ ∧ ((s.claimWrites v).shop v.shop).closing.amount = _
    rw [own]
    exact ⟨rfl, rfl, rfl, rfl⟩

/-! ### The counts of a recovery -/

omit h in
theorem countBelow_card (p : Nat → Bool) (n : Nat) : countBelow p n = ((Finset.range n).filter fun k => p k = true).card := by
  rw [Finset.card_filter]
  induction n with
  | zero => rfl
  | succ n ih => rw [countBelow, ih, Finset.sum_range_succ]

/-- With no shop EMITTED the counts are made as the records stand (R141). -/
theorem State.booked.makeCounts : s.makeCounts.booked := by
  unfold State.makeCounts
  split
  · exact h
  · next uncounted =>
    simp only [Bool.or_eq_true, not_or, Bool.not_eq_true, Option.isSome_eq_false_iff, Option.isNone_iff_eq_none] at uncounted
    have clear := s.emittedShop_eq_none_iff.mp uncounted.2
    refine (BooksKept.raiseIf _ _ _).booked ?_
    have behindCount : countBelow s.behind Config.shops = ((Finset.range 512).filter fun k => s.behind k = true).card :=
      countBelow_card s.behind 512
    have openCount : countBelow (fun k => decide ((s.shop k).closing.state = .inDoubt)) Config.shops =
        ((Finset.range 512).filter fun k => (s.shop k).closing.state = .emitted ∨ (s.shop k).closing.state = .inDoubt).card := by
      refine (countBelow_card _ 512).trans (congrArg Finset.card (Finset.filter_congr fun k hk => ?_))
      rw [decide_eq_true_iff, or_iff_right (clear k (by have := Finset.mem_range.mp hk; omega))]
    refine ⟨h.closes, h.copies, h.banks, h.swept, h.current, fun signed zero => ?_, h.spent,
      fun _ _ => ⟨behindCount, openCount, fun _ => clear⟩,
      h.window⟩
    obtain ⟨-, -, untouched⟩ := h.fresh signed zero
    refine ⟨behindCount.trans ?_, openCount.trans ?_, untouched⟩
    · refine Finset.card_eq_zero.mpr (Finset.filter_eq_empty_iff.mpr fun k hk behind => ?_)
      rw [State.behind_iff, (h.copies signed).2, show s.store.periodWord = 0 from zero] at behind
      cases behind
    · refine Finset.card_eq_zero.mpr (Finset.filter_eq_empty_iff.mpr fun k hk unsettled => ?_)
      rw [(untouched k (by have := Finset.mem_range.mp hk; omega)).2] at unsettled
      rcases unsettled with no | no <;> cases no

/-- The cursor moves on over shops that are not behind (R138). -/
theorem State.booked.sweptTo {k wait : Nat} (swept : ∀ j, j < k → j ≤ 511 → s.behind j = false) :
    ({ s with settle.cursor := k, settle.wait := wait } : State).booked :=
  ⟨h.closes, h.copies, h.banks, fun _ => swept, h.current, h.fresh, h.spent, h.counts, h.window⟩

end

end Sys2Proof.Machine
end

section
/-! PROOFS. Every command of the Settlement Unit keeps periods, counts and payout window sound: the commands one by one. -/

namespace Sys2Proof.Machine

theorem State.commitRoll_accruals (s : State) (k : Nat) : (s.commitRoll k).settle.accruals = s.settle.accruals := by
  obtain ⟨-, -, -, settle, -⟩ := s.commitRoll_spec k
  rw [settle]

theorem State.reserve_accruals {s t : State} {cls : ResClass} {n : Nat} (hr : s.reserve cls n = some t) :
    t.settle.accruals = s.settle.accruals := by
  obtain ⟨-, rfl⟩ := State.reserve_eq hr
  rw [State.raiseIf_frame]

theorem State.rollForEffect_accruals {s t : State} {e : Effect} (hr : s.rollForEffect e = some t) :
    t.settle.accruals = s.settle.accruals := by
  unfold State.rollForEffect at hr
  split at hr
  · unfold State.rollIfBehind at hr
    split at hr
    · obtain ⟨s1, hs1, rfl⟩ := Option.map_eq_some_iff.mp hr
      exact (s1.commitRoll_accruals _).trans (State.reserve_accruals hs1)
    · cases hr; rfl
  · cases hr; rfl

theorem State.applyEffect_accruals (s : State) (e : Effect) (source : Nat) :
    (s.applyEffect e source).settle.accruals = s.settle.accruals := by
  have raised : ∀ (u : State) (b : Bool), (u.raiseIf b .settleFault).settle.accruals = u.settle.accruals := fun u b => by
    rw [State.raiseIf_frame]
  cases e <;> exact raised _ _

/-- A head that is no CLOSE leaves the queue. -/
theorem BooksKept.dropAccrual {s : State} {e : Effect} {p n : Nat} {rest : List Accrual}
    (queue : s.settle.accruals = .money e p n :: rest) : BooksKept s s.dropAccrual := by
  refine .of_view ?_
  unfold State.bookView State.dropAccrual
  rw [queue]
  rfl

theorem State.takeVisit_bookView (s : State) : s.takeVisit.bookView = s.bookView := by
  unfold State.takeVisit
  rw [State.noteWork_eq]
  rfl

theorem State.dropAnswer_bookView (s : State) : s.noteWork.dropAnswer.bookView = s.bookView := by
  rw [State.noteWork_eq]
  rfl

theorem State.slot_of_bookView {s t : State} (h : t.bookView = s.bookView) (j : Nat) : t.slot j = s.slot j :=
  (congrArg (fun u : State => u.slot j) h :)

theorem State.shop_of_bookView {s t : State} (h : t.bookView = s.bookView) (k : Nat) : t.shop k = s.shop k :=
  (congrArg (fun u : State => u.shop k) h :)

section
variable {s : State} (h : s.booked)
include h

theorem State.booked.of_view {t : State} (hv : t.bookView = s.bookView) : t.booked := (BooksKept.of_view hv).booked h

theorem State.booked.grantSlots : s.grantSlots.booked := (BooksKept.grantSlots s).booked h

theorem State.booked.visitEnds (v : Visit) (claimed : Bool) : (s.visitEnds v claimed).booked := h.of_view (State.raiseIf_bookView ..)

/-! ### Accruals and the sweep -/

theorem execAccrualApply_booked (hN : s.shopsNamed) : nextAll State.booked (execAccrualApply s) := by
  unfold execAccrualApply
  split
  · split
    · next e p source rest queue =>
      split
      · next s1 hr =>
        obtain ⟨-, -, -, named, -⟩ := hN
        have noted : s.noteWork.settle.accruals = s.settle.accruals := by rw [State.noteWork_eq]
        have waits : (s1.applyEffect e source).settle.accruals = .money e p source :: rest := by
          rw [State.applyEffect_accruals, State.rollForEffect_accruals hr, noted, queue]
        have rolled := ((BooksKept.noteWork s).booked h).rollForEffect (named e p source (queue ▸ List.mem_cons_self)) hr
        exact (BooksKept.dropAccrual waits).booked ((BooksKept.applyEffect s1 e source).booked rolled)
      · exact h
    · exact h
  · exact h

theorem execRollSweep_booked : nextAll State.booked (execRollSweep s) := by
  unfold execRollSweep
  split
  · split
    · next k s1 found hr =>
      obtain ⟨low, high, behind, least⟩ := (firstFrom_eq_some_iff _ _ _ _).mp found
      have named : k ≤ 511 := by
        have : k < s.settle.cursor + (512 - s.settle.cursor) := high
        omega
      have same := State.reserve_bookView hr
      have signed1 := (State.reserve_signed hr).1
      have h1 := h.of_view same
      have behind1 : ∀ j, s1.behind j = s.behind j := fun j => (congrArg (fun u : State => u.behind j) same :)
      have cursor1 : s1.settle.cursor = s.settle.cursor := (congrArg (fun u : State => u.settle.cursor) same :)
      refine (h1.commitRoll signed1 named ((behind1 k).trans behind)).sweptTo fun j below hj => ?_
      obtain ⟨⟨own, others⟩, -, -, settle, -⟩ := s1.commitRoll_spec k
      unfold State.behind
      rw [settle]
      by_cases here : j = k
      · rw [here, own]
        exact decide_eq_false (Nat.lt_irrefl _)
      · rw [others j here]
        show s1.behind j = false
        by_cases before : j < s.settle.cursor
        · exact h1.swept signed1 j (cursor1 ▸ before) hj
        · exact (behind1 j).trans (least j (Nat.not_lt.mp before) (by omega))
    · exact h
  · exact h

/-! ### The visit -/

/-- The shop of a visit, current; without a reservation of its own it stays booked. -/
theorem State.booked.readied (signed : s.store.signature = true) {k : Nat} (named : k ≤ 511) :
    (s.readied k).booked ∧ (s.readied k).behind k = false := by
  unfold State.readied
  split
  · next behind =>
    refine ⟨h.commitRoll signed named behind, ?_⟩
    obtain ⟨⟨own, -⟩, -, -, settle, -⟩ := s.commitRoll_spec k
    unfold State.behind
    rw [settle, own]
    exact decide_eq_false (Nat.lt_irrefl _)
  · next current => exact ⟨h.of_view rfl, by simpa using current⟩

theorem State.booked.serveVisit (hV : s.visitsSound) (running : s.ledger.mode ≠ .recovering) {v : Visit} {rest : List Visit}
    (queue : s.settle.visits = v :: rest) : (s.takeVisit.serveVisit v).booked := by
  obtain ⟨-, -, holds, -, -, within⟩ := hV
  obtain ⟨channel, low, at_, granted, -⟩ := holds v (queue ▸ List.mem_cons_self)
  have named : v.shop ≤ 511 := by
    rw [at_]
    exact (within v.channel channel).1.1
  have taken := s.takeVisit_bookView
  have h0 := h.of_view taken
  cases hr : s.takeVisit.reserve .general 2 with
  | none =>
    unfold State.serveVisit
    simp only [hr]
    have freed : BooksKept s.takeVisit (s.takeVisit.setSlot v.slot .free) :=
      .setSlot _ (by rw [State.slot_of_bookView taken, granted]; rfl)
    exact State.booked.grantSlots ((freed.booked h0).of_view (by rfl))
  | some s1 =>
    rw [State.serveVisit_granted hr]
    have same := (State.reserve_bookView hr).trans taken
    obtain ⟨signed, room⟩ := State.reserve_signed hr
    have h1 := h.of_view same
    have mode1 : s1.ledger.mode = s.ledger.mode := (congrArg (fun u : State => u.ledger.mode) same :)
    have slot1 := State.slot_of_bookView same
    obtain ⟨ready, current⟩ := h1.readied signed named
    have parts : (s1.readied v.shop).cardPart = s1.cardPart := by
      unfold State.readied
      split
      · exact State.commitRoll_cardPart ..
      · rfl
    have slots : (s1.readied v.shop).visitPart = s1.visitPart := State.readied_visitPart ..
    have signed2 : (s1.readied v.shop).store.signature = true :=
      ((congrArg (fun u : State => u.store.signature) parts :) : _ = s1.store.signature).trans signed
    have mode2 : (s1.readied v.shop).ledger.mode = s1.ledger.mode := (congrArg (fun u : State => u.ledger.mode) parts :)
    have word2 : (s1.readied v.shop).store.periodWord = s1.store.periodWord :=
      (congrArg (fun u : State => u.store.periodWord) parts :)
    have granted2 : (s1.readied v.shop).slot v.slot = .granted v.channel :=
      ((congrArg (fun u : State => u.slot v.slot) slots :) : _ = s1.slot v.slot).trans ((slot1 _).trans granted)
    generalize s1.readied v.shop = u at ready current signed2 mode2 word2 granted2
    split
    · next owed =>
      have opened : u.ledger.mode = .opened := by
        cases mode : u.ledger.mode with
        | opened => rfl
        | recovering =>
          rw [mode2, mode1] at mode
          exact absurd mode running
        | config =>
          have next1 : s1.store.nextToWrite = s.takeVisit.store.nextToWrite :=
            (congrArg (fun u : State => u.store.nextToWrite) (State.reserve_bookView hr) :)
          rcases h1.spent signed (mode2 ▸ mode) with zero | full
          · obtain ⟨-, -, untouched⟩ := ready.fresh signed2 (word2.trans zero)
            rw [(untouched v.shop named).2] at owed
            cases owed
          · omega
      exact ((ready.claim opened named low granted2 owed current).visitEnds v true).grantSlots
    · have freed : BooksKept u (u.setSlot v.slot .free) := .setSlot _ (by rw [granted2]; rfl)
      have given : ((u.setSlot v.slot .free).giveBack 1).booked := (freed.booked ready).of_view rfl
      exact (given.visitEnds v false).grantSlots

theorem execChannelVisit_booked (hV : s.visitsSound) : nextAll State.booked (execChannelVisit s) := by
  unfold execChannelVisit
  split
  · next turn =>
    obtain ⟨-, running⟩ := State.nextWork_spec turn
    split
    · next queue => exact h.serveVisit hV running queue
    · exact h
  · exact h

/-! ### Payout answers and deadlines -/

theorem execDoneAnswer_booked (hN : s.shopsNamed) : nextAll State.booked (execDoneAnswer s) := by
  unfold execDoneAnswer
  split
  · split
    · next tag shop period rest queue =>
      have h0 := h.of_view s.dropAnswer_bookView
      dsimp only
      split
      · exact h0.of_view (by rfl)
      · next k s2 how hr =>
        obtain ⟨-, p, ⟨-, filled, -⟩, of, -⟩ := (s.matchAnswer_eq_inWindow_iff tag shop period k).mp how
        have same := (State.reserve_bookView hr).trans s.dropAnswer_bookView
        have ends := (s2.makeSettled_ends shop).append s2.settle.period
          (.payDone tag shop (s2.shop shop).closing.period (s2.shop shop).closing.amount false)
        exact State.booked.grantSlots (ends.inWindow (h.of_view same) (State.reserve_signed hr).1
          ((State.slot_of_bookView same k).trans filled) of)
      · next s2 how hr =>
        obtain ⟨-, -, doubt, -⟩ := (s.matchAnswer_eq_late_iff tag shop period).mp how
        obtain ⟨-, -, -, -, -, dones, -⟩ := hN
        have same := (State.reserve_bookView hr).trans s.dropAnswer_bookView
        have ends := (s2.makeSettled_ends shop).append s2.settle.period
          (.payDone tag shop (s2.shop shop).closing.period (s2.shop shop).closing.amount true)
        exact State.booked.of_view (ends.late (h.of_view same) (State.reserve_signed hr).1
          (dones tag shop period (queue ▸ List.mem_cons_self)) ((State.shop_of_bookView same shop) ▸ doubt)) (by rfl)
      · exact h
    · exact h
  · exact h

theorem execBackAnswer_booked (hN : s.shopsNamed) : nextAll State.booked (execBackAnswer s) := by
  unfold execBackAnswer
  split
  · split
    · next tag shop period reason rest queue =>
      have h0 := h.of_view s.dropAnswer_bookView
      dsimp only
      split
      · exact h0.of_view (by rfl)
      · next k s2 how hr =>
        obtain ⟨-, p, ⟨-, filled, -⟩, of, -⟩ := (s.matchAnswer_eq_inWindow_iff tag shop period k).mp how
        have same := (State.reserve_bookView hr).trans s.dropAnswer_bookView
        have ends := (s2.makeReturned_ends shop).append s2.settle.period
          (.payBack tag shop (s2.shop shop).closing.period (s2.shop shop).closing.amount reason false)
        have raised := ends.of_view (y := s2.commitBack tag shop reason false) rfl
        exact State.booked.grantSlots (raised.inWindow (h.of_view same) (State.reserve_signed hr).1
          ((State.slot_of_bookView same k).trans filled) of)
      · next s2 how hr =>
        obtain ⟨-, -, doubt, -⟩ := (s.matchAnswer_eq_late_iff tag shop period).mp how
        obtain ⟨-, -, -, -, -, -, backs⟩ := hN
        have same := (State.reserve_bookView hr).trans s.dropAnswer_bookView
        have ends := (s2.makeReturned_ends shop).append s2.settle.period
          (.payBack tag shop (s2.shop shop).closing.period (s2.shop shop).closing.amount reason true)
        exact State.booked.of_view (ends.late (h.of_view same) (State.reserve_signed hr).1
          (backs tag shop period reason (queue ▸ List.mem_cons_self)) ((State.shop_of_bookView same shop) ▸ doubt)) (by rfl)
      · exact h
    · exact h
  · exact h

theorem execDeadlineExpiry_booked : nextAll State.booked (execDeadlineExpiry s) := by
  unfold execDeadlineExpiry
  split
  · split
    · next k tag rest _ =>
      have h0 := h.of_view s.dropAnswer_bookView
      dsimp only
      split
      · next p filled =>
        split
        · split
          · next s2 hr =>
            have same := (State.reserve_bookView hr).trans s.dropAnswer_bookView
            have ends := (s2.makeInDoubt_ends p.shop).append s2.settle.period
              (.payDoubt p.tag p.shop (s2.shop p.shop).closing.period (s2.shop p.shop).closing.amount .deadline)
            have raised := ends.of_view (y := State.raise (State.append (s2.makeInDoubt p.shop) s2.settle.period
              (.payDoubt p.tag p.shop (s2.shop p.shop).closing.period (s2.shop p.shop).closing.amount .deadline)) .payoutInDoubt) rfl
            exact State.booked.grantSlots (raised.inWindow (h.of_view same) (State.reserve_signed hr).1
              ((State.slot_of_bookView same k).trans filled) rfl)
          · exact h
        · exact h0
      · exact h0
    · exact h
  · exact h

theorem execPayDeadlineReached_booked (slot : Nat) : nextAll State.booked (execPayDeadlineReached slot s) := by
  unfold execPayDeadlineReached
  split
  · next p filled =>
    split
    · exact h
    · have marked : BooksKept s (s.setSlot slot (.filled { p with expired := true })) := .setSlot s (by rw [filled]; rfl)
      exact (marked.booked h).of_view (by rfl)
  · exact h

theorem execPaySend_booked : nextAll State.booked (execPaySend s) := by
  unfold execPaySend
  split
  · next k rest _ _ =>
    split
    · exact h
    · split
      · next p filled =>
        have marked : BooksKept s (s.setSlot k (markSent (.filled p))) := .setSlot s (by rw [filled]; rfl)
        exact (marked.booked h).of_view (by rfl)
      · exact h.of_view (by rfl)
  · exact h

/-! ### Grants, pulls and marks -/

theorem execSlotGrant_booked : nextAll State.booked (execSlotGrant s) := by
  unfold execSlotGrant
  split
  · next s1 hg =>
    obtain ⟨k, c, -, free, -, rfl⟩ := (s.grantOnce_eq_some_iff s1).mp hg
    obtain ⟨-, isFree, -⟩ := (s.freeSlot_eq_some_iff k).mp free
    have granted : BooksKept s (s.setSlot k (.granted c)) := .setSlot s (by rw [isFree]; rfl)
    exact (granted.booked h).of_view (by rfl)
  · exact h

theorem execPull_booked : nextAll State.booked (execPull s) := by
  unfold execPull
  split
  · split
    · dsimp only
      split
      · exact h.of_view (by rfl)
      · exact State.booked.grantSlots (h.of_view (by rfl))
    · exact h
  · exact h

theorem execBankFrameTaken_booked : nextAll State.booked (execBankFrameTaken s) := by
  unfold execBankFrameTaken
  split
  · split
    · split
      · exact h.of_view (by rfl)
      · exact h.of_view (by rfl)
    · exact h
  · exact h

theorem execStreamMark_booked : nextAll State.booked (execStreamMark s) := by
  unfold execStreamMark
  split
  · dsimp only
    split
    · exact h.of_view (by rfl)
    · exact h.of_view (by rfl)
  · exact h

/-! ### The recovery passes -/

theorem execRecoveryDoubt_booked : nextAll State.booked (execRecoveryDoubt s) := by
  unfold execRecoveryDoubt
  split
  · next runs =>
    obtain ⟨recovering, -, -⟩ := s.passRuns_iff.mp runs
    split
    · exact h
    · next k found =>
      obtain ⟨named, emitted, -⟩ := (s.emittedShop_eq_some_iff k).mp found
      split
      · exact h
      · next s1 hr =>
        have same := State.reserve_bookView hr
        have shop := State.shop_of_bookView same k
        have mode : s1.ledger.mode = s.ledger.mode := (congrArg (fun u : State => u.ledger.mode) same :)
        have ends := (s1.makeInDoubt_ends k).append s.settle.period
          (.payDoubt ((s.shop k).closing.tag.getD 0) k (s.shop k).closing.period (s.shop k).closing.amount .recovery)
        have doubted := ends.closed (h.of_view same) (State.reserve_signed hr).1 named
          ((ClosingBank.unsettled_iff _).mpr (.inl (shop ▸ emitted))) (by rw [mode, recovering]; decide)
        unfold State.makeInDoubt at doubted
        rw [shop] at doubted
        exact State.booked.makeCounts (doubted.of_view (by rfl))
  · exact h

theorem execAccrualReplay_booked (hN : s.shopsNamed) : nextAll State.booked (execAccrualReplay s) := by
  unfold execAccrualReplay
  have hc := h.makeCounts
  split
  · dsimp only
    split
    · exact hc
    · next e found =>
      split
      · exact hc
      · next eff is =>
        split
        · exact hc
        · next s1 hr =>
          obtain ⟨-, -, -, -, ring, -⟩ := hN.makeCounts
          have member : e ∈ s.makeCounts.store.ring := List.mem_reverse.mp (List.mem_of_find?_eq_some found)
          have rolled := hc.rollForEffect (ring e member eff is) hr
          exact ((BooksKept.applyEffect s1 eff e.seq).booked rolled).of_view (by rfl)
  · exact h

/-! ### Requests -/

theorem serveSetShop_booked (b : List Byte) : (serveSetShop b s).booked := by
  have hP := booked_ofCore
  unfold serveSetShop
  dsimp only
  split
  · exact hP.refuse h _
  · next named =>
    split
    · exact hP.refuse h _
    · split
      · exact hP.refuse h _
      · next s1 hr =>
        have rolled := h.rollIfBehind (Nat.le_of_lt_succ (Nat.not_le.mp named)) hr
        exact hP.done (BooksKept.booked (.setShop s1 (by rfl) (by rfl)) rolled) _

theorem serveReadShop_booked (b : List Byte) : (serveReadShop b s).booked := by
  unfold serveReadShop
  dsimp only
  split
  · exact booked_ofCore.refuse h _
  · exact booked_ofCore.done h _

theorem serveSnapShop_booked (b : List Byte) : (serveSnapShop b s).booked := by
  have hP := booked_ofCore
  unfold serveSnapShop
  dsimp only
  split
  · exact hP.refuse h _
  · next named =>
    split
    · exact hP.refuse h _
    · next s1 hr =>
      exact hP.done ((h.rollIfBehind (Nat.le_of_lt_succ (Nat.not_le.mp named)) hr).of_view (by rfl)) _

theorem serveResolve_booked (b : List Byte) : (serveResolve b s).booked := by
  have hP := booked_ofCore
  unfold serveResolve
  dsimp only
  split
  · exact hP.refuse h _
  · next named =>
    split
    · exact hP.refuse h _
    · split
      · exact hP.refuse h _
      · next doubt =>
        split
        · exact hP.refuse h _
        · next s1 hr =>
          have same := State.reserve_bookView hr
          have h1 := h.of_view same
          have signed := (State.reserve_signed hr).1
          have low : officeShop b ≤ 511 := Nat.le_of_lt_succ (Nat.not_le.mp named)
          have doubt1 : (s1.shop (officeShop b)).closing.state = .inDoubt := by
            rw [State.shop_of_bookView same]
            exact not_not.mp doubt
          refine hP.done ((BooksKept.append ..).booked ?_) _
          split
          · exact (s1.makeSettled_ends _).late h1 signed low doubt1
          · exact (s1.makeReturned_ends _).late h1 signed low doubt1

theorem serveSetChannel_booked (b : List Byte) : (serveSetChannel b s).booked := by
  have hP := booked_ofCore
  unfold serveSetChannel
  split_ifs
  · exact hP.refuse h _
  · exact hP.refuse h _
  · split
    · exact hP.refuse h _
    · exact hP.done (h.of_view (by rfl)) _

theorem State.booked.channelGranted (c : Nat) (v : Channel) : (s.setChannel c v).grantSlots.booked :=
  State.booked.grantSlots (h.of_view (by rfl))

theorem serveArm_booked (c : Nat) : (serveArm c s).booked := by
  unfold serveArm
  dsimp only
  split
  · exact booked_ofCore.refuse h _
  · exact booked_ofCore.done (h.channelGranted _ _) _

theorem serveStep_booked (c : Nat) : (serveStep c s).booked := by
  unfold serveStep
  dsimp only
  split
  · exact booked_ofCore.done (h.channelGranted _ _) _
  · exact booked_ofCore.refuse h _

theorem State.booked.channelWritten (c : Nat) (v : Channel) : (s.setChannel c v).booked := h.of_view (by rfl)

theorem serveUnmask_booked (c : Nat) : (serveUnmask c s).booked := by
  have hP := booked_ofCore
  unfold serveUnmask
  dsimp only
  split
  · exact hP.done (h.channelGranted _ _) _
  · exact hP.done (h.channelWritten _ _) _
  · exact hP.refuse h _
  all_goals exact hP.done h _

theorem serveChannelStatus_booked (b : List Byte) : (serveChannelStatus b s).booked := by
  unfold serveChannelStatus
  dsimp only
  split
  · exact booked_ofCore.refuse h _
  · exact booked_ofCore.done (h.channelWritten _ _) _

theorem SettleCommand.booked (hN : s.shopsNamed) (hV : s.visitsSound) {i : Instr} (hi : SettleCommand i) :
    nextAll State.booked (exec i s) := by
  have hP := booked_ofCore
  have quiet : ∀ {t : State}, t.bookView = s.bookView → t.booked := fun same => h.of_view same
  have shop : ∀ {kind serve}, (∀ b u, State.booked u → (serve b u).booked) → (shopStep kind serve s).booked :=
    fun hd => shopStep_of (P := State.booked) h (hP.refuse h _) (hP.refuse (s := requestServed s) (quiet (by rfl)) _)
      fun b _ _ _ => hd b _ (quiet (by rfl))
  have office : ∀ {kind serve}, (∀ b, (serve b s).booked) → (officeStep kind serve s).booked :=
    fun hd => officeStep_of (P := State.booked) h fun b _ => hd b
  cases hi with
  | paySend => exact execPaySend_booked h
  | accrualApply => exact execAccrualApply_booked h hN
  | rollSweep => exact execRollSweep_booked h
  | slotGrant => exact execSlotGrant_booked h
  | channelVisit => exact execChannelVisit_booked h hV
  | bankFrameTaken => exact execBankFrameTaken_booked h
  | pull => exact execPull_booked h
  | doneAnswer => exact execDoneAnswer_booked h hN
  | backAnswer => exact execBackAnswer_booked h hN
  | payDeadlineReached slot => exact execPayDeadlineReached_booked h slot
  | deadlineExpiry => exact execDeadlineExpiry_booked h
  | streamMark => exact execStreamMark_booked h
  | recoveryDoubt => exact execRecoveryDoubt_booked h
  | accrualReplay => exact execAccrualReplay_booked h hN
  | writeTableAccept => exact hP.answerable.writeStep h fun b _ _ _ _ => hP.done (quiet (by rfl)) _
  | writeTableHouse => exact hP.answerable.writeStep h fun b _ _ _ _ => hP.done (quiet (by rfl)) _
  | writeTableBinding =>
    refine hP.answerable.writeStep h fun b _ _ _ _ => ?_
    unfold serveWriteBinding
    dsimp only
    split
    · exact hP.refuse h _
    · split
      · exact hP.refuse h _
      · exact hP.done (quiet (by rfl)) _
  | writeTableSettings =>
    refine hP.answerable.writeStep h fun b _ _ _ _ => ?_
    unfold serveWriteSettings
    split
    · exact hP.refuse h _
    · exact hP.done (quiet (by rfl)) _
  | setShop => exact shop fun b _ hu => serveSetShop_booked hu b
  | readShop => exact shop fun b _ hu => serveReadShop_booked hu b
  | snapShop =>
    show nextAll _ (execSnapShop s)
    unfold execSnapShop
    split
    · exact hP.refuse h _
    · exact shop fun b _ hu => serveSnapShop_booked hu b
  | readHouse => exact shop fun b _ hu => hP.done hu _
  | resolve => exact shop fun b _ hu => serveResolve_booked hu b
  | setChannel => exact office fun b => serveSetChannel_booked h b
  | armChannel => exact office fun b => hP.answerable.onChannel h fun _ _ => serveArm_booked h _
  | stepChannel => exact office fun b => hP.answerable.onChannel h fun _ _ => serveStep_booked h _
  | maskChannelMask => exact hP.answerable.onAction h fun _ _ _ _ => hP.done (h.channelWritten _ _) _
  | maskChannelUnmask => exact hP.answerable.onAction h fun _ _ _ _ => serveUnmask_booked h _
  | channelStatus => exact office fun b => serveChannelStatus_booked h b
  | journalAck =>
    refine office fun b => hP.done ?_ _
    split
    · exact quiet (by rfl)
    · exact quiet (by rfl)

end

end Sys2Proof.Machine
end

section
/-! PROOFS. Resets, the warning, FORMAT, opening, closing and the end of recovery keep periods, counts and payout window sound (R44, R45,
R47, R129 to R133); every step keeps the settlement sound. -/

namespace Sys2Proof.Machine

/-- Shops that no roll has filled are neither behind nor unsettled, and both counts are 0. -/
theorem State.countsSound_untouched {s : State} (unrolled : s.settle.unrolled = 0) (payouts : s.settle.openPayouts = 0)
    (current : ∀ k, k ≤ 511 → s.behind k = false) (untouched : ∀ k, k ≤ 511 → (s.shop k).closing.state = .none) :
    s.countsSound := by
  refine fun _ _ => ⟨?_, ?_, fun _ k hk is => ?_⟩
  · refine unrolled.trans (Finset.card_eq_zero.mpr (Finset.filter_eq_empty_iff.mpr fun k hk is => ?_)).symm
    rw [current k (Nat.le_of_lt_succ (Finset.mem_range.mp hk))] at is
    cases is
  · refine payouts.trans (Finset.card_eq_zero.mpr (Finset.filter_eq_empty_iff.mpr fun k hk is => ?_)).symm
    rw [untouched k (Nat.le_of_lt_succ (Finset.mem_range.mp hk))] at is
    rcases is with no | no <;> cases no
  · rw [untouched k hk] at is
    cases is

/-- Without a FILLED slot and an EMITTED shop the payout window is sound. -/
theorem State.windowSound_empty {s : State} (unfilled : ∀ j p, s.slot j ≠ .filled p)
    (clear : s.ledger.mode = .opened → ∀ k, k ≤ 511 → (s.shop k).closing.state ≠ .emitted) : s.windowSound :=
  ⟨fun j p filled => absurd filled (unfilled j p), fun i _ p _ filled => absurd filled (unfilled i p),
    fun opened k hk emitted => absurd emitted (clear opened k hk)⟩

/-- The work in hand rolls a shop. -/
theorem State.workInHand_named {s : State} (hN : s.shopsNamed) (hV : s.visitsSound) {k n : Nat}
    (work : s.workInHand = some (k, n)) : k ≤ 511 := by
  obtain ⟨-, -, -, accruals, ring, -⟩ := hN
  obtain ⟨-, -, holds, -, -, within⟩ := hV
  rcases (s.workInHand_iff k n).mp work with ⟨-, -, e, p, source, rest, queue, shop⟩ | ⟨-, -, v, rest, queue, rfl⟩ | ⟨-, -, low, -⟩ |
    ⟨-, -, -, e, eff, ⟨newer, older, split, -, is, -⟩, shop⟩
  · exact accruals e p source (queue ▸ List.mem_cons_self) k shop
  · obtain ⟨channel, -, at_, -⟩ := holds v (queue ▸ List.mem_cons_self)
    rw [at_]
    exact (within v.channel channel).1.1
  · exact low
  · exact ring e (split ▸ List.mem_append_right _ List.mem_cons_self) eff is k shop

theorem State.makeCounts_numberingSpent (s : State) (n : Nat) : s.makeCounts.numberingSpent n = s.numberingSpent n := by
  unfold State.makeCounts
  split
  · rfl
  · rw [State.raiseIf_frame]
    rfl

theorem State.makeCounts_reserved (s : State) : s.makeCounts.journal.reserved = s.journal.reserved := by
  unfold State.makeCounts
  split
  · rfl
  · rw [State.raiseIf_frame]

theorem State.makeCounts_counted {s : State} (clear : s.emittedShop = none) : s.makeCounts.recovery.counted = true := by
  unfold State.makeCounts
  split
  · next counted => simpa [clear] using counted
  · rw [State.raiseIf_frame]

/-- A spent numbering, with nothing reserved, has reached its end (R179). -/
theorem State.numberingSpent_end {s : State} (signed : s.store.signature = true) (idle : s.journal.reserved = 0)
    (spent : s.numberingSpent 1 = true) : 4294967296 ≤ s.store.nextToWrite := by
  simp only [State.numberingSpent, State.nextWrite, signed, if_true, idle, decide_eq_true_eq, Config.wrap32] at spent
  omega

section
variable {s : State} (h : s.booked)
include h

/-! ### Resets and the warning -/

theorem resetChip_booked (cause : ResetCause) (capacity : Nat) (pfw : Bool) : (resetChip cause capacity pfw s).booked := by
  have now : s.store.signature = true → periodAtReset s = s.store.periodWord := fun signed => if_pos signed
  have behind : s.store.signature = true → ∀ k, (resetChip cause capacity pfw s).behind k = s.behind k := fun signed k => by
    show decide ((s.shop k).bank.period < periodAtReset s) = _
    rw [now signed, ← (h.copies signed).2]
    rfl
  refine ⟨rfl, fun signed => ⟨now signed, now signed⟩, h.banks, fun _ => nofun, fun signed k hk unsettled => ?_,
    fun signed zero => ⟨rfl, rfl, (h.fresh signed zero).2.2⟩, fun _ => nofun, fun _ made => ?_, nofun, nofun, nofun⟩
  · rw [behind signed]
    exact h.current signed k hk unsettled
  · rcases made with no | no <;> cases no

theorem State.booked.rollInHand (hN : s.shopsNamed) (hV : s.visitsSound) : s.rollInHand.booked := by
  rcases s.rollInHand_cases with e | ⟨k, n, s1, work, behind, hr, e⟩
  · rw [e]; exact h
  · rw [e]
    have counted : s.makeCountsIfRecovering.booked ∧ s.makeCountsIfRecovering.behind k = s.behind k := by
      unfold State.makeCountsIfRecovering
      split
      · refine ⟨h.makeCounts, ?_⟩
        unfold State.makeCounts
        split
        · rfl
        · exact (congrArg (fun u : State => u.behind k) (State.raiseIf_bookView ..) :)
      · exact ⟨h, rfl⟩
    have same := State.reserve_bookView hr
    refine (counted.1.of_view same).commitRoll (State.reserve_signed hr).1 (State.workInHand_named hN hV work) ?_
    exact ((congrArg (fun u : State => u.behind k) same :) : _ = s.makeCountsIfRecovering.behind k).trans (counted.2.trans behind)

/-! ### FORMAT and the opening -/

/-- Outside OPEN no slot is FILLED (R162). -/
theorem State.booked.unfilled (notOpen : s.ledger.mode ≠ .opened) : ∀ j p, s.slot j ≠ .filled p := fun j p filled =>
  notOpen (h.window.1 j p filled).1

theorem serveFormat_booked (b : List Byte) : (serveFormat b s).booked := by
  unfold serveFormat
  split
  · exact booked_ofCore.refuse h _
  · next config =>
    have notOpen : s.ledger.mode ≠ .opened := by rw [not_not.mp config]; decide
    have window : s.windowSound := State.windowSound_empty (h.unfilled notOpen) fun opened => absurd opened notOpen
    exact ⟨h.closes, nofun, nofun, nofun, nofun, nofun, nofun, nofun, window⟩

theorem execFormatComplete_booked (hM : s.modeSound) : nextAll State.booked (execFormatComplete s) := by
  unfold execFormatComplete
  split
  · next runs =>
    simp only [Bool.and_eq_true] at runs
    refine booked_ofCore.done ?_ _
    show s.formatted.booked
    obtain ⟨-, -, format, close⟩ := hM
    have config := (format runs.1).1
    have notOpen : s.ledger.mode ≠ .opened := by rw [config]; decide
    have idle : s.ledger.closeOutstanding = false := by
      by_contra out
      exact notOpen (close (by simpa using out))
    have closes : s.settle.accruals.filter Accrual.isClose = [] := by
      rw [h.closes, idle]; rfl
    have closes' : s.formatted.settle.accruals.filter Accrual.isClose =
        if s.formatted.ledger.closeOutstanding = true then [.close s.formatted.store.periodWord] else [] := by
      show _ = if s.ledger.closeOutstanding = true then _ else _
      rw [idle]
      exact closes
    have untouched : ∀ k, k ≤ 511 → (s.formatted.shop k).closing.state = .none := fun _ _ => rfl
    have current : ∀ k, k ≤ 511 → s.formatted.behind k = false := fun _ _ => rfl
    refine ⟨closes', fun _ => ⟨rfl, rfl⟩, fun _ no => absurd rfl no, fun _ k _ hk => current k hk, fun _ k hk _ => current k hk,
      fun _ _ => ⟨rfl, rfl, fun k hk => ⟨rfl, untouched k hk⟩⟩, fun _ _ => .inl rfl,
      State.countsSound_untouched rfl rfl current untouched, ?_⟩
    exact State.windowSound_empty (s := s.formatted) (h.unfilled notOpen) fun opened => absurd opened notOpen
  · exact h

/-- The ledger opened: period 1 in the store and in both copies (R45). -/
theorem State.booked.opens (hM : s.modeSound) (config : s.ledger.mode = .config) (signed : s.store.signature = true)
    (zero : s.store.periodWord = 0) :
    ({ s with store.openFlag := true, store.periodWord := 1, ledger.period := 1, ledger.mode := .opened,
              settle.period := 1 } : State).booked := by
  obtain ⟨-, -, -, close⟩ := hM
  have notOpen : s.ledger.mode ≠ .opened := by rw [config]; decide
  have idle : s.ledger.closeOutstanding = false := by
    by_contra out
    exact notOpen (close (by simpa using out))
  obtain ⟨unrolled, payouts, untouched⟩ := h.fresh signed zero
  have none_ : ∀ k, k ≤ 511 → (s.shop k).closing.state = .none := fun k hk => (untouched k hk).2
  have current : ∀ k, k ≤ 511 → decide ((s.shop k).bank.period < 1) = false := fun k hk => by
    rw [(untouched k hk).1]
    rfl
  refine ⟨?_, fun _ => ⟨rfl, rfl⟩, fun _ _ k hk => (untouched k hk).1.le, fun _ k _ hk => current k hk, fun _ k hk _ => current k hk,
    fun _ => nofun, fun _ => nofun, State.countsSound_untouched unrolled payouts current none_,
    State.windowSound_empty (h.unfilled notOpen) fun _ k hk is => ?_⟩
  · show s.settle.accruals.filter Accrual.isClose = if s.ledger.closeOutstanding = true then _ else _
    rw [h.closes, idle]
    rfl
  · have is' : (s.shop k).closing.state = .emitted := is
    rw [none_ k hk] at is'
    cases is'

theorem serveOpenLedger_booked (hM : s.modeSound) (b : List Byte) : (serveOpenLedger b s).booked := by
  unfold serveOpenLedger
  split
  · exact booked_ofCore.refuse h _
  · next may =>
    simp only [not_or, not_not, Bool.not_eq_false] at may
    obtain ⟨config, signed, zero⟩ := may
    split
    · exact booked_ofCore.refuse h _
    · next s1 hr =>
      have opens := h.opens hM config signed zero
      obtain ⟨-, rfl⟩ := State.reserve_eq hr
      refine booked_ofCore.done (BooksKept.booked (.append ..) (opens.of_view ?_)) _
      rw [State.raiseIf_frame]
      rfl

/-! ### The close -/

theorem serveClosePeriod_booked (free : s.ledger.closeOutstanding = false) (b : List Byte) : (serveClosePeriod b s).booked := by
  unfold serveClosePeriod
  split_ifs
  any_goals exact booked_ofCore.refuse h _
  split
  · exact booked_ofCore.refuse h _
  · next s1 hr =>
    have same := State.reserve_bookView hr
    have h1 := h.of_view same
    have idle : s1.ledger.closeOutstanding = false :=
      ((congrArg (fun u : State => u.ledger.closeOutstanding) same :) : _ = s.ledger.closeOutstanding).trans free
    have copy : s.ledger.period = s1.store.periodWord :=
      ((congrArg (fun u : State => u.ledger.period) same :) : s1.ledger.period = _).symm.trans (h1.copies (State.reserve_signed hr).1).1
    refine ⟨?_, h1.copies, h1.banks, h1.swept, h1.current, h1.fresh, h1.spent, h1.counts, h1.window⟩
    show (s1.settle.accruals ++ [Accrual.close s.ledger.period]).filter Accrual.isClose = [.close s1.store.periodWord]
    rw [List.filter_append, h1.closes, idle, copy]
    rfl

/-- The CLOSE at the head is the only one, and names the stored period. -/
theorem State.booked.closeHead (out : s.ledger.closeOutstanding = true) {n : Nat} {rest : List Accrual}
    (queue : s.settle.accruals = .close n :: rest) : n = s.store.periodWord ∧ rest.filter Accrual.isClose = [] := by
  have closes := h.closes
  rw [queue, if_pos out, List.filter_cons_of_pos (by rfl)] at closes
  obtain ⟨head, tail⟩ := List.cons.inj closes
  exact ⟨Accrual.close.inj head, tail⟩

/-- The close is refused: its entry and what is outstanding are gone (R132). -/
theorem State.booked.closeEnds {rest : List Accrual} (none_ : rest.filter Accrual.isClose = []) :
    ({ s with settle.accruals := rest, ledger.closeOutstanding := false } : State).booked :=
  ⟨none_, h.copies, h.banks, h.swept, h.current, h.fresh, h.spent, h.counts, h.window⟩

/-- The period commit: with no payout open every shop is behind the new period (R133). -/
theorem State.booked.advances (opened : s.ledger.mode = .opened) (signed : s.store.signature = true)
    (nonzero : s.store.periodWord ≠ 0) (settled : s.settle.openPayouts = 0) {rest : List Accrual}
    (none_ : rest.filter Accrual.isClose = []) :
    ({ s with
        store.periodWord := s.store.periodWord + 1, ledger.period := s.store.periodWord + 1,
        settle.period := s.store.periodWord + 1, settle.accruals := rest, settle.unrolled := Config.shops, settle.cursor := 0,
        ledger.closeOutstanding := false } : State).booked := by
  obtain ⟨-, payouts, -⟩ := h.counts signed (.inl opened)
  rw [settled] at payouts
  have clear : ∀ k, k ≤ 511 → ¬((s.shop k).closing.state = .emitted ∨ (s.shop k).closing.state = .inDoubt) := fun k hk =>
    Finset.filter_eq_empty_iff.mp (Finset.card_eq_zero.mp payouts.symm) (Finset.mem_range.mpr (Nat.lt_succ_of_le hk))
  have banks : ∀ k, k ≤ 511 → (s.shop k).bank.period ≤ s.store.periodWord := h.banks signed nonzero
  have all : ((Finset.range 512).filter fun k => decide ((s.shop k).bank.period < s.store.periodWord + 1) = true).card = 512 := by
    rw [Finset.filter_true_of_mem fun k hk => decide_eq_true
      (Nat.lt_succ_of_le (banks k (Nat.le_of_lt_succ (Finset.mem_range.mp hk)))), Finset.card_range]
  refine ⟨none_, fun _ => ⟨rfl, rfl⟩, fun _ _ k hk => (banks k hk).trans (Nat.le_succ _), fun _ => nofun,
    fun _ k hk unsettled => absurd unsettled (clear k hk), fun _ => nofun, fun _ config => ?_, fun _ _ => ⟨all.symm, ?_, ?_⟩,
    h.window.moved rfl (fun _ => rfl) fun _ _ _ => rfl⟩
  · have config' : s.ledger.mode = .config := config
    rw [opened] at config'
    cases config'
  · exact settled.trans payouts
  · exact fun notOpen => absurd opened notOpen

theorem execCloseEntry_booked (hM : s.modeSound) : nextAll State.booked (execCloseEntry s) := by
  unfold execCloseEntry
  split
  · split
    · next n rest queue =>
      dsimp only
      split
      · exact h
      · next idle =>
        have out : s.ledger.closeOutstanding = true := by simpa using idle
        obtain ⟨period, openOf, -, close⟩ := hM
        have opened := close out
        obtain ⟨signed, flag⟩ := openOf opened
        obtain ⟨rfl, none_⟩ := h.closeHead out queue
        have refuses : ∀ code, (s.noteWork.refuseClose code).booked := fun code => by
          refine booked_ofCore.refuse ((h.closeEnds none_).of_view ?_) _
          rw [State.noteWork_eq]
          unfold State.bookView State.giveBack
          rw [queue]
          rfl
        split
        · exact refuses _
        · split
          · exact refuses _
          · next open_ =>
            have advances := h.advances opened signed ((period signed).mp flag) (Nat.eq_zero_of_not_pos open_) none_
            refine booked_ofCore.done (BooksKept.booked (.advanceNotice _) (BooksKept.booked (.append ..) (advances.of_view ?_))) _
            rw [State.noteWork_eq]
            unfold State.bookView
            rw [queue]
            rfl
    · exact h
  · exact h

/-! ### The end of recovery -/

/-- The ledger leaves RECOVERING: to CONFIG before its opening or at a spent numbering, to OPEN once the counts are made (R47, R179). -/
theorem State.booked.leaves (hm : s.ledger.mode = .recovering) {mode : LedgerState}
    (ready : mode = .opened → s.store.signature = true ∧ s.recovery.counted = true)
    (left : s.store.signature = true → mode = .config → s.store.periodWord = 0 ∨ 4294967296 ≤ s.store.nextToWrite) :
    (s.leaveRecovery mode).booked := by
  have notOpen : s.ledger.mode ≠ .opened := by rw [hm]; decide
  refine (BooksKept.rearm _).booked ⟨h.closes, h.copies, h.banks, h.swept, h.current, h.fresh, left, fun signed made => ?_,
    State.windowSound_empty (h.unfilled notOpen) fun opened k hk emitted => ?_⟩
  · have counted : s.recovery.counted = true := made.elim (fun opened => (ready opened).2) id
    obtain ⟨unrolled, payouts, clear⟩ := h.counts signed (.inr counted)
    exact ⟨unrolled, payouts, fun _ => clear notOpen⟩
  · obtain ⟨signed, counted⟩ := ready opened
    obtain ⟨-, -, clear⟩ := h.counts signed (.inr counted)
    exact clear notOpen k hk emitted

theorem execRecoveryEnd_booked (hJ : s.journalSound) (hM : s.modeSound) : nextAll State.booked (execRecoveryEnd s) := by
  unfold execRecoveryEnd
  split
  · exact h
  · next running =>
    simp only [not_or, not_not, Bool.not_eq_true] at running
    obtain ⟨hm, unwarned⟩ := running
    split
    · next unsigned => exact h.leaves hm nofun fun signed => absurd signed (by rw [unsigned]; decide)
    · next signed_ =>
      have signed : s.store.signature = true := by simpa using signed_
      split
      · exact h
      · next passed =>
        have complete : s.passComplete = true := by
          simp only [Bool.or_eq_true, Bool.not_eq_true', not_or, Bool.not_eq_false] at passed
          exact passed.2
        have hc := h.makeCounts
        have part := State.makeCounts_cardPart s
        have signed0 : s.makeCounts.store.signature = true :=
          ((congrArg (fun u : State => u.store.signature) part :) : _ = s.store.signature).trans signed
        have hm0 : s.makeCounts.ledger.mode = .recovering :=
          ((congrArg (fun u : State => u.ledger.mode) part :) : _ = s.ledger.mode).trans hm
        obtain ⟨period, -, -, close⟩ := hM
        dsimp only
        split
        · next spent =>
          obtain ⟨-, -, -, reserved⟩ := hJ
          have idle : s.ledger.closeOutstanding = false := by
            by_contra out
            have := close (by simpa using out)
            rw [hm] at this
            cases this
          have free : s.makeCounts.journal.reserved = 0 := by
            rw [State.makeCounts_reserved, reserved unwarned, idle]
            rfl
          exact hc.leaves hm0 nofun fun _ _ => .inr (State.numberingSpent_end signed0 free spent)
        · next unspent =>
          rw [State.makeCounts_numberingSpent] at unspent
          split
          · exact hc
          · next s1 hr =>
            have clear : s.emittedShop = none ∧ s.nextReplay = none := by
              simpa [State.passComplete, State.passSpent, unspent] using complete
            have same := State.reserve_bookView hr
            have appended := BooksKept.append s1 s.settle.period
              (.restart s.office.resetCause s.recovery.rewritten s.recovery.released s.recovery.doubted s.recovery.replayed)
            refine (appended.booked (hc.of_view same)).leaves ?_ (fun _ => ⟨?_, ?_⟩) fun _ config => .inl ?_
            · rw [State.append_ledger]
              exact ((congrArg (fun u : State => u.ledger.mode) same :) : _ = s.makeCounts.ledger.mode).trans hm0
            · rw [State.append_store_signature]
              exact (State.reserve_signed hr).1
            · rw [State.append_recovery]
              exact ((congrArg (fun u : State => u.recovery.counted) same :) : _ = s.makeCounts.recovery.counted).trans
                (State.makeCounts_counted clear.1)
            · rw [State.append_store_periodWord]
              have word : s1.store.periodWord = s.store.periodWord :=
                ((congrArg (fun u : State => u.store.periodWord) same :) : _ = s.makeCounts.store.periodWord).trans
                  (congrArg (fun u : State => u.store.periodWord) part :)
              rw [word]
              by_contra nonzero
              rw [(period signed).mpr nonzero, if_pos rfl] at config
              cases config

/-! ### Every step -/

theorem LedgerCommand.booked (hJ : s.journalSound) (hM : s.modeSound) (hN : s.shopsNamed) (hV : s.visitsSound) {i : Instr}
    (hi : LedgerCommand i) : nextAll State.booked (exec i s) := by
  have hP := booked_ofCore
  have taken := hP.takeOffice h
  cases hi with
  | powerOnReset c => exact resetChip_booked h ..
  | pfwAssert =>
    obtain ⟨m, hm, e⟩ := execPfwAssert_spec s
    rw [e]
    rcases hm with rfl | rfl
    · exact h.of_view rfl
    · exact (h.rollInHand hN hV).of_view (by rfl)
  | pfwRelease =>
    show nextAll _ (execPfwRelease s)
    unfold execPfwRelease
    split
    · exact resetChip_booked h ..
    · exact h
  | restartPerformed =>
    show nextAll _ (execRestartPerformed s)
    unfold execRestartPerformed
    split
    · exact resetChip_booked h ..
    · exact h
  | holdDeadlineReached =>
    show nextAll _ (execHoldDeadlineReached s)
    unfold execHoldDeadlineReached
    split
    · split
      · exact h.of_view (by rfl)
      · exact h
    · exact h
  | closeEntry => exact execCloseEntry_booked h hM
  | cardPassRecord =>
    show nextAll _ (execCardPassRecord s)
    unfold execCardPassRecord
    split
    · have passed : (s.cardPass s.recovery.cardCursor).booked := by
        unfold State.cardPass
        dsimp only
        split_ifs
        · exact (WorkKept.of_eq (s.noteFault_workPart _)).booksKept.booked h
        · exact h.of_view rfl
        · exact h
      exact passed.of_view (by rfl)
    · exact h
  | recoveryEnd => exact execRecoveryEnd_booked h hJ hM
  | writeTableProgram =>
    refine hP.answerable.writeStep h fun b _ _ _ _ => ?_
    unfold serveWriteProgram
    dsimp only
    split
    · exact hP.refuse h _
    · split
      · exact hP.refuse h _
      · refine hP.done (h.of_view ?_) _
        unfold State.writeProgram
        split
        · have look : ∀ u : State, ({ u with store.programs := [] } : State).bookView = u.bookView := fun _ => rfl
          rw [← look, State.raiseBoundaries_rest, look]
          rfl
        · rfl
  | format => exact cardStep_of (P := State.booked) h fun b _ => serveFormat_booked taken b
  | openLedger => exact cardStep_of (P := State.booked) h fun b _ => serveOpenLedger_booked taken (modeSound_ofCore.takeOffice hM) b
  | closePeriod =>
    refine cardStep_of (P := State.booked) h fun b work => serveClosePeriod_booked taken ?_ b
    obtain ⟨-, -, free⟩ := State.cardLedgerFree_of_pick (State.cardWork_spec work).1
    exact free
  | formatComplete => exact execFormatComplete_booked h hM

end

/-- Journal and settlement together, with the settlement's periods, counts and window by their parts. -/
def State.settles (s : State) : Prop := s.journalSound ∧ s.modeSound ∧ s.shopsNamed ∧ s.visitsSound ∧ s.booked

theorem settles_ofCore : OfCore State.settles := fun s =>
  and_congr Iff.rfl (and_congr Iff.rfl (and_congr Iff.rfl (and_congr Iff.rfl (booked_ofCore s))))

theorem exec_booked {s : State} (h : s.settles) (i : Instr) : nextAll State.booked (exec i s) := by
  obtain ⟨journal, mode, named, visits, booked⟩ := h
  rcases command_kinds i with hi | hi | hi | hi
  · exact booked_ofCore.link hi booked
  · exact hi.booked booked named visits
  · exact (hi.workKept s).mono fun _ kept => kept.booksKept.booked booked
  · exact hi.booked booked journal mode named visits

/-- Two properties of the next state hold together. -/
theorem nextAll.and {P Q : State → Prop} {o : Out} (hP : nextAll P o) (hQ : nextAll Q o) : nextAll (fun t => P t ∧ Q t) o := by
  cases o with
  | next t => exact ⟨hP, hQ⟩
  | fault _ => trivial
  | refused _ => trivial

theorem exec_settles {s : State} (h : s.settles) (i : Instr) : nextAll State.settles (exec i s) := by
  have booked := exec_booked h i
  obtain ⟨journal, mode, named, visits, -⟩ := h
  have sound := (exec_journal ((State.journalSound_iff s).mp journal) i).mono fun t => (State.journalSound_iff t).mpr
  exact sound.and ((exec_mode mode i).and ((exec_named named i).and ((exec_visits visits i).and booked)))

/-- Settles O60: every command keeps each part of the invariant, periods, counts and window with the help of the others. -/
theorem everyStepKeepsTheSettlementSound : Obligations.EveryStepKeepsTheSettlementSound := by
  unfold Obligations.EveryStepKeepsTheSettlementSound
  rintro s t journal ⟨mode, named, periods, counts, window, visits⟩ run
  have before : s.settles := ⟨journal, mode, named, visits, s.booked_iff.mpr ⟨periods, counts, window⟩⟩
  obtain ⟨-, mode', named', visits', booked⟩ := settles_ofCore.step before (fun c _ _ hs => exec_settles hs c) run
  obtain ⟨periods', counts', window'⟩ := t.booked_iff.mp booked
  exact ⟨mode', named', periods', counts', window', visits'⟩

end Sys2Proof.Machine
end
